-- ==== Sys2Proof/Word.lean ====
section
/-!
DEFINITION. The plain types every other file uses: bytes and words of the Control Link, the names of
cameras and control buses, and four (or two) like things held side by side. Nothing here computes more
than a field access.
-/

namespace Sys2Proof

/-- One byte of a link frame, a sample, or a mask. -/
abbrev Byte := BitVec 8

/-- A two-byte field of the Control Link (little-endian, R187). -/
abbrev Half := BitVec 16

/-- A four-byte field: Timebase values, sequence numbers, frame numbers (R119, R16, R127). -/
abbrev Word := BitVec 32

/-- The four cameras (00, Conventions: "Cameras are numbered 0 to 3"). -/
inductive Cam
  | c0 | c1 | c2 | c3
  deriving DecidableEq, Repr

/-- The two control buses (chapter 10). -/
inductive Bus
  | a | b
  deriving DecidableEq, Repr

namespace Cam

/-- The camera's index. A higher index is a narrower camera (00, Conventions). -/
def idx : Cam → Nat
  | c0 => 0
  | c1 => 1
  | c2 => 2
  | c3 => 3

/-- All cameras, widest index first. -/
def all : List Cam := [c0, c1, c2, c3]

/-- All cameras, narrowest index first. -/
def allDown : List Cam := [c3, c2, c1, c0]

/-- The camera of an index, when there is one. -/
def ofNat? : Nat → Option Cam
  | 0 => some c0
  | 1 => some c1
  | 2 => some c2
  | 3 => some c3
  | _ => none

end Cam

/-- One thing for each camera. -/
structure Quad (α : Type) where
  c0 : α
  c1 : α
  c2 : α
  c3 : α
  deriving DecidableEq, Repr

namespace Quad

/-- The same thing for every camera. -/
def const {α : Type} (x : α) : Quad α := ⟨x, x, x, x⟩

/-- The thing of camera `c`. -/
def get {α : Type} (q : Quad α) : Cam → α
  | .c0 => q.c0
  | .c1 => q.c1
  | .c2 => q.c2
  | .c3 => q.c3

/-- `q` with camera `c`'s thing replaced. -/
def set {α : Type} (q : Quad α) (c : Cam) (x : α) : Quad α :=
  match c with
  | .c0 => { q with c0 := x }
  | .c1 => { q with c1 := x }
  | .c2 => { q with c2 := x }
  | .c3 => { q with c3 := x }

/-- One thing for each camera, made from the camera's name. -/
def tab {α : Type} (f : Cam → α) : Quad α := ⟨f .c0, f .c1, f .c2, f .c3⟩

end Quad

/-- One thing for each control bus. -/
structure Duo (α : Type) where
  a : α
  b : α
  deriving DecidableEq, Repr

namespace Duo

/-- The thing of bus `x`. -/
def get {α : Type} (d : Duo α) : Bus → α
  | .a => d.a
  | .b => d.b

/-- `d` with bus `x`'s thing replaced. -/
def set {α : Type} (d : Duo α) (x : Bus) (v : α) : Duo α :=
  match x with
  | .a => { d with a := v }
  | .b => { d with b := v }

end Duo

end Sys2Proof
end

