-- ==== Sys2Proof/Config.lean ====
section
/-!
DEFINITION. The figures the spec fixes for the part, and the free values: constants without a body, about
which nothing can be proved, that stand where the spec gives no value.
-/

namespace Sys2Proof.Config

/-- Bytes of the frame store (R2, R150). -/
abbrev storeBytes : Nat := 268435456

/-- Lines a line buffer holds (R18). -/
abbrev bufferLines : Nat := 4

/-- Segments of the ramp queue (R40). -/
abbrev rampDepth : Nat := 8

/-- Reply places (R180, R181). -/
abbrev replyPlaces : Nat := 8

/-- Notice places (R181). -/
abbrev noticePlaces : Nat := 15

/-- Places of the outbound queue (R181). -/
abbrev outboundPlaces : Nat := 24

/-- Pass-through transactions of one bus (R164, R166). -/
abbrev passPlaces : Nat := 8

/-- Steps of one script (R169). -/
abbrev scriptSteps : Nat := 24

/-- Lines of one fetch window (R141). -/
abbrev windowLines : Nat := 4

/-- Longest body of a link frame (Table 33). -/
abbrev maxBody : Nat := 248

/-- Lowest and highest zoom a field accepts (00, Zoom unit). -/
abbrev zoomMin : Nat := 256
abbrev zoomMax : Nat := 40960

/-- Top of a saturating 32-bit counter (R24). -/
abbrev counterMax : Nat := 4294967295

/-- Interval between two reads of a POLL, in microseconds (R172). -/
abbrev pollInterval : Nat := 1000

/-- Vendor code, part code and revision HELLO returns (R185). -/
abbrev vendorCode : Half := 0x4E5A
abbrev partCode : Half := 0x4D40
abbrev revision : Byte := 1

/-- FREE VALUE (DESIGN CHOICE, entry 12). The four bytes of a field of a reply that is absent: R187 gives the absent value of
one- and two-byte fields only. `field` names the field, `now` is the Timebase value at the capture. -/
opaque absentWord (field : Nat) (now : Word) : Word

/-- FREE VALUE (DESIGN CHOICE, entry 10). The sample at a place of a slot's area that nothing has been written to: the spec says
that the contents of the frame store after initialisation are not visible at any port (R162). `seed` numbers the
allocation of the area, `plane` is 0 for luma, 1 for U and 2 for V. -/
opaque unwrittenSample (seed plane row column : Nat) : Byte

end Sys2Proof.Config
end

