-- ==== Sys2Proof/Syntax.lean ====
section
/-!
DEFINITION. The commands of the block: one constructor for each row of spec/opcode_table.json. A request
carries the tag of its link frame and the fields of its body as Table 31 lays them out (chapter 11), raw: a
field outside its range is a value the rule of the request answers for. An event carries what the outside
decides about it.
-/

namespace Sys2Proof

/-- Body of SET_CAMERA_CAL after the camera byte (Table 31, code 0x06). -/
structure CalBody where
  m : Half
  zmax : Half
  cx : Half
  cy : Half
  px : Half
  py : Half
  interval : Word
  arrival : Word
  first : Word
  flags : Byte
  address : Byte
  deriving DecidableEq, Repr

/-- Body of SET_HANDOFF (Table 31, code 0x07). -/
structure HandoffBody where
  up : Half
  down : Byte
  blend : Byte
  prepare : Byte
  latency : Word
  deriving DecidableEq, Repr

/-- Body of SET_ARBITER (Table 31, code 0x08): three counts and 32, 6 and 6 entry bytes. -/
structure ArbiterBody where
  wheelCount : Byte
  priorityCount : Byte
  robinCount : Byte
  wheel : List Byte
  priority : List Byte
  robin : List Byte
  deriving DecidableEq, Repr

/-- Body of SET_FSYNC after the camera byte (Table 31, code 0x09). -/
structure FsyncBody where
  enable : Byte
  polarity : Byte
  offset : Word
  width : Half
  deriving DecidableEq, Repr

/-- One script step of LOAD_SCRIPT, the eight bytes of Table 34: byte 0, bytes 1 and 2, byte 3, byte 4,
bytes 5 and 6, byte 7. -/
structure RawStep where
  kind : Byte
  word1 : Half
  byte3 : Byte
  byte4 : Byte
  word5 : Half
  byte7 : Byte
  deriving DecidableEq, Repr

/-- Target, register and byte count of SENSOR_READ and SENSOR_WRITE (Table 31, codes 0x14 and 0x15). -/
structure SensorBody where
  form : Byte
  which : Byte
  address : Byte
  register : Half
  count : Byte
  deriving DecidableEq, Repr

/-- Four bytes side by side: the data field of SENSOR_WRITE, and the bytes a target has sent. -/
structure Data4 where
  d0 : Byte
  d1 : Byte
  d2 : Byte
  d3 : Byte
  deriving DecidableEq, Repr

/-- The commands, one for each row of spec/opcode_table.json. -/
inductive Instr
  /-- PIN_RESET: RESETN is asserted (R183). -/
  | pinReset
  /-- BOOTING_END: frame store initialisation is complete (R183). -/
  | bootingEnd
  /-- WRITE_TRANSACTION: the command byte and the bytes shifted in after it (R178, R179). -/
  | writeTransaction (command : Byte) (data : List Byte)
  /-- READ_TRANSACTION: `count` more data bytes of a read are shifted, and chip select rises when `ends` (R178). -/
  | readTransaction (count : Nat) (ends : Bool)
  /-- UNKNOWN_KIND: a request of a kind outside Table 31 (R180). -/
  | unknownKind (tag : Byte) (kind : Byte)
  /-- HELLO (R185). -/
  | hello (tag : Byte)
  /-- RESET_PART (R184). -/
  | resetPart (tag : Byte)
  /-- SET_OUTPUT_FORMAT (R133). -/
  | setOutputFormat (tag : Byte) (wo : Half) (ho : Half) (rate : Word) (hb : Half) (vb : Half)
  /-- SET_OUTPUT_BLANKING (R134). -/
  | setOutputBlanking (tag : Byte) (hb : Half) (vb : Half)
  /-- SET_CAMERA_FORMAT (R1). -/
  | setCameraFormat (tag : Byte) (camera : Byte) (ws : Half) (hs : Half) (slots : Byte)
  /-- REMOVE_CAMERA: SET_CAMERA_FORMAT with slot count 0 (R3). -/
  | removeCamera (tag : Byte) (camera : Byte) (ws : Half) (hs : Half)
  /-- SET_CAMERA_CAL (R4). -/
  | setCameraCal (tag : Byte) (camera : Byte) (body : CalBody)
  /-- SET_HANDOFF (R82). -/
  | setHandoff (tag : Byte) (body : HandoffBody)
  /-- SET_ARBITER (R160). -/
  | setArbiter (tag : Byte) (body : ArbiterBody)
  /-- SET_FSYNC (R175). -/
  | setFsync (tag : Byte) (camera : Byte) (body : FsyncBody)
  /-- SET_NOTICES (R182). -/
  | setNotices (tag : Byte) (mask : Byte)
  /-- LOAD_SCRIPT (R169). -/
  | loadScript (tag : Byte) (camera : Byte) (selector : Byte) (steps : List RawStep)
  /-- START_CAMERA, with its mode byte (R7). -/
  | startCamera (tag : Byte) (camera : Byte) (mode : Byte)
  /-- START_CAMERA_PATTERN: START_CAMERA with mode PATTERN (R9). -/
  | startCameraPattern (tag : Byte) (camera : Byte)
  /-- STOP_CAMERA (R12). -/
  | stopCamera (tag : Byte) (camera : Byte)
  /-- START_OUTPUT (R137). -/
  | startOutput (tag : Byte) (z0 : Half)
  /-- STOP_OUTPUT (R138). -/
  | stopOutput (tag : Byte)
  /-- ZOOM_TO_APPEND: ZOOM_TO with its mode byte (R43). -/
  | zoomToAppend (tag : Byte) (target : Half) (frames : Half) (mode : Byte)
  /-- ZOOM_TO_REPLACE: ZOOM_TO with mode REPLACE (R44). -/
  | zoomToReplace (tag : Byte) (target : Half) (frames : Half)
  /-- ZOOM_CANCEL (R45). -/
  | zoomCancel (tag : Byte)
  /-- SET_DISTANCE (R86). -/
  | setDistance (tag : Byte) (distance : Half)
  /-- SET_VIEW (R76). -/
  | setView (tag : Byte) (mode : Byte) (first : Byte) (second : Byte) (split : Half)
  /-- SENSOR_READ (R166). -/
  | sensorRead (tag : Byte) (body : SensorBody)
  /-- SENSOR_WRITE (R166). -/
  | sensorWrite (tag : Byte) (body : SensorBody) (data : Data4)
  /-- GET_STATUS (R186). -/
  | getStatus (tag : Byte) (part : Byte)
  /-- GET_CAMERA (R25). -/
  | getCamera (tag : Byte) (camera : Byte)
  /-- GET_STATS (R26). -/
  | getStats (tag : Byte) (camera : Byte) (clear : Byte)
  /-- GET_COMPOSITION (R130). -/
  | getComposition (tag : Byte) (selector : Byte)
  /-- FRAME_START from the camera module (R15). -/
  | frameStart (c : Cam)
  /-- LINE_PACKET from the camera module: luma samples and the U and V parts it carries, an empty list for a part not carried (R17). -/
  | linePacket (c : Cam) (luma : List Byte) (u : List Byte) (v : List Byte)
  /-- FRAME_END from the camera module (R20). -/
  | frameEnd (c : Cam)
  /-- PATTERN_FRAME_START: the pattern generator's next frame start (R9). -/
  | patternFrameStart (c : Cam)
  /-- PATTERN_ROW: the pattern generator's next row (R9, R10). -/
  | patternRow (c : Cam)
  /-- PATTERN_FRAME_END: the pattern generator's frame end (R9). -/
  | patternFrameEnd (c : Cam)
  /-- EXPIRY: the camera's armed countdown reaches 0 (R28). -/
  | expiry (c : Cam)
  /-- BOUNDARY: the Output Timing Generator enters vertical blanking (R135). -/
  | boundary
  /-- BLANKING_LINE_START: the next blanking line starts (R135). -/
  | blankingLineStart
  /-- OUTPUT_FRAME_START: the frame start of the output raster (R136). -/
  | outputFrameStart
  /-- LINE_START: the next active line starts (R144). -/
  | lineStart
  /-- OUTPUT_FRAME_END: the frame end of the output raster (R147). -/
  | outputFrameEnd
  /-- GRANT_OPPORTUNITY (R153). -/
  | grantOpportunity
  /-- TRANSFER_COMPLETION: the frame store transfer in progress ends (R150). -/
  | transferCompletion
  /-- TRANSACTION_END: the bus's transaction ends OK (`acked`) with the bytes the target sent, or NO_ACK (R165). -/
  | transactionEnd (bus : Bus) (acked : Bool) (received : Data4)
  /-- BUS_TIMEOUT: the bus's clock line has been held low for 25,000 microseconds (R165). -/
  | busTimeout (bus : Bus)
  /-- WAIT_END: the running script's WAIT has been counted (R171). -/
  | waitEnd (bus : Bus)
  /-- POLL_RETRY: the retry interval of the running script's POLL ends (R172). -/
  | pollRetry (bus : Bus)
  /-- FSYNC_PULSE_START: the effective offset has been counted (R176). -/
  | fsyncPulseStart (c : Cam)
  /-- FSYNC_PULSE_END: the effective offset plus the effective width has been counted (R176). -/
  | fsyncPulseEnd (c : Cam)
  /-- RESETN_RELEASED: RESETN is released after being asserted (R183). -/
  | resetnReleased
  deriving DecidableEq, Repr

end Sys2Proof
end

