-- ==== Sys2Proof/WellFormed.lean ====
section
/-!
DEFINITION. Which commands the outside can send as they are written: a request is the one link frame of its row.
The meanings are total and give an ill-formed command a meaning too; the encoder of link frames
(Sys2Proof/Decode.lean) needs the checks.
-/

namespace Sys2Proof

/-- The request kinds of Table 31. -/
def isRequestKind (kind : Byte) : Bool := decide (1 ≤ kind.toNat ∧ kind.toNat ≤ 0x19)

/-- A SET_ARBITER body has 32 wheel, 6 priority and 6 round-robin entries (R160). -/
def ArbiterBody.wf (b : ArbiterBody) : Bool :=
  decide (b.wheel.length = 32 ∧ b.priority.length = 6 ∧ b.robin.length = 6)

/-- What makes a command one that can be sent.
* a write transaction's command byte is not that of a read (R178);
* an unknown kind is not a kind of Table 31 (R180);
* a row that stands for one mode of a request carries that mode (REMOVE_CAMERA, START_CAMERA_PATTERN and
  ZOOM_TO_REPLACE have rows of their own);
* an arbitration table has all its entries, and a script fits the link frame's body (Table 33). -/
def Instr.wf : Instr → Bool
  | .writeTransaction command _ => command != 0x02
  | .unknownKind _ kind => !isRequestKind kind
  | .setCameraFormat _ _ _ _ slots => slots != 0
  | .startCamera _ _ mode => mode != 1
  | .zoomToAppend _ _ _ mode => mode != 1
  | .setArbiter _ body => body.wf
  | .loadScript _ _ _ steps => decide (3 + 8 * steps.length ≤ Config.maxBody)
  | .pinReset => true
  | .bootingEnd => true
  | .readTransaction _ _ => true
  | .hello _ => true
  | .resetPart _ => true
  | .setOutputFormat _ _ _ _ _ _ => true
  | .setOutputBlanking _ _ _ => true
  | .removeCamera _ _ _ _ => true
  | .setCameraCal _ _ _ => true
  | .setHandoff _ _ => true
  | .setFsync _ _ _ => true
  | .setNotices _ _ => true
  | .startCameraPattern _ _ => true
  | .stopCamera _ _ => true
  | .startOutput _ _ => true
  | .stopOutput _ => true
  | .zoomToReplace _ _ _ => true
  | .zoomCancel _ => true
  | .setDistance _ _ => true
  | .setView _ _ _ _ _ => true
  | .sensorRead _ _ => true
  | .sensorWrite _ _ _ => true
  | .getStatus _ _ => true
  | .getCamera _ _ => true
  | .getStats _ _ _ => true
  | .getComposition _ _ => true
  | .frameStart _ => true
  | .linePacket _ _ _ _ => true
  | .frameEnd _ => true
  | .patternFrameStart _ => true
  | .patternRow _ => true
  | .patternFrameEnd _ => true
  | .expiry _ => true
  | .boundary => true
  | .blankingLineStart => true
  | .outputFrameStart => true
  | .lineStart => true
  | .outputFrameEnd => true
  | .grantOpportunity => true
  | .transferCompletion => true
  | .transactionEnd _ _ _ => true
  | .busTimeout _ => true
  | .waitEnd _ => true
  | .pollRetry _ => true
  | .fsyncPulseStart _ => true
  | .fsyncPulseEnd _ => true
  | .resetnReleased => true

end Sys2Proof
end

