-- ==== Sys2Proof/Decode.lean ====
section
/-!
DEFINITION. Bytes of the Control Link (chapter 11, R187): little-endian fields, the link frame of Table 33, and
the request bodies of Table 31 read and written. `decodeTableWord` answers for the rows to which the table gives
bits: it gives none.
-/

namespace Sys2Proof

/-! ### Little-endian fields (R187) -/

/-- A two-byte field from its bytes, the low byte first. -/
def le16 (b0 b1 : Byte) : Half := b1 ++ b0

/-- A four-byte field from its bytes, the low byte first. -/
def le32 (b0 b1 b2 b3 : Byte) : Word := b3 ++ b2 ++ b1 ++ b0

/-- The bytes of a two-byte field, the low byte first. -/
def bytes16 (h : Half) : List Byte := [h.extractLsb' 0 8, h.extractLsb' 8 8]

/-- The bytes of a four-byte field, the low byte first. -/
def bytes32 (w : Word) : List Byte :=
  [w.extractLsb' 0 8, w.extractLsb' 8 8, w.extractLsb' 16 8, w.extractLsb' 24 8]

/-- A number as a one-byte, two-byte and four-byte field. -/
def byteOf (n : Nat) : Byte := BitVec.ofNat 8 n
def num16 (n : Nat) : List Byte := bytes16 (BitVec.ofNat 16 n)
def num32 (n : Nat) : List Byte := bytes32 (BitVec.ofNat 32 n)

/-- A signed number as a one-byte and a two-byte field, two's complement (R187). -/
def int8 (x : Int) : Byte := BitVec.ofInt 8 x
def int16 (x : Int) : List Byte := bytes16 (BitVec.ofInt 16 x)

/-- A set-or-clear byte (Table 36). -/
def flagByte (b : Bool) : Byte := if b then 1 else 0

/-- A set-or-clear byte of a request: clear when 0 and set otherwise (R187). -/
def flagOf (b : Byte) : Bool := b != 0

/-- The absent value of a one-byte and of a two-byte field (R187). -/
def absent8 : Byte := 0xFF
def absent16 : List Byte := [0xFF, 0xFF]

/-! ### The link frame (Table 33) -/

/-- Sum of bytes modulo 256. -/
def sumBytes (bs : List Byte) : Byte := bs.foldl (· + ·) 0

/-- The check byte: it makes the sum of the bytes from kind through check 0 modulo 256. -/
def checkByte (kind tag : Byte) (body : List Byte) : Byte :=
  0 - (kind + tag + byteOf body.length + sumBytes body)

/-- The bytes of a frame: marker, kind, tag, length, body, check. -/
def frameBytes (marker kind tag : Byte) (body : List Byte) : List Byte :=
  marker :: kind :: tag :: byteOf body.length :: (body ++ [checkByte kind tag body])

/-! ### Request bodies (Table 31) -/

/-- What the Control Link makes of the kind and length of an accepted frame (R180, steps 1 and 2). -/
inductive Parsed
  /-- The kind is not one of Table 31. -/
  | badKind
  /-- The length differs from that of the kind. -/
  | badLength
  /-- The request, as a command. -/
  | request (i : Instr)
  deriving DecidableEq, Repr

/-- The steps of a LOAD_SCRIPT body, eight bytes each (Table 34). -/
def parseSteps : List Byte → List RawStep
  | b0 :: b1 :: b2 :: b3 :: b4 :: b5 :: b6 :: b7 :: rest =>
    ⟨b0, le16 b1 b2, b3, b4, le16 b5 b6, b7⟩ :: parseSteps rest
  | _ => []

/-- The eight bytes of a script step (Table 34). -/
def RawStep.bytes (r : RawStep) : List Byte :=
  r.kind :: (bytes16 r.word1 ++ [r.byte3, r.byte4] ++ bytes16 r.word5 ++ [r.byte7])

/-- A request without a body. -/
def parseEmpty (i : Instr) : List Byte → Parsed
  | [] => .request i
  | _ => .badLength

/-- A request with one body byte. -/
def parseOne (f : Byte → Instr) : List Byte → Parsed
  | [b] => .request (f b)
  | _ => .badLength

/-- A request with two body bytes. -/
def parseTwo (f : Byte → Byte → Instr) : List Byte → Parsed
  | [b, c] => .request (f b c)
  | _ => .badLength

def parseSetOutputFormat (tag : Byte) : List Byte → Parsed
  | [a0, a1, b0, b1, r0, r1, r2, r3, c0, c1, d0, d1] =>
    .request (.setOutputFormat tag (le16 a0 a1) (le16 b0 b1) (le32 r0 r1 r2 r3) (le16 c0 c1) (le16 d0 d1))
  | _ => .badLength

def parseSetOutputBlanking (tag : Byte) : List Byte → Parsed
  | [a0, a1, b0, b1] => .request (.setOutputBlanking tag (le16 a0 a1) (le16 b0 b1))
  | _ => .badLength

/-- SET_CAMERA_FORMAT; slot count 0 is the row REMOVE_CAMERA (R3). -/
def parseSetCameraFormat (tag : Byte) : List Byte → Parsed
  | [c, a0, a1, b0, b1, n] =>
    .request (if n = 0 then .removeCamera tag c (le16 a0 a1) (le16 b0 b1)
      else .setCameraFormat tag c (le16 a0 a1) (le16 b0 b1) n)
  | _ => .badLength

def parseSetCameraCal (tag : Byte) : List Byte → Parsed
  | [c, m0, m1, z0, z1, x0, x1, y0, y1, p0, p1, q0, q1, i0, i1, i2, i3, a0, a1, a2, a3, f0, f1, f2, f3, g, d] =>
    .request (.setCameraCal tag c
      ⟨le16 m0 m1, le16 z0 z1, le16 x0 x1, le16 y0 y1, le16 p0 p1, le16 q0 q1,
        le32 i0 i1 i2 i3, le32 a0 a1 a2 a3, le32 f0 f1 f2 f3, g, d⟩)
  | _ => .badLength

def parseSetHandoff (tag : Byte) : List Byte → Parsed
  | [u0, u1, d, b, p, l0, l1, l2, l3] => .request (.setHandoff tag ⟨le16 u0 u1, d, b, p, le32 l0 l1 l2 l3⟩)
  | _ => .badLength

def parseSetArbiter (tag : Byte) : List Byte → Parsed
  | w :: p :: r :: entries =>
    if entries.length = 44 then
      .request (.setArbiter tag ⟨w, p, r, entries.take 32, (entries.drop 32).take 6, entries.drop 38⟩)
    else .badLength
  | _ => .badLength

def parseSetFsync (tag : Byte) : List Byte → Parsed
  | [c, e, p, o0, o1, o2, o3, w0, w1] => .request (.setFsync tag c ⟨e, p, le32 o0 o1 o2 o3, le16 w0 w1⟩)
  | _ => .badLength

/-- LOAD_SCRIPT: the length must be 3 + 8 × the step count in body byte 2 (R180). -/
def parseLoadScript (tag : Byte) : List Byte → Parsed
  | c :: s :: n :: steps =>
    if steps.length = 8 * n.toNat then .request (.loadScript tag c s (parseSteps steps)) else .badLength
  | _ => .badLength

/-- START_CAMERA; mode PATTERN is the row START_CAMERA_PATTERN (R9). -/
def parseStartCamera (tag : Byte) : List Byte → Parsed
  | [c, m] => .request (if m = 1 then .startCameraPattern tag c else .startCamera tag c m)
  | _ => .badLength

def parseStartOutput (tag : Byte) : List Byte → Parsed
  | [z0, z1] => .request (.startOutput tag (le16 z0 z1))
  | _ => .badLength

/-- ZOOM_TO; mode REPLACE is the row ZOOM_TO_REPLACE (R44). -/
def parseZoomTo (tag : Byte) : List Byte → Parsed
  | [t0, t1, f0, f1, m] =>
    .request (if m = 1 then .zoomToReplace tag (le16 t0 t1) (le16 f0 f1)
      else .zoomToAppend tag (le16 t0 t1) (le16 f0 f1) m)
  | _ => .badLength

def parseSetDistance (tag : Byte) : List Byte → Parsed
  | [d0, d1] => .request (.setDistance tag (le16 d0 d1))
  | _ => .badLength

def parseSetView (tag : Byte) : List Byte → Parsed
  | [m, a, b, s0, s1] => .request (.setView tag m a b (le16 s0 s1))
  | _ => .badLength

def parseSensorRead (tag : Byte) : List Byte → Parsed
  | [f, w, a, r0, r1, n] => .request (.sensorRead tag ⟨f, w, a, le16 r0 r1, n⟩)
  | _ => .badLength

def parseSensorWrite (tag : Byte) : List Byte → Parsed
  | [f, w, a, r0, r1, n, d0, d1, d2, d3] => .request (.sensorWrite tag ⟨f, w, a, le16 r0 r1, n⟩ ⟨d0, d1, d2, d3⟩)
  | _ => .badLength

/-- The request of a frame: kind first, then length (R180, Table 31). -/
def parseRequest (kind tag : Byte) (body : List Byte) : Parsed :=
  match kind.toNat with
  | 0x01 => parseEmpty (.hello tag) body
  | 0x02 => parseEmpty (.resetPart tag) body
  | 0x03 => parseSetOutputFormat tag body
  | 0x04 => parseSetOutputBlanking tag body
  | 0x05 => parseSetCameraFormat tag body
  | 0x06 => parseSetCameraCal tag body
  | 0x07 => parseSetHandoff tag body
  | 0x08 => parseSetArbiter tag body
  | 0x09 => parseSetFsync tag body
  | 0x0A => parseOne (.setNotices tag) body
  | 0x0B => parseLoadScript tag body
  | 0x0C => parseStartCamera tag body
  | 0x0D => parseOne (.stopCamera tag) body
  | 0x0E => parseStartOutput tag body
  | 0x0F => parseEmpty (.stopOutput tag) body
  | 0x10 => parseZoomTo tag body
  | 0x11 => parseEmpty (.zoomCancel tag) body
  | 0x12 => parseSetDistance tag body
  | 0x13 => parseSetView tag body
  | 0x14 => parseSensorRead tag body
  | 0x15 => parseSensorWrite tag body
  | 0x16 => parseOne (.getStatus tag) body
  | 0x17 => parseOne (.getCamera tag) body
  | 0x18 => parseTwo (.getStats tag) body
  | 0x19 => parseOne (.getComposition tag) body
  | _ => .badKind

/-- The frame of a request command: kind, tag and body (Table 31); none for a command that is no request. -/
def encodeRequest : Instr → Option (Byte × Byte × List Byte)
  | .unknownKind tag kind => some (kind, tag, [])
  | .hello tag => some (0x01, tag, [])
  | .resetPart tag => some (0x02, tag, [])
  | .setOutputFormat tag wo ho rate hb vb =>
    some (0x03, tag, bytes16 wo ++ bytes16 ho ++ bytes32 rate ++ bytes16 hb ++ bytes16 vb)
  | .setOutputBlanking tag hb vb => some (0x04, tag, bytes16 hb ++ bytes16 vb)
  | .setCameraFormat tag c ws hs n => some (0x05, tag, c :: (bytes16 ws ++ bytes16 hs ++ [n]))
  | .removeCamera tag c ws hs => some (0x05, tag, c :: (bytes16 ws ++ bytes16 hs ++ [0]))
  | .setCameraCal tag c b =>
    some (0x06, tag, c :: (bytes16 b.m ++ bytes16 b.zmax ++ bytes16 b.cx ++ bytes16 b.cy ++ bytes16 b.px ++ bytes16 b.py
      ++ bytes32 b.interval ++ bytes32 b.arrival ++ bytes32 b.first ++ [b.flags, b.address]))
  | .setHandoff tag b => some (0x07, tag, bytes16 b.up ++ [b.down, b.blend, b.prepare] ++ bytes32 b.latency)
  | .setArbiter tag b =>
    some (0x08, tag, b.wheelCount :: b.priorityCount :: b.robinCount :: (b.wheel ++ b.priority ++ b.robin))
  | .setFsync tag c b => some (0x09, tag, c :: b.enable :: b.polarity :: (bytes32 b.offset ++ bytes16 b.width))
  | .setNotices tag mask => some (0x0A, tag, [mask])
  | .loadScript tag c s steps => some (0x0B, tag, c :: s :: byteOf steps.length :: steps.flatMap RawStep.bytes)
  | .startCamera tag c m => some (0x0C, tag, [c, m])
  | .startCameraPattern tag c => some (0x0C, tag, [c, 1])
  | .stopCamera tag c => some (0x0D, tag, [c])
  | .startOutput tag z0 => some (0x0E, tag, bytes16 z0)
  | .stopOutput tag => some (0x0F, tag, [])
  | .zoomToAppend tag t f m => some (0x10, tag, bytes16 t ++ bytes16 f ++ [m])
  | .zoomToReplace tag t f => some (0x10, tag, bytes16 t ++ bytes16 f ++ [1])
  | .zoomCancel tag => some (0x11, tag, [])
  | .setDistance tag d => some (0x12, tag, bytes16 d)
  | .setView tag m a b s => some (0x13, tag, m :: a :: b :: bytes16 s)
  | .sensorRead tag b => some (0x14, tag, b.form :: b.which :: b.address :: (bytes16 b.register ++ [b.count]))
  | .sensorWrite tag b d =>
    some (0x15, tag, b.form :: b.which :: b.address :: (bytes16 b.register ++ [b.count, d.d0, d.d1, d.d2, d.d3]))
  | .getStatus tag part => some (0x16, tag, [part])
  | .getCamera tag c => some (0x17, tag, [c])
  | .getStats tag c clear => some (0x18, tag, [c, clear])
  | .getComposition tag sel => some (0x19, tag, [sel])
  | .pinReset => none
  | .bootingEnd => none
  | .writeTransaction _ _ => none
  | .readTransaction _ _ => none
  | .frameStart _ => none
  | .linePacket _ _ _ _ => none
  | .frameEnd _ => none
  | .patternFrameStart _ => none
  | .patternRow _ => none
  | .patternFrameEnd _ => none
  | .expiry _ => none
  | .boundary => none
  | .blankingLineStart => none
  | .outputFrameStart => none
  | .lineStart => none
  | .outputFrameEnd => none
  | .grantOpportunity => none
  | .transferCompletion => none
  | .transactionEnd _ _ _ => none
  | .busTimeout _ => none
  | .waitEnd _ => none
  | .pollRetry _ => none
  | .fsyncPulseStart _ => none
  | .fsyncPulseEnd _ => none
  | .resetnReleased => none

/-- The bytes the processor shifts in for a request command, from the marker to the check byte. -/
def requestFrame (i : Instr) : Option (List Byte) :=
  (encodeRequest i).map fun f => frameBytes 0xC3 f.1 f.2.1 f.2.2

/-- The command a word spells by the bits spec/opcode_table.json gives its row. The table gives bits to no row of
this block, so no word spells a command (DEDUCED, entry 9). -/
def decodeTableWord (_nbits _w : Nat) : Option Instr := none

end Sys2Proof
end

