-- ==== Sys2Proof/Machine/State.lean ====
section
/-!
DEFINITION. Everything the spec gives the block, as plain data, and its value after pin reset. Docstrings name the
rule that gives a piece of state; INVENTORY.md lists them all with their reset values.
-/

namespace Sys2Proof.Machine

/-! ### The part -/

/-- Modes of the part (00, Modes of the Part). -/
inductive Mode
  | booting | config | run
  deriving DecidableEq, Repr

/-- Cause of the READY notice (R183, R184). -/
inductive BootCause
  | pin | resetPart
  deriving DecidableEq, Repr

/-! ### Camera ports (chapter 01) -/

/-- Camera states (Table 7). -/
inductive CamState
  | off | loading | waiting | streaming | stalled | faulted | stopping
  deriving DecidableEq, Repr

/-- Reasons of a change of camera state (Table 8); NONE is the fault reason of a camera that has not faulted. -/
inductive Reason
  | none | request | autoStart | started | script | frame | noFirstFrame | stall | stalledOut | stopped
  deriving DecidableEq, Repr

/-- Start modes (R6). -/
inductive StartMode
  | live | pattern
  deriving DecidableEq, Repr

/-- Format part of the camera record (Table 6). -/
structure Format where
  ws : Nat
  hs : Nat
  slots : Nat
  deriving DecidableEq, Repr

/-- Calibration part of the camera record (Table 6). -/
structure Cal where
  m : Nat
  zmax : Nat
  cx : Int
  cy : Int
  px : Int
  py : Int
  interval : Nat
  arrival : Nat
  first : Nat
  autoStart : Bool
  bus : Bus
  address : Nat
  deriving DecidableEq, Repr

/-- Slot states (Table 9). -/
inductive SlotState
  | free | filling | draining | ready
  deriving DecidableEq, Repr

/-- The pin of a slot (Table 9). -/
inductive Pin
  | none | primary | secondary
  deriving DecidableEq, Repr

/-- Means of a frame or of its region, one for each plane (R108). -/
structure Means where
  y : Nat
  u : Nat
  v : Nat
  deriving DecidableEq, Repr

/-- The samples of one row after the width normalisation (R17): `u` and `v` are empty for an odd row. -/
structure RowData where
  luma : List Byte
  u : List Byte
  v : List Byte
  deriving DecidableEq, Repr

/-- Slot record (Table 9), with the slot's area of the frame store: the rows stored in it, by row number, strictly
rising. `seed` is the model's number of the area's allocation (DESIGN CHOICE, entry 10). -/
structure Slot where
  state : SlotState
  pin : Pin
  release : Bool
  seq : Word
  start : Word
  stop : Option Word
  lines : Nat
  dropped : Bool
  outstanding : Nat
  narrow : Bool
  long : Bool
  full : Option Means
  region : Option Means
  seed : Nat
  area : List (Nat × RowData)
  deriving DecidableEq, Repr

/-- A line of the line buffer with its tag (R18). `seed` says which allocation of the slot it was made for. -/
structure BufferedLine where
  slot : Nat
  row : Nat
  seq : Word
  seed : Nat
  data : RowData
  deriving DecidableEq, Repr

/-- One sum with its count (R23). -/
structure Tally where
  sum : Nat
  count : Nat
  deriving DecidableEq, Repr

/-- The statistics sums of one area of a frame (R23). -/
structure PlaneSums where
  y : Tally
  u : Tally
  v : Tally
  deriving DecidableEq, Repr

/-- The statistics sums of the frame being received (R23). -/
structure Sums where
  full : PlaneSums
  region : PlaneSums
  deriving DecidableEq, Repr

/-- The region rectangle latched at the frame start (R106, R107). -/
structure Region where
  xr : Nat
  yr : Nat
  wr : Nat
  hr : Nat
  deriving DecidableEq, Repr

/-- The six counters (R24). -/
structure Counters where
  complete : Nat
  short : Nat
  long : Nat
  damaged : Nat
  truncated : Nat
  stalls : Nat
  deriving DecidableEq, Repr

/-- The running pattern generator (R9): the interval taken at its last frame start, the time since then, and the
next row it offers (Hs when the frame end is next, above Hs when the next frame start is). -/
structure PatternGen where
  interval : Nat
  elapsed : Nat
  nextRow : Nat
  deriving DecidableEq, Repr

/-- One Camera Port (chapter 01). -/
structure Port where
  format : Option Format
  cal : Option Cal
  state : CamState
  startMode : StartMode
  faultReason : Reason
  seq : Word
  buffer : List BufferedLine
  inFlight : Bool
  ring : List Slot
  sums : Sums
  region : Option Region
  counters : Counters
  pattern : Option PatternGen
  deriving DecidableEq, Repr

/-- One camera's part of the Arrival Monitor (R28): the countdown, stopped or with its remaining time, and the stall
count. `stalledNow` is the model's: an expiry moved the camera from STREAMING to STALLED and no microsecond has passed
since (R37; DEDUCED, entry 38). -/
structure Monitor where
  countdown : Option Nat
  stallCount : Nat
  stalledNow : Bool
  deriving DecidableEq, Repr

/-! ### Zoom Controller (chapters 03 to 07) -/

/-- Mode of a ZOOM_TO (R42). -/
inductive RampMode
  | append | replace
  deriving DecidableEq, Repr

/-- Progress of the active segment (Table 13): start value Zs and step count i. -/
structure Progress where
  zs : Nat
  i : Nat
  deriving DecidableEq, Repr

/-- Ramp segment (Table 13); active when its progress is present. -/
structure Segment where
  target : Nat
  frames : Nat
  mode : RampMode
  progress : Option Progress
  deriving DecidableEq, Repr

/-- Correction record (R109). -/
structure Corr where
  g : Nat
  oU : Int
  oV : Int
  approx : Bool
  deriving DecidableEq, Repr

/-- Direction of a blend. -/
inductive Direction
  | forward | back
  deriving DecidableEq, Repr

/-- Engine states (Table 14), each with the items it holds: the prepare count and the incoming-started mark in
PREPARE, k, the latched N and the direction in BLEND, the split row in COMPARE. -/
inductive Engine
  | stopped
  | steady (p : Cam)
  | prepare (o i : Cam) (count : Nat) (started : Bool)
  | blend (o i : Cam) (k n : Nat) (dir : Direction)
  | frozen
  | compare (a b : Cam) (split : Nat)
  deriving DecidableEq, Repr

/-- View modes (R76). -/
inductive View
  | normal
  | locked (c : Cam)
  | compare (a b : Cam) (split : Nat)
  deriving DecidableEq, Repr

/-- Hand-off settings (R82). -/
structure HandoffSettings where
  up : Nat
  down : Nat
  blend : Nat
  prepare : Nat
  latency : Nat
  deriving DecidableEq, Repr

/-- The selection of a camera at a boundary (R121, R122). -/
structure Selection where
  slot : Nat
  seq : Word
  start : Word
  stale : Bool
  deriving DecidableEq, Repr

/-- Geometry of a source (Table 20). -/
structure Geometry where
  x0 : Nat
  y0 : Nat
  wc : Nat
  hc : Nat
  sx : Nat
  sy : Nat
  edgeX : Bool
  edgeY : Bool
  deriving DecidableEq, Repr

/-- Source entry of a composition record (R128). -/
structure SourceEntry where
  camera : Cam
  slot : Nat
  seq : Word
  start : Word
  geometry : Geometry
  corr : Corr
  stale : Bool
  deriving DecidableEq, Repr

/-- Composition record (R127). The engine state carries the incoming camera, direction, k and N; the view carries the
split row. -/
structure Record where
  frame : Word
  timestamp : Word
  target : Word
  candidate : Nat
  applied : Nat
  engine : Engine
  weight : Nat
  view : View
  primary : Option SourceEntry
  secondary : Option SourceEntry
  held : Bool
  forced : Bool
  frozen : Bool
  approx : Bool
  underruns : Nat
  deriving DecidableEq, Repr

/-- The Zoom Controller. `priorM` is the M it goes on using until the next boundary for a camera whose calibration part was
replaced in RUN since the last one (R4); with none, it uses the M of the calibration part. -/
structure Zoom where
  queue : List Segment
  rest : Nat
  heldRun : Bool
  engine : Engine
  pendingCut : Option Cam
  outgoing : Corr
  incoming : Corr
  view : View
  settings : HandoffSettings
  pendingSettings : Option HandoffSettings
  zmax : Quad (Option Nat)
  priorM : Quad (Option Nat)
  distance : Nat
  selection : Quad (Option Selection)
  prevSelected : Quad (Option Word)
  current : Option Record
  previous : Option Record
  deriving DecidableEq, Repr

/-! ### Output Timing Generator and Output Composer (chapters 08 and 10) -/

/-- Output format (R133); the pixel rate is in kpixel/s. -/
structure OutFormat where
  wo : Nat
  ho : Nat
  rate : Nat
  deriving DecidableEq, Repr

/-- A pair hb, vb (R133, R134). -/
structure Blanking where
  hb : Nat
  vb : Nat
  deriving DecidableEq, Repr

/-- Raster position (R135). `begun` says that the frame start of this frame has been taken, `ended` that its frame
end has. -/
inductive Raster
  | stopped
  | blanking (q : Nat) (begun : Bool)
  | active (r : Nat) (ended : Bool)
  deriving DecidableEq, Repr

/-- Frame-sync settings of one camera (Table 29); `high` is polarity HIGH. -/
structure Fsync where
  enable : Bool
  high : Bool
  offset : Nat
  width : Nat
  deriving DecidableEq, Repr

/-- The frame-sync pulse of the frame (R176): effective offset and width, the time since the boundary, and whether the
pulse has started and has ended. -/
structure Pulse where
  offset : Nat
  width : Nat
  elapsed : Nat
  started : Bool
  ended : Bool
  deriving DecidableEq, Repr

/-- What the output port sends (R136). -/
inductive Packet
  | metadata (luma u v : List Byte)
  | frameStart
  | line (r : Nat) (luma u v : List Byte)
  | frameEnd
  deriving DecidableEq, Repr

/-- The Output Timing Generator. -/
structure Otg where
  format : Option OutFormat
  blanking : Option Blanking
  shadow : Option Blanking
  raster : Raster
  phase : Nat
  stopPending : Option Nat
  fsync : Quad Fsync
  fsyncPending : Quad (Option Fsync)
  pulse : Quad (Option Pulse)
  lineActive : Quad Bool
  outPort : Option Packet
  deriving DecidableEq, Repr

/-- Some samples of one stored row: the row, the column of the first sample, the samples (R98). -/
structure Span where
  row : Nat
  first : Nat
  samples : List Byte
  deriving DecidableEq, Repr

/-- The rows a read request returns (R98, R143). -/
structure ReadData where
  luma : List Span
  u : List Span
  v : List Span
  deriving DecidableEq, Repr

/-- State of a line's read request (R141). -/
inductive Fetch
  | waiting
  | inFlight
  | complete (data : ReadData)
  deriving DecidableEq, Repr

/-- One line of a fetch window with the request's tag (R141, R143). -/
structure WindowLine where
  frame : Word
  line : Nat
  fetch : Fetch
  deriving DecidableEq, Repr

/-- A fetch window and the first line of the frame not yet added to it (R141). -/
structure Window where
  lines : List WindowLine
  next : Nat
  deriving DecidableEq, Repr

/-- The Output Composer. -/
structure Composer where
  rp : Window
  rs : Window
  lastLuma : Option (List Byte)
  lastU : Option (List Byte)
  lastV : Option (List Byte)
  deriving DecidableEq, Repr

/-! ### Frame Store Arbiter (chapter 09) -/

/-- Clients (Table 23). -/
inductive Client
  | w (c : Cam)
  | rp
  | rs
  deriving DecidableEq, Repr

/-- Qualifiers (R154). -/
inductive Qualifier
  | any | urgent
  deriving DecidableEq, Repr

/-- An entry of an arbitration table (Table 24). -/
structure ArbEntry where
  client : Client
  qualifier : Qualifier
  deriving DecidableEq, Repr

/-- An arbitration table: the counted entries of its three parts (Table 24). -/
structure ArbTable where
  wheel : List ArbEntry
  priority : List ArbEntry
  robin : List ArbEntry
  deriving DecidableEq, Repr

/-- The request whose transfer is in progress, with its tag (R150, R151). -/
inductive Grant
  | write (c : Cam)
  | read (secondary : Bool) (frame : Word) (line : Nat)
  deriving DecidableEq, Repr

/-- The frame store's channel (R150): FREE, BUSY with a granted request, or used for the initialisation of the frame
store, all through BOOTING (R162). -/
inductive Channel
  | free
  | busy (g : Grant)
  | initialising
  deriving DecidableEq, Repr

/-- The Frame Store Arbiter. -/
structure Arbiter where
  channel : Channel
  table : ArbTable
  pendingTable : Option ArbTable
  wheelPtr : Nat
  robinPtr : Nat
  deriving DecidableEq, Repr

/-! ### Sensor Control Relay (chapter 10) -/

/-- Which script of a camera. -/
inductive Selector
  | start | stop
  deriving DecidableEq, Repr

/-- Script steps (Table 27); times in microseconds, the POLL timeout in milliseconds. -/
inductive Step
  | write (register : Half) (data : List Byte)
  | wait (duration : Nat)
  | poll (register : Half) (mask value : Byte) (timeout : Nat)
  deriving DecidableEq, Repr

/-- The two scripts of a camera (R169). -/
structure Scripts where
  start : List Step
  stop : List Step
  deriving DecidableEq, Repr

/-- A bus transaction (R164). -/
inductive Action
  | write (data : List Byte)
  | read (count : Nat)
  deriving DecidableEq, Repr

/-- A bus transaction with its target and register (R164). -/
structure Transaction where
  address : Nat
  register : Half
  action : Action
  deriving DecidableEq, Repr

/-- Owner of the transaction in progress (R186). -/
inductive Owner
  | pass | script
  deriving DecidableEq, Repr

/-- The bus engine while it is busy. -/
structure Busy where
  owner : Owner
  transaction : Transaction
  deriving DecidableEq, Repr

/-- A pass-through of the queue: its open request and its transaction (R166). -/
structure PassThrough where
  id : Nat
  transaction : Transaction
  deriving DecidableEq, Repr

/-- A script run with the address it was placed with (R170). -/
structure Run where
  camera : Cam
  selector : Selector
  address : Nat
  deriving DecidableEq, Repr

/-- Phases of a running script (Table 28), with the time that remains of a WAIT and of a retry interval. -/
inductive Phase
  | ready
  | onBus
  | waiting (remaining : Nat)
  | retry (remaining : Nat)
  deriving DecidableEq, Repr

/-- The running script and its progress (R170 to R174). `begun` is the Timebase value at which the step began. -/
structure Running where
  run : Run
  step : Nat
  phase : Phase
  begun : Word
  abort : Bool
  deriving DecidableEq, Repr

/-- How an engine leaves the two lines of its bus (R165, R177): with a stop condition, or released without one. -/
inductive LineEnd
  | stop | released
  deriving DecidableEq, Repr

/-- One control bus. `lastEnd` says how the engine left the lines at the last end of a transaction or reset (R165, R177):
the model's view of the port (entry 13). -/
structure BusState where
  engine : Option Busy
  passQueue : List PassThrough
  running : Option Running
  waiting : List Run
  lastEnd : LineEnd
  deriving DecidableEq, Repr

/-- The Sensor Control Relay. -/
structure Relay where
  buses : Duo BusState
  scripts : Quad Scripts
  deriving DecidableEq, Repr

/-! ### Control Link (chapter 11) -/

/-- Status codes (Table 30). -/
inductive Status
  | ok | wrongMode | busy | badKind | badLength | badField | noSpace | queueFull | noAck | busTimeout | flushed
  | notConfigured
  deriving DecidableEq, Repr

/-- Reasons of a LINK_REJECT (R179). -/
inductive RejectReason
  | marker | length | check | full
  deriving DecidableEq, Repr

/-- HANDOFF events (Table 18). -/
inductive HandoffEvent
  | prepare | begin | reverse | resume | complete | returned | cut | fallback | frozen | thaw
  deriving DecidableEq, Repr

/-- ZOOM_LIMIT kinds (R51). -/
inductive LimitKind
  | held | clamped | forced
  deriving DecidableEq, Repr

/-- Results of a script (R173). -/
inductive ScriptResult
  | ok | failed | aborted
  deriving DecidableEq, Repr

/-- Causes of a SCRIPT_DONE (R173). -/
inductive ScriptCause
  | none | noAck | busTimeout | pollTimeout
  deriving DecidableEq, Repr

/-- Notices (Table 32). -/
inductive Notice
  | ready (cause : BootCause)
  | cameraState (c : Cam) (old new : CamState) (reason : Reason)
  | prepareNeeded (c : Cam)
  | handoff (event : HandoffEvent) (source target : Option Cam) (frame : Word)
  | zoomLimit (kind : LimitKind) (value : Nat) (frame : Word)
  | underrun (frame : Word) (count : Nat)
  | scriptDone (c : Cam) (selector : Selector) (result : ScriptResult) (step : Nat) (cause : ScriptCause)
  | frameDone (frame : Word) (timestamp : Word)
  deriving DecidableEq, Repr

/-- A frame of the outbound queue: a reply (request kind, tag, status, what follows the status), a notice with its
repeat count and LOST flag, or the LINK_REJECT of the reject holder (R179 to R181). -/
inductive OutFrame
  | reply (kind tag : Byte) (status : Status) (body : List Byte)
  | notice (n : Notice) (count : Nat) (lost : Bool)
  | reject (reason : RejectReason) (count : Nat) (multiple : Bool)
  deriving DecidableEq, Repr

/-- An open request: the model's name of it, its kind and its tag (R180). -/
structure OpenRequest where
  id : Nat
  kind : Byte
  tag : Byte
  deriving DecidableEq, Repr

/-- The read transaction in progress on the port (R178): none; begun, with no data byte yet; the head frame fixed and
`k` of its bytes shifted; or nothing (more) to send. -/
inductive Reading
  | idle
  | begun
  | shifting (k : Nat)
  | drained
  deriving DecidableEq, Repr

/-- The Control Link. `spiOut` holds what the port has shifted out in its last transaction that was not ignored: every
byte beyond those listed is 0x00 (R178; the model's view of the port, entries 13 and 47). -/
structure Link where
  outbound : List OutFrame
  claims : Nat
  opened : List OpenRequest
  nextId : Nat
  holder : Bool
  mask : Byte
  loss : Bool
  reading : Reading
  spiOut : List Byte
  deriving DecidableEq, Repr

/-! ### The whole block -/

/-- The state of the block, with the queue of waiting commands. -/
structure State where
  mode : Mode
  resetHeld : Bool
  bootCause : BootCause
  timebase : Word
  link : Link
  ports : Quad Port
  monitors : Quad Monitor
  zoom : Zoom
  otg : Otg
  composer : Composer
  arbiter : Arbiter
  relay : Relay
  freeSeed : Nat
  pending : List Instr
  deriving DecidableEq, Repr

/-- Reasons the machine stops with a fault. There are none: the spec describes nothing that stops the part. -/
inductive Fault
  deriving DecidableEq, Repr

/-- Reasons a command has no meaning. -/
inductive Refusal
  /-- Raised by no command of this model: every row of the table has its meaning. Safe (nothing can be claimed of a
  command that is refused). -/
  | notModelled (mnemonic : String)
  deriving DecidableEq, Repr

/-! ### Reset values -/

/-- The identity correction record (R109). -/
def Corr.identity : Corr := ⟨1024, 0, 0, false⟩

/-- No samples summed. -/
def Tally.zero : Tally := ⟨0, 0⟩
def PlaneSums.zero : PlaneSums := ⟨.zero, .zero, .zero⟩
def Sums.zero : Sums := ⟨.zero, .zero⟩

/-- Counters all 0 (R24). -/
def Counters.zero : Counters := ⟨0, 0, 0, 0, 0, 0⟩

/-- A Camera Port after either reset (R27). -/
def Port.reset : Port where
  format := none
  cal := none
  state := .off
  startMode := .live
  faultReason := .none
  seq := 0
  buffer := []
  inFlight := false
  ring := []
  sums := .zero
  region := none
  counters := .zero
  pattern := none

/-- The Arrival Monitor after either reset (R39). -/
def Monitor.reset : Monitor := ⟨none, 0, false⟩

/-- The default hand-off settings (R84). -/
def HandoffSettings.default : HandoffSettings := ⟨102, 51, 8, 3, 16667⟩

/-- The Zoom Controller after either reset (R53, R84, R105, R118, R132). -/
def Zoom.reset : Zoom where
  queue := []
  rest := 1024
  heldRun := false
  engine := .stopped
  pendingCut := none
  outgoing := .identity
  incoming := .identity
  view := .normal
  settings := .default
  pendingSettings := none
  zmax := .const none
  priorM := .const none
  distance := 0
  selection := .const none
  prevSelected := .const none
  current := none
  previous := none

/-- Frame-sync settings after either reset (R177). -/
def Fsync.reset : Fsync := ⟨false, true, 0, 1⟩

/-- The Output Timing Generator after either reset (R149, R177). -/
def Otg.reset : Otg where
  format := none
  blanking := none
  shadow := none
  raster := .stopped
  phase := 0
  stopPending := none
  fsync := .const .reset
  fsyncPending := .const none
  pulse := .const none
  lineActive := .const false
  outPort := none

/-- An empty fetch window. -/
def Window.empty : Window := ⟨[], 0⟩

/-- The Output Composer after either reset (R149). -/
def Composer.reset : Composer := ⟨.empty, .empty, none, none, none⟩

/-- The default arbitration table (Table 25). -/
def ArbTable.default : ArbTable where
  wheel := [⟨.rp, .any⟩, ⟨.w .c0, .any⟩, ⟨.rs, .any⟩, ⟨.w .c1, .any⟩, ⟨.rp, .any⟩, ⟨.w .c2, .any⟩, ⟨.rs, .any⟩, ⟨.w .c3, .any⟩]
  priority := [⟨.rp, .urgent⟩, ⟨.rs, .urgent⟩, ⟨.w .c0, .urgent⟩, ⟨.w .c1, .urgent⟩, ⟨.w .c2, .urgent⟩, ⟨.w .c3, .urgent⟩]
  robin := [⟨.w .c0, .any⟩, ⟨.w .c1, .any⟩, ⟨.w .c2, .any⟩, ⟨.w .c3, .any⟩, ⟨.rp, .any⟩, ⟨.rs, .any⟩]

/-- The Frame Store Arbiter after either reset (R163): the channel initialises the frame store until the end of BOOTING
(R162; DEDUCED, entry 44). -/
def Arbiter.reset : Arbiter := ⟨.initialising, .default, none, 0, 0⟩

/-- A control bus after either reset: a transaction in progress is cut off, and the engine has released both lines without
a stop condition (R177). -/
def BusState.reset : BusState := ⟨none, [], none, [], .released⟩

/-- The Sensor Control Relay after either reset (R177). -/
def Relay.reset : Relay := ⟨⟨.reset, .reset⟩, .const ⟨[], []⟩⟩

/-- The default notice mask: every kind except FRAME_DONE (R182, Table 32). -/
def Link.defaultMask : Byte := 0x7F

/-- The Control Link after pin reset (R183). -/
def Link.reset : Link where
  outbound := []
  claims := 0
  opened := []
  nextId := 0
  holder := false
  mask := Link.defaultMask
  loss := false
  reading := .idle
  spiOut := []

/-- The block right after pin reset, RESETN released: BOOTING (R183). Values the spec does not give are those of
DESIGN CHOICE, entry 30. -/
def State.reset : State where
  mode := .booting
  resetHeld := false
  bootCause := .pin
  timebase := 0
  link := .reset
  ports := .const .reset
  monitors := .const .reset
  zoom := .reset
  otg := .reset
  composer := .reset
  arbiter := .reset
  relay := .reset
  freeSeed := 0
  pending := []

end Sys2Proof.Machine
end

