-- ==== Sys2Proof/Machine/Ops.lean ====
section
/-!
DEFINITION. The operations all families share: reading and replacing one camera's or one bus's part of the state,
comparison of timestamps, clamps, replies, notices with their places in the outbound queue, and the change of a
camera's state.
-/

namespace Sys2Proof.Machine

/-! ### Parts of the state -/

/-- Camera `c`'s port. -/
def State.port (s : State) (c : Cam) : Port := s.ports.get c

/-- `s` with camera `c`'s port replaced. -/
def State.setPort (s : State) (c : Cam) (p : Port) : State := { s with ports := s.ports.set c p }

/-- Camera `c`'s countdown and stall count. -/
def State.monitor (s : State) (c : Cam) : Monitor := s.monitors.get c

/-- `s` with camera `c`'s countdown and stall count replaced. -/
def State.setMonitor (s : State) (c : Cam) (m : Monitor) : State := { s with monitors := s.monitors.set c m }

/-- Bus `x` of the relay. -/
def State.bus (s : State) (x : Bus) : BusState := s.relay.buses.get x

/-- `s` with bus `x` replaced. -/
def State.setBus (s : State) (x : Bus) (b : BusState) : State :=
  { s with relay := { s.relay with buses := s.relay.buses.set x b } }

/-! ### Numbers -/

/-- clamp(x, lo, hi) of the conventions (00), on naturals. -/
def clampNat (lo hi x : Nat) : Nat := if x < lo then lo else if x > hi then hi else x

/-- clamp(x, lo, hi) on integers. -/
def clampInt (lo hi x : Int) : Int := if x < lo then lo else if x > hi then hi else x

/-- Rounded down to even (00). -/
def evenDown (n : Nat) : Nat := n - n % 2

/-- `x` is one of lo to hi. -/
def inRange (lo hi x : Nat) : Bool := decide (lo ≤ x ∧ x ≤ hi)

/-- One more on a counter that saturates (R24). -/
def bump (n : Nat) : Nat := min Config.counterMax (n + 1)

/-! ### Timestamps (R119) -/

/-- The age of timestamp `a` at reference time `b`: (b - a) mod 2^32. -/
def age (a b : Word) : Nat := (b - a).toNat

/-- `a` is not later than `b`. -/
def notLater (a b : Word) : Bool := decide (age a b < 2 ^ 31)

/-- A time in whole microseconds as a Timebase difference. -/
def micros (n : Nat) : Word := BitVec.ofNat 32 n

/-! ### Notices (R181, Table 32) -/

/-- The mask bit of a notice's kind. -/
def Notice.bit : Notice → Nat
  | .ready _ => 0
  | .cameraState _ _ _ _ => 1
  | .prepareNeeded _ => 2
  | .handoff _ _ _ _ => 3
  | .zoomLimit _ _ _ => 4
  | .underrun _ _ => 5
  | .scriptDone _ _ _ _ _ => 6
  | .frameDone _ _ => 7

/-- Same kind and same subject (Table 32): the two coalesce. -/
def Notice.same : Notice → Notice → Bool
  | .ready _, .ready _ => true
  | .cameraState c _ _ _, .cameraState d _ _ _ => c == d
  | .prepareNeeded c, .prepareNeeded d => c == d
  | .handoff e _ _ _, .handoff f _ _ _ => e == f
  | .zoomLimit k _ _, .zoomLimit l _ _ => k == l
  | .underrun _ _, .underrun _ _ => true
  | .scriptDone c s _ _ _, .scriptDone d t _ _ _ => c == d && s == t
  | .frameDone _ _, .frameDone _ _ => true
  | _, _ => false

/-- The frame is a notice. -/
def OutFrame.isNotice : OutFrame → Bool
  | .notice _ _ _ => true
  | _ => false

/-- The frame is a reply. -/
def OutFrame.isReply : OutFrame → Bool
  | .reply _ _ _ _ => true
  | _ => false

/-- The frame is the LINK_REJECT. -/
def OutFrame.isReject : OutFrame → Bool
  | .reject _ _ _ => true
  | _ => false

/-- The frame is a FRAME_DONE notice. -/
def OutFrame.isFrameDone : OutFrame → Bool
  | .notice (.frameDone _ _) _ _ => true
  | _ => false

/-- Notices queued. -/
def noticeCount (q : List OutFrame) : Nat := q.countP OutFrame.isNotice

/-- Replies queued. -/
def replyCount (q : List OutFrame) : Nat := q.countP OutFrame.isReply

/-- Coalesce `n` into the oldest queued notice of its kind and subject: its fields become those of `n`, its repeat
count rises by one up to 255, and it carries LOST when it did or when the loss mark is set (R181). -/
def coalesce (n : Notice) (lost : Bool) : List OutFrame → Option (List OutFrame)
  | [] => none
  | .notice m k f :: rest =>
    if m.same n then some (.notice n (min 255 (k + 1)) (f || lost) :: rest)
    else (coalesce n lost rest).map (OutFrame.notice m k f :: ·)
  | .reply a b c d :: rest => (coalesce n lost rest).map (OutFrame.reply a b c d :: ·)
  | .reject a b c :: rest => (coalesce n lost rest).map (OutFrame.reject a b c :: ·)

/-- The queue without its oldest FRAME_DONE, when it holds one (R181). -/
def dropFrameDone : List OutFrame → Option (List OutFrame)
  | [] => none
  | x :: rest => if x.isFrameDone then some rest else (dropFrameDone rest).map (x :: ·)

/-- The head frame has begun to be shifted out: R181 passes it over. -/
def Reading.holdsHead : Reading → Bool
  | .shifting _ => true
  | _ => false

/-- `f` on the queue, or on the queue behind its head when the head is being shifted out. -/
def pastHead (held : Bool) (f : List OutFrame → Option (List OutFrame)) : List OutFrame → Option (List OutFrame)
  | [] => f []
  | x :: rest => if held then (f rest).map (x :: ·) else f (x :: rest)

/-- The mask enables the notice (R182). -/
def Link.enables (l : Link) (n : Notice) : Bool := l.mask.getLsbD n.bit

/-- A notice is raised: masked, added, coalesced, put in place of the oldest FRAME_DONE, or given up (R181). -/
def Link.raise (l : Link) (n : Notice) : Link :=
  if !l.enables n then l
  else if noticeCount l.outbound < Config.noticePlaces then
    { l with outbound := l.outbound ++ [.notice n 1 l.loss], loss := false }
  else
    match pastHead l.reading.holdsHead (coalesce n l.loss) l.outbound with
    | some q => { l with outbound := q, loss := false }
    | none =>
      match pastHead l.reading.holdsHead dropFrameDone l.outbound with
      | some q => { l with outbound := q ++ [.notice n 1 l.loss], loss := false }
      | none => { l with loss := true }

/-- A notice is raised by a block of the part. -/
def State.raise (s : State) (n : Notice) : State := { s with link := s.link.raise n }

/-- Notices raised in order. -/
def State.raiseAll (s : State) (ns : List Notice) : State := ns.foldl State.raise s

/-! ### Replies (R180) -/

/-- A reply is added at the tail, into the place its request claimed. `kind` is the request's kind. -/
def Link.reply (l : Link) (kind tag : Byte) (status : Status) (body : List Byte) : Link :=
  { l with outbound := l.outbound ++ [.reply kind tag status body] }

/-- The reply to a request taken now. -/
def State.reply (s : State) (kind tag : Byte) (status : Status) (body : List Byte := []) : State :=
  { s with link := s.link.reply kind tag status body }

/-- A request becomes an open request: its reply comes later (R180). Its name is `l.nextId`. -/
def Link.keepOpen (l : Link) (kind tag : Byte) : Link :=
  { l with opened := l.opened ++ [⟨l.nextId, kind, tag⟩], nextId := l.nextId + 1 }

/-- The open request named `id`, when there is one, is answered and is open no longer. -/
def Link.answer (l : Link) (id : Nat) (status : Status) (body : List Byte) : Link :=
  match l.opened.find? (fun o => o.id == id) with
  | some o => { (l.reply o.kind o.tag status body) with opened := l.opened.eraseP (fun o => o.id == id) }
  | none => l

/-- As `Link.answer`, on the whole state. -/
def State.answer (s : State) (id : Nat) (status : Status) (body : List Byte := []) : State :=
  { s with link := s.link.answer id status body }

/-! ### Camera state (R6) -/

/-- The camera's state becomes `new` and a CAMERA_STATE notice is raised (R6). -/
def State.changeState (s : State) (c : Cam) (new : CamState) (reason : Reason) : State :=
  (s.setPort c { s.port c with state := new }).raise (.cameraState c (s.port c).state new reason)

/-- The camera is configured: both parts are present (01, section 1.1). -/
def Port.configured (p : Port) : Bool := p.format.isSome && p.cal.isSome

/-- The camera takes frame packets (Table 7). -/
def CamState.takes : CamState → Bool
  | .waiting => true
  | .streaming => true
  | .stalled => true
  | _ => false

/-- The camera is eligible: configured and not FAULTED (R55). -/
def Port.eligible (p : Port) : Bool := p.configured && p.state != .faulted

/-- The native magnification of the camera's calibration part; 0 for a camera without one, of which no rule asks it. -/
def State.calM (s : State) (c : Cam) : Nat :=
  match (s.port c).cal with
  | some k => k.m
  | none => 0

/-- The native magnification the Zoom Controller uses: until the next boundary the one from before a replacement in RUN,
otherwise that of the calibration part (R4, R104; entry 39). -/
def State.mOf (s : State) (c : Cam) : Nat := (s.zoom.priorM.get c).getD (s.calM c)

/-- Arm the countdown with a timeout of the calibration part (R28). -/
def State.arm (s : State) (c : Cam) (timeout : Cal → Nat) : State :=
  match (s.port c).cal with
  | some k => s.setMonitor c { s.monitor c with countdown := some (timeout k) }
  | none => s

/-- Stop the countdown (R28). -/
def State.disarm (s : State) (c : Cam) : State := s.setMonitor c { s.monitor c with countdown := none }

end Sys2Proof.Machine
end

