-- ==== Sys2Proof/Machine/FrameStore.lean ====
section
/-!
DEFINITION. The frame store, reached by slot, plane, row and column (R2, R18, R150; DESIGN CHOICE, entry 10): a slot's area is the
list of the rows stored in it, strictly rising by row number. What nothing has been written to reads as a free value.
-/

namespace Sys2Proof.Machine

/-- Planes of a stored frame. -/
inductive Plane
  | y | u | v
  deriving DecidableEq, Repr

/-- The plane's number in the free value. -/
def Plane.num : Plane → Nat
  | .y => 0
  | .u => 1
  | .v => 2

/-- A row's samples of a plane. -/
def RowData.plane (d : RowData) : Plane → List Byte
  | .y => d.luma
  | .u => d.u
  | .v => d.v

/-- The area with row `r` stored: a row stored before at its place is replaced. -/
def storeRow (r : Nat) (d : RowData) : List (Nat × RowData) → List (Nat × RowData)
  | [] => [(r, d)]
  | (q, e) :: rest =>
    if r < q then (r, d) :: (q, e) :: rest
    else if r = q then (r, d) :: rest
    else (q, e) :: storeRow r d rest

/-- The row stored at `r`, when one is. -/
def findRow (r : Nat) : List (Nat × RowData) → Option RowData
  | [] => none
  | (q, e) :: rest => if r = q then some e else findRow r rest

/-- The canonical form of an area: stored rows strictly rising. -/
def areaWf (area : List (Nat × RowData)) : Bool := decide (area.Pairwise fun a b => a.1 < b.1)

/-- Source row of a plane's row: chroma row c is carried with luma row 2c (R96). -/
def Plane.sourceRow : Plane → Nat → Nat
  | .y, r => r
  | .u, r => 2 * r
  | .v, r => 2 * r

/-- The sample at column `j` of row `r` of a plane of the slot's area. -/
def Slot.sample (x : Slot) (p : Plane) (r j : Nat) : Byte :=
  match (findRow (p.sourceRow r) x.area).bind fun d => (d.plane p)[j]? with
  | some b => b
  | none => Config.unwrittenSample x.seed p.num r j

/-- Bytes of one frame of an active size (R2). -/
def frameBytesOf (ws hs : Nat) : Nat := ws * hs * 3 / 2

/-- A slot of a newly allocated ring: FREE, no pin, optional fields absent (R1); its numbers are 0 (DESIGN CHOICE, entry 11). -/
def Slot.fresh (seed : Nat) : Slot where
  state := .free
  pin := .none
  release := false
  seq := 0
  start := 0
  stop := none
  lines := 0
  dropped := false
  outstanding := 0
  narrow := false
  long := false
  full := none
  region := none
  seed := seed
  area := []

/-- A new ring of `n` slots whose areas are numbered from `seed` (R1, R2). -/
def freshRing (n seed : Nat) : List Slot := (List.range n).map fun k => Slot.fresh (seed + k)

end Sys2Proof.Machine
end

