-- ==== Sys2Proof/Machine/Stats.lean ====
section
/-!
DEFINITION. Frame statistics (R23, R106 to R108): the region rectangle, the sums a Camera Port keeps while a frame
arrives, and the means it forms from them.
-/

namespace Sys2Proof.Machine

/-! ### The region rectangle (R106, R107) -/

/-- A side of the rectangle: the active size scaled by M_c / M_n, rounded half up, then down to even, and at least 2. -/
def regionSize (size mc mn : Nat) : Nat := max 2 (evenDown ((size * mc + mn / 2) / mn))

/-- The first column (or line) of the rectangle: centred on the optical centre, clamped into the active area, and
rounded to a whole pixel with a half rounded up. -/
def regionFirst (size part : Nat) (centre : Int) : Nat :=
  ((clampInt 0 (16 * ((size : Int) - part)) (8 * size + centre - 8 * part)).toNat + 8) / 16

/-- The next narrower configured camera: the configured camera with the lowest index above `c` (R106). -/
def State.nextNarrower (s : State) (c : Cam) : Option Cam :=
  Cam.all.find? fun n => decide (c.idx < n.idx) && (s.port n).configured

/-- The region rectangle of a frame of camera `c` that starts now, from M as it stands in the two calibration parts (R106);
absent for the narrowest configured camera. -/
def State.regionNow (s : State) (c : Cam) : Option Region :=
  match s.nextNarrower c, (s.port c).format, (s.port c).cal with
  | some n, some f, some k =>
    let wr := regionSize f.ws k.m (s.calM n)
    let hr := regionSize f.hs k.m (s.calM n)
    some ⟨regionFirst f.ws wr k.cx, regionFirst f.hs hr k.cy, wr, hr⟩
  | _, _, _ => none

/-! ### Sums (R23) -/

/-- One more sample. -/
def Tally.add (t : Tally) (x : Byte) : Tally := ⟨t.sum + x.toNat, t.count + 1⟩

/-- All samples of a list. -/
def Tally.addAll (t : Tally) (xs : List Byte) : Tally := xs.foldl Tally.add t

/-- The samples of `xs` whose index, times `step`, lies in the rectangle's columns. -/
def columnsIn (g : Region) (step : Nat) (xs : List Byte) : List Byte :=
  (xs.zipIdx.filter fun p => decide (g.xr ≤ step * p.2 ∧ step * p.2 ≤ g.xr + g.wr - 1)).map Prod.fst

/-- The sums of one area with a row's samples added. -/
def PlaneSums.add (p : PlaneSums) (luma u v : List Byte) : PlaneSums :=
  ⟨p.y.addAll luma, p.u.addAll u, p.v.addAll v⟩

/-- The row lies in the rectangle's lines. -/
def Region.hasRow (g : Region) (r : Nat) : Bool := decide (g.yr ≤ r ∧ r ≤ g.yr + g.hr - 1)

/-- The sums with row `r` added, over the whole frame and over the region (R23, R107). -/
def Sums.add (s : Sums) (region : Option Region) (r : Nat) (d : RowData) : Sums :=
  { full := s.full.add d.luma d.u d.v
    region :=
      match region with
      | some g =>
        if g.hasRow r then s.region.add (columnsIn g 1 d.luma) (columnsIn g 2 d.u) (columnsIn g 2 d.v) else s.region
      | none => s.region }

/-! ### Means (R108) -/

/-- The mean of a sum, rounded half up. -/
def Tally.mean (t : Tally) : Nat := (t.sum + t.count / 2) / t.count

/-- The means of one area. -/
def PlaneSums.means (p : PlaneSums) : Means := ⟨p.y.mean, p.u.mean, p.v.mean⟩

end Sys2Proof.Machine
end

