-- ==== Sys2Proof/Machine/Ports.lean ====
section
/-!
DEFINITION. The Camera Ports' handling of frames (chapter 01, sections 1.5 and 1.6) with the Arrival Monitor's share
(chapter 02): slots, the line buffer, frame starts, lines, frame ends, write completions, and entry to FAULTED.
-/

namespace Sys2Proof.Machine

/-! ### Slots -/

/-- The slot number of the first slot in state `x`. -/
def Port.slotIn (p : Port) (x : SlotState) : Option Nat := p.ring.findIdx? fun t => t.state == x

/-- The port with slot `k` changed by `f`. -/
def Port.modSlot (p : Port) (k : Nat) (f : Slot → Slot) : Port := { p with ring := p.ring.modify k f }

/-- A slot becomes FREE: no pin, no mark, no write outstanding, its means absent; its other fields stand until it is
chosen again (DESIGN CHOICE, entry 11). -/
def Slot.freed (x : Slot) : Slot :=
  { x with state := .free, pin := .none, release := false, outstanding := 0, full := none, region := none }

/-- The slot is READY and has no pin. -/
def Slot.idleReady (x : Slot) : Bool := x.state == .ready && x.pin == .none

/-- Slot `x` is older than `y`, or they tie: by start timestamp, and where those are equal by sequence number (R16). -/
def Slot.olderOrSame (x y : Slot) : Bool :=
  if x.start = y.start then notLater x.seq y.seq else notLater x.start y.start

/-- The oldest of the listed slots, with its number (DEDUCED, entry 18). -/
def oldestOf : List (Slot × Nat) → Option (Slot × Nat)
  | [] => none
  | x :: rest =>
    match oldestOf rest with
    | none => some x
    | some y => if x.1.olderOrSame y.1 then some x else some y

/-- The newest of the listed slots, with its number (DEDUCED, entry 18). -/
def newestOf : List (Slot × Nat) → Option (Slot × Nat)
  | [] => none
  | x :: rest =>
    match newestOf rest with
    | none => some x
    | some y => if y.1.olderOrSame x.1 then some x else some y

/-- The slot a frame start chooses: the FREE slot of lowest number, or else the oldest READY slot without a pin (R16). -/
def Port.chooseSlot (p : Port) : Option Nat :=
  match p.slotIn .free with
  | some k => some k
  | none => (oldestOf (p.ring.zipIdx.filter fun x => x.1.idleReady)).map Prod.snd

/-- The chosen slot's record for the new frame (R16). Its area keeps what is stored there. -/
def Slot.fill (x : Slot) (seq now : Word) : Slot :=
  { x with state := .filling, pin := .none, release := false, seq := seq, start := now, stop := none, lines := 0
           dropped := false, outstanding := 0, narrow := false, long := false, full := none, region := none }

/-! ### The line buffer (R18, R19) -/

/-- The lines `keep` does not hold are withdrawn; the oldest line stays while its write is in flight (R19). -/
def Port.withdraw (p : Port) (keep : BufferedLine → Bool) : Port :=
  match p.buffer with
  | [] => p
  | l :: rest => { p with buffer := if p.inFlight then l :: rest.filter keep else (l :: rest).filter keep }

/-- The waiting lines of slot `k`'s frame are withdrawn. -/
def Port.withdrawFrame (p : Port) (k : Nat) (seq : Word) : Port :=
  p.withdraw fun l => !(l.slot == k && l.seq == seq)

/-- Every waiting line is withdrawn. -/
def Port.withdrawAll (p : Port) : Port := p.withdraw fun _ => false

/-- Slot `k` is discarded: it becomes FREE and its waiting lines are withdrawn. -/
def Port.discardSlot (p : Port) (k : Nat) : Port :=
  match p.ring[k]? with
  | some x => (p.modSlot k Slot.freed).withdrawFrame k x.seq
  | none => p

/-- A line of the FILLING slot `k` is offered to the line buffer: appended, or dropped when four are held (R18). -/
def Port.offer (p : Port) (k : Nat) (row : Nat) (d : RowData) : Port :=
  match p.ring[k]? with
  | none => p
  | some x =>
    if p.buffer.length < Config.bufferLines then
      { (p.modSlot k fun t => { t with outstanding := t.outstanding + 1 }) with
        buffer := p.buffer ++ [⟨k, row, x.seq, x.seed, d⟩] }
    else p.modSlot k fun t => { t with dropped := true }

/-! ### Frame starts (R15, R16, R30) -/

/-- Step 1 of R15: a FILLING slot is truncated. -/
def Port.truncate (p : Port) : Port :=
  match p.slotIn .filling with
  | some k =>
    { p.discardSlot k with counters := { p.counters with truncated := bump p.counters.truncated } }
  | none => p

/-- Steps 1 to 4 of R15, on the port: `region` is the rectangle latched for the new frame. -/
def Port.beginFrame (p : Port) (now : Word) (region : Option Region) : Port :=
  let p1 := p.truncate
  let seq := p1.seq + 1
  let p2 := { p1 with seq := seq, sums := .zero, region := region }
  match p1.chooseSlot with
  | some k => p2.modSlot k fun x => x.fill seq now
  | none => p2

/-- A frame start reaches the port: taken in WAITING, STREAMING and STALLED (R15), with the countdown re-armed (R30). -/
def State.frameStart (s : State) (c : Cam) : State :=
  if (s.port c).state.takes then
    (s.setPort c ((s.port c).beginFrame s.timebase (s.regionNow c))).arm c Cal.arrival
  else s

/-! ### Lines (R17) -/

/-- A row part brought to `n` samples: repeated last sample, or cut; `fill` when there is no sample (R17). -/
def fitRow (n : Nat) (fill : Byte) (xs : List Byte) : List Byte :=
  match xs.getLast? with
  | none => List.replicate n fill
  | some x => xs.take n ++ List.replicate (n - xs.length) x

/-- The row normalised to the active width (R17). A chroma part with no sample is a part not carried (DEDUCED, entry 15). -/
def normaliseRow (ws row : Nat) (luma u v : List Byte) : RowData :=
  if row % 2 = 0 then ⟨fitRow ws 16 luma, fitRow (ws / 2) 128 u, fitRow (ws / 2) 128 v⟩
  else ⟨fitRow ws 16 luma, [], []⟩

/-- Some part was padded or cut (R17). -/
def rowIsNarrow (ws row : Nat) (luma u v : List Byte) : Bool :=
  luma.length != ws || (row % 2 == 0 && (u.length != ws / 2 || v.length != ws / 2))

/-- A line reaches the FILLING slot `k` of a port of active size `f` (R17, steps 2 to 4). -/
def Port.takeLine (p : Port) (f : Format) (k : Nat) (luma u v : List Byte) : Port :=
  match p.ring[k]? with
  | none => p
  | some x =>
    if f.hs ≤ x.lines then p.modSlot k fun t => { t with long := true }
    else
      let d := normaliseRow f.ws x.lines luma u v
      let narrow := x.narrow || rowIsNarrow f.ws x.lines luma u v
      let p1 := p.modSlot k fun t => { t with lines := x.lines + 1, narrow := narrow }
      { p1 with sums := p.sums.add p.region x.lines d }.offer k x.lines d

/-- A line packet reaches the port (R17). -/
def State.linePacket (s : State) (c : Cam) (luma u v : List Byte) : State :=
  let p := s.port c
  match p.state.takes, p.slotIn .filling, p.format with
  | true, some k, some f => s.setPort c (p.takeLine f k luma u v)
  | _, _, _ => s

/-! ### READY (R21, R34) -/

/-- The state change a slot's becoming READY brings: WAITING and STALLED go to STREAMING (R21, R34). A READY at the
instant of the expiry that moved the camera from STREAMING to STALLED leaves it STALLED with stall count 1: R37's last
bullet, which goes before R21, R32 and R34 because section 2.5 has its rules give the outcome of both orders (DEDUCED,
entry 38). -/
def State.frameReady (s : State) (c : Cam) : State :=
  match (s.port c).state with
  | .waiting => s.changeState c .streaming .frame
  | .stalled =>
    if (s.monitor c).stalledNow then s
    else (s.setMonitor c { s.monitor c with stallCount := 0 }).changeState c .streaming .frame
  | _ => s

/-- The counters after a frame became READY (R21). -/
def Counters.ready (n : Counters) (long : Bool) : Counters :=
  { n with complete := bump n.complete, long := if long then bump n.long else n.long }

/-- Slot `k` becomes READY (R21). -/
def State.slotReady (s : State) (c : Cam) (k : Nat) : State :=
  match (s.port c).ring[k]? with
  | some x =>
    (s.setPort c { ((s.port c).modSlot k fun t => { t with state := .ready }) with
      counters := (s.port c).counters.ready x.long }).frameReady c
  | none => s

/-! ### Frame ends (R20) -/

/-- The means of the ended frame, put into the slot record (R108). The rectangle was the frame's and is held no longer
(R107). -/
def Port.formMeans (p : Port) (k : Nat) : Port :=
  { (p.modSlot k fun t =>
      { t with full := some p.sums.full.means, region := p.region.map fun _ => p.sums.region.means }) with region := none }

/-- The FILLING slot `k` is discarded at its frame end: freed, its lines withdrawn, its sums discarded (R20, R23). -/
def Port.discardFrame (p : Port) (k : Nat) (counters : Counters) : Port :=
  { p.discardSlot k with counters := counters, sums := .zero, region := none }

/-- A frame end reaches the port (R20): damaged, short or complete. -/
def State.frameEnd (s : State) (c : Cam) : State :=
  let p := s.port c
  match p.state.takes, p.slotIn .filling, p.format with
  | true, some k, some f =>
    match p.ring[k]? with
    | none => s
    | some x =>
      let q := p.modSlot k fun t => { t with stop := some s.timebase }
      if x.dropped then
        s.setPort c (q.discardFrame k { p.counters with damaged := bump p.counters.damaged })
      else if x.lines < f.hs then
        s.setPort c (q.discardFrame k { p.counters with short := bump p.counters.short })
      else if x.outstanding = 0 then (s.setPort c (q.formMeans k)).slotReady c k
      else s.setPort c ((q.formMeans k).modSlot k fun t => { t with state := .draining })
  | _, _, _ => s

/-! ### Write completions (R19, R150) -/

/-- The written row is stored in the slot area the line's tag names, when the area is still the one it was made for. -/
def Port.storeLine (p : Port) (l : BufferedLine) : Port :=
  p.modSlot l.slot fun x => if x.seed = l.seed then { x with area := storeRow l.row l.data x.area } else x

/-- The completion counts toward its slot: FILLING or DRAINING, with the sequence number of the tag (R19). -/
def Slot.counts (x : Slot) (l : BufferedLine) : Bool :=
  (x.state == .filling || x.state == .draining) && x.seq == l.seq

/-- The write of the port's oldest line has completed: it leaves the buffer, its row is stored, and it counts toward
its slot or is disregarded (R19). -/
def State.writeDone (s : State) (c : Cam) : State :=
  let p := s.port c
  match p.buffer with
  | [] => s.setPort c { p with inFlight := false }
  | l :: rest =>
    let q := { p with buffer := rest, inFlight := false }.storeLine l
    match p.ring[l.slot]? with
    | none => s.setPort c q
    | some x =>
      if x.counts l then
        let t := s.setPort c (q.modSlot l.slot fun y => { y with outstanding := x.outstanding - 1 })
        if x.state = .draining ∧ x.outstanding ≤ 1 then t.slotReady c l.slot else t
      else s.setPort c q

/-! ### Entry to FAULTED (R6, R14) -/

/-- The frame work in hand is discarded (R14): FILLING slots count as truncated, DRAINING slots as damaged. READY slots
keep their state. -/
def Port.discardWork (p : Port) : Port :=
  let q := p.withdrawAll
  { q with
    ring := q.ring.map fun x => if x.state = .filling ∨ x.state = .draining then x.freed else x
    counters :=
      { p.counters with
        truncated := if (p.slotIn .filling).isSome then bump p.counters.truncated else p.counters.truncated
        damaged := if (p.slotIn .draining).isSome then bump p.counters.damaged else p.counters.damaged }
    sums := .zero
    region := none
    pattern := none }

/-- The camera enters FAULTED: its fault reason is set, the notice is raised, the work in hand is discarded (R6, R14). -/
def State.enterFaulted (s : State) (c : Cam) (reason : Reason) : State :=
  let t := s.changeState c .faulted reason
  t.setPort c { (t.port c).discardWork with faultReason := reason }

/-! ### Expiry (R31 to R33) -/

/-- The camera's armed countdown has reached 0, taken with the camera's state as it stands (R28, R31 to R33). A countdown
that is stopped, or has been re-armed (R36), does not expire. -/
def State.expire (s : State) (c : Cam) : State :=
  match (s.monitor c).countdown with
  | none => s
  | some (_ + 1) => s
  | some 0 =>
    match (s.port c).state with
    | .waiting => (s.disarm c).enterFaulted c .noFirstFrame
    | .streaming =>
      let p := s.port c
      let t := s.setPort c { p with counters := { p.counters with stalls := bump p.counters.stalls } }
      ((t.setMonitor c { t.monitor c with stallCount := 1, stalledNow := true }).arm c Cal.arrival).changeState c .stalled
        .stall
    | .stalled =>
      let count := (s.monitor c).stallCount + 1
      let t := s.setMonitor c { s.monitor c with stallCount := count }
      if 3 ≤ count then (t.disarm c).enterFaulted c .stalledOut else t.arm c Cal.arrival
    | _ => s

/-! ### Pattern frames (R9, R10) -/

/-- The level of bar b (R10). -/
def barLevel : Nat → Byte
  | 0 => 16
  | 1 => 64
  | 2 => 112
  | 3 => 160
  | 4 => 208
  | _ => 235

/-- The luma samples of row `r` of the pattern frame with sequence number `seq` (R10). -/
def patternLuma (ws r : Nat) (seq : Word) : List Byte :=
  (List.range ws).map fun j => if r = 0 ∧ j < 8 then seq.setWidth 8 else barLevel (6 * j / ws)

/-- A chroma row of the pattern (R10). -/
def patternChroma (ws r : Nat) : List Byte := if r % 2 = 0 then List.replicate (ws / 2) 128 else []

/-- The generator gives a frame start: the interval of the next one is the calibration's now (R9). -/
def State.patternStart (s : State) (c : Cam) : State :=
  match (s.port c).cal with
  | some k => (s.setPort c { s.port c with pattern := some ⟨k.interval, 0, 0⟩ }).frameStart c
  | none => s

/-- When row `r` of a pattern frame is due, in microseconds after its frame start (R9). -/
def patternRowTime (interval r hs : Nat) : Nat := 3 * interval * r / (4 * hs)

/-- When the frame end of a pattern frame is due (R9). -/
def patternEndTime (interval : Nat) : Nat := 3 * interval / 4

end Sys2Proof.Machine
end

