-- ==== Sys2Proof/Machine/Relay.lean ====
section
/-!
DEFINITION. The Sensor Control Relay (chapter 10): what a transaction puts on the wire, the giving of the bus, script
runs from their start to their end or abort, and pass-throughs. The reports of a script's end act on the Camera Port
(R8, R13).
-/

namespace Sys2Proof.Machine

/-! ### On the wire (R164) -/

/-- What the engine does on the wire, in order (R164): a byte it sends, or a byte it receives and acknowledges or not. `release` is
the release of both lines without a stop condition (R165, R177). -/
inductive Wire
  | start
  | repeatedStart
  | send (b : Byte)
  | receive (acked : Bool)
  | stop
  | release
  deriving DecidableEq, Repr

/-- The target address with the write or the read direction, as an I2C address byte. -/
def addressByte (address : Nat) (read : Bool) : Byte := byteOf (2 * address + (if read then 1 else 0))

/-- What a transaction puts on the wire before its stop condition (R164): the register address goes high byte first, a
read takes a repeated start, and the last byte read is not acknowledged. -/
def Transaction.body (t : Transaction) : List Wire :=
  let head :=
    [Wire.start, .send (addressByte t.address false), .send (t.register.extractLsb' 8 8), .send (t.register.extractLsb' 0 8)]
  match t.action with
  | .write data => head ++ data.map Wire.send
  | .read count =>
    head ++ [.repeatedStart, .send (addressByte t.address true)]
      ++ (List.range count).map (fun k => Wire.receive (decide (k + 1 < count)))

/-- How far a transaction comes on the wire (R165, R177): to its end; to the byte sent that is not acknowledged, `k` bytes
sent before it; or `n` elements, when a held clock line or a reset cuts it off. -/
inductive WireEnd
  | whole
  | refused (k : Nat)
  | cut (n : Nat)
  deriving DecidableEq, Repr

/-- The wire up to and with the byte sent after `k` others. -/
def throughSend : Nat → List Wire → List Wire
  | _, [] => []
  | 0, .send b :: _ => [.send b]
  | k + 1, .send b :: rest => .send b :: throughSend k rest
  | k, w :: rest => w :: throughSend k rest

/-- The wire sequence of a transaction with its end: a stop condition, also right after the byte refused (R165, NO_ACK), or
the release of both lines without one (R165, BUS_TIMEOUT, and R177). -/
def Transaction.wire (t : Transaction) : WireEnd → List Wire
  | .whole => t.body ++ [.stop]
  | .refused k => throughSend k t.body ++ [.stop]
  | .cut n => t.body.take n ++ [.release]

/-! ### Scripts -/

/-- The steps of a script in the store (R169). -/
def State.scriptOf (s : State) (c : Cam) : Selector → List Step
  | .start => (s.relay.scripts.get c).start
  | .stop => (s.relay.scripts.get c).stop

/-- The step a running script is at. -/
def State.stepOf (s : State) (r : Running) : Option Step := (s.scriptOf r.run.camera r.run.selector)[r.step]?

/-- The transaction of a WRITE or POLL step (R171, R172). -/
def Step.transaction (address : Nat) : Step → Option Transaction
  | .write register data => some ⟨address, register, .write data⟩
  | .poll register _ _ _ => some ⟨address, register, .read 1⟩
  | .wait _ => none

/-- The phase a step begins in (R171, R172). -/
def Step.firstPhase : Step → Phase
  | .wait d => .waiting d
  | .write _ _ => .ready
  | .poll _ _ _ _ => .ready

/-- Bus `x` with its running script replaced. -/
def State.setRunning (s : State) (x : Bus) (r : Option Running) : State := s.setBus x { s.bus x with running := r }

/-- Step `k` of the running script begins now (R171). -/
def State.beginStep (s : State) (x : Bus) (r : Running) (k : Nat) : State :=
  match (s.scriptOf r.run.camera r.run.selector)[k]? with
  | some st => s.setRunning x (some { r with step := k, phase := st.firstPhase, begun := s.timebase })
  | none => s.setRunning x (some { r with step := k, phase := .ready, begun := s.timebase })

/-- A run starts at its step 0 on a bus whose runner holds no script (R170). -/
def State.startRun (s : State) (x : Bus) (run : Run) : State :=
  s.beginStep x ⟨run, 0, .ready, s.timebase, false⟩ 0

/-- The head of the waiting-script list, when there is one, starts (R170). -/
def State.startWaiting (s : State) (x : Bus) : State :=
  match (s.bus x).waiting with
  | [] => s
  | run :: rest => (s.setBus x { s.bus x with waiting := rest }).startRun x run

/-- The IDLE engine is given to the running script's ready step, or else to the head pass-through (R168). -/
def State.giveBus (s : State) (x : Bus) : State :=
  let b := s.bus x
  let toPass : State :=
    match b.passQueue with
    | [] => s
    | p :: _ => s.setBus x { b with engine := some ⟨.pass, p.transaction⟩ }
  match b.engine with
  | some _ => s
  | none =>
    match b.running with
    | none => toPass
    | some r =>
      if r.phase = .ready then
        match (s.stepOf r).bind (Step.transaction r.run.address) with
        | some t => s.setBus x { b with engine := some ⟨.script, t⟩, running := some { r with phase := .onBus } }
        | none => toPass
      else toPass

/-- A Camera Port asks for a script run: it starts at once on a bus whose runner is empty, or joins the waiting-script
list (R170). Bus and address are those of the calibration part now. -/
def State.queueRun (s : State) (c : Cam) (sel : Selector) : State :=
  match (s.port c).cal with
  | none => s
  | some k =>
    let run : Run := ⟨c, sel, k.address⟩
    match (s.bus k.bus).running with
    | none => (s.startRun k.bus run).giveBus k.bus
    | some _ => s.setBus k.bus { s.bus k.bus with waiting := (s.bus k.bus).waiting ++ [run] }

/-! ### The end of a script (R8, R13, R173) -/

/-- The port acts on the report of a script's end (R8 for START, R13 for STOP). -/
def State.reportScript (s : State) (c : Cam) (sel : Selector) (result : ScriptResult) : State :=
  match sel with
  | .start =>
    if (s.port c).state = .loading then
      match result with
      | .ok => (s.changeState c .waiting .started).arm c Cal.first
      | .failed => s.enterFaulted c .script
      | .aborted => s
    else s
  | .stop => if (s.port c).state = .stopping then s.changeState c .off .stopped else s

/-- A script of bus `x` ends (R173): SCRIPT_DONE, the report to the port, and the next waiting run. -/
def State.endScript (s : State) (x : Bus) (run : Run) (result : ScriptResult) (step : Nat) (cause : ScriptCause) :
    State :=
  let t := (s.raise (.scriptDone run.camera run.selector result step cause)).reportScript run.camera run.selector result
  (t.setRunning x none).startWaiting x

/-- The running script's step is done: the next step begins, or the script ends OK (R171, R173). -/
def State.stepDone (s : State) (x : Bus) (r : Running) : State :=
  let steps := s.scriptOf r.run.camera r.run.selector
  if r.step + 1 < steps.length then s.beginStep x r (r.step + 1)
  else s.endScript x r.run .ok steps.length .none

/-- The running script fails at its step (R173). -/
def State.stepFails (s : State) (x : Bus) (r : Running) (cause : ScriptCause) : State :=
  s.endScript x r.run .failed r.step cause

/-! ### The end of a transaction (R165, R167, R171, R172) -/

/-- Outcomes of a transaction (R165). -/
inductive BusOutcome
  | ok (received : Data4)
  | noAck
  | timeout
  deriving DecidableEq, Repr

/-- How the engine leaves the lines at an outcome (R165). -/
def BusOutcome.lineEnd : BusOutcome → LineEnd
  | .ok _ => .stop
  | .noAck => .stop
  | .timeout => .released

/-- The status of a pass-through's reply (R167). -/
def BusOutcome.status : BusOutcome → Status
  | .ok _ => .ok
  | .noAck => .noAck
  | .timeout => .busTimeout

/-- The cause a failing outcome gives a script (R171, R172). -/
def BusOutcome.cause : BusOutcome → ScriptCause
  | .ok _ => .none
  | .noAck => .noAck
  | .timeout => .busTimeout

/-- The bytes a target has sent, as a list. -/
def dataList (d : Data4) : List Byte := [d.d0, d.d1, d.d2, d.d3]

/-- The bytes a transaction's outcome gives its owner: those read, in the order received, when it ended OK (R165). -/
def Transaction.bytesRead (t : Transaction) (o : BusOutcome) : List Byte :=
  match t.action, o with
  | .read n, .ok d => (dataList d).take n
  | _, _ => []

/-- The byte of a POLL matches: it agrees with the value wherever the mask has a 1 (R172). -/
def pollMatches (mask value byte : Byte) : Bool := (byte &&& mask) == (value &&& mask)

/-- The transaction of the running script's step has ended with `o` (R171, R172). -/
def State.scriptOutcome (s : State) (x : Bus) (r : Running) (o : BusOutcome) : State :=
  match o with
  | .noAck => s.stepFails x r .noAck
  | .timeout => s.stepFails x r .busTimeout
  | .ok d =>
    match s.stepOf r with
    | some (.poll _ mask value timeout) =>
      if pollMatches mask value d.d0 then s.stepDone x r
      else if age r.begun s.timebase < 1000 * timeout then
        s.setRunning x (some { r with phase := .retry Config.pollInterval })
      else s.stepFails x r .pollTimeout
    | _ => s.stepDone x r

/-- The transaction of bus `x` ends with `o` and its owner is served (R165, R167, R171, R172, R174). -/
def State.serveOwner (s : State) (x : Bus) (b : Busy) (o : BusOutcome) : State :=
  match b.owner with
  | .pass =>
    match (s.bus x).passQueue with
    | [] => s
    | p :: rest =>
      (s.setBus x { s.bus x with passQueue := rest }).answer p.id o.status (b.transaction.bytesRead o)
  | .script =>
    match (s.bus x).running with
    | none => s
    | some r => if r.abort then s.endScript x r.run .aborted r.step .none else s.scriptOutcome x r o

/-- The transaction in progress on bus `x` ends: the engine is IDLE, its owner is served, and the bus is given to the
next transaction (R165, R168). An IDLE engine has no transaction to end. -/
def State.endTransaction (s : State) (x : Bus) (o : BusOutcome) : State :=
  match (s.bus x).engine with
  | none => s
  | some b => ((s.setBus x { s.bus x with engine := none, lastEnd := o.lineEnd }).serveOwner x b o).giveBus x

/-! ### Waits (R171, R172) -/

/-- The WAIT of the running script has been counted: nothing is left of its duration (R171). With some left, it goes on. -/
def State.endWait (s : State) (x : Bus) : State :=
  match (s.bus x).running with
  | some r =>
    match r.phase with
    | .waiting 0 => (s.stepDone x r).giveBus x
    | _ => s
  | none => s

/-- The retry interval of the running script's POLL has been counted: it is READY again (R172). With some left, it goes on. -/
def State.endRetry (s : State) (x : Bus) : State :=
  match (s.bus x).running with
  | some r =>
    match r.phase with
    | .retry 0 => (s.setRunning x (some { r with phase := .ready })).giveBus x
    | _ => s
  | none => s

/-! ### Abort (R174) -/

/-- The run is the START run of camera `c`. -/
def Run.isStart (c : Cam) (r : Run) : Bool := r.camera == c && r.selector == .start

/-- Bus `x` acts on an abort of camera `c`'s START run (R174). -/
def State.abortOn (s : State) (x : Bus) (c : Cam) : State :=
  let b := s.bus x
  if b.waiting.any (Run.isStart c) then
    (s.setBus x { b with waiting := b.waiting.eraseP (Run.isStart c) }).raise (.scriptDone c .start .aborted 0 .none)
  else
    match b.running with
    | some r =>
      if r.run.isStart c then
        if r.phase = .onBus then s.setRunning x (some { r with abort := true })
        else (s.endScript x r.run .aborted r.step .none).giveBus x
      else s
    | none => s

/-- The port asks for the abort of its START run (R12, R174). A run keeps the bus it was placed on, so both are asked. -/
def State.abortStart (s : State) (c : Cam) : State := (s.abortOn .a c).abortOn .b c

/-- The named script is running on some bus or waits in some list (R169). -/
def State.scriptInUse (s : State) (c : Cam) (sel : Selector) : Bool :=
  let uses : Run → Bool := fun r => r.camera == c && r.selector == sel
  [Bus.a, Bus.b].any fun x => ((s.bus x).running.any fun r => uses r.run) || (s.bus x).waiting.any uses

end Sys2Proof.Machine
end

