-- ==== Sys2Proof/Machine/Control.lean ====
section
/-!
DEFINITION. Starting and stopping a camera (R7, R9, R11 to R13, R29, R35): what an accepted START_CAMERA, an
auto-start and an accepted STOP_CAMERA do.
-/

namespace Sys2Proof.Machine

/-! ### Starting (R7, R9, R11) -/

/-- What every accepted start sets: the start mode, the fault reason NONE (R6) and the stall count 0 (R29). -/
def State.markStart (s : State) (c : Cam) (mode : StartMode) : State :=
  (s.setPort c { s.port c with startMode := mode, faultReason := .none }).setMonitor c
    { s.monitor c with stallCount := 0 }

/-- The camera enters WAITING and its countdown is armed with the first-frame timeout (R29). -/
def State.enterWaiting (s : State) (c : Cam) (reason : Reason) : State :=
  (s.changeState c .waiting reason).arm c Cal.first

/-- An accepted LIVE start (R7): LOADING with the START script queued, or WAITING when it has no steps. -/
def State.startLive (s : State) (c : Cam) (reason : Reason) : State :=
  let t := s.markStart c .live
  if (t.scriptOf c .start).isEmpty then t.enterWaiting c reason
  else (t.changeState c .loading reason).queueRun c .start

/-- An accepted PATTERN start: WAITING, and the generator's first frame start at this instant (R9). -/
def State.startPattern (s : State) (c : Cam) : State :=
  ((s.markStart c .pattern).enterWaiting c .request).patternStart c

/-- The Zoom Controller asks the port to start the camera: a LIVE start with reason AUTO_START for an OFF camera, no
effect otherwise (R11). -/
def State.autoStart (s : State) (c : Cam) : State :=
  if (s.port c).state = .off then s.startLive c .autoStart else s

/-! ### Stopping (R12, R13) -/

/-- What a stop makes of a slot (R12, step 3): FREE without a pin, the release mark with one. -/
def Slot.stopped (x : Slot) : Slot := if x.pin = .none then x.freed else { x with release := true }

/-- Steps 2 to 4 of R12 on the port. -/
def Port.stopWork (p : Port) : Port :=
  { p.withdrawAll with ring := p.ring.map Slot.stopped, sums := .zero, region := none, pattern := none }

/-- The stop step: STOPPING with the STOP script queued, or OFF at once (R13). -/
def State.stopStep (s : State) (c : Cam) : State :=
  if (s.port c).startMode = .live ∧ ¬ (s.scriptOf c .stop).isEmpty then
    (s.changeState c .stopping .request).queueRun c .stop
  else s.changeState c .off .request

/-- Step 1 of R12: a LOADING camera's START run is aborted. -/
def State.abortLoading (s : State) (c : Cam) : State :=
  if (s.port c).state = .loading then s.abortStart c else s

/-- An accepted STOP_CAMERA (R12, R13, R35). -/
def State.stopCamera (s : State) (c : Cam) : State :=
  let t := s.abortLoading c
  ((t.setPort c (t.port c).stopWork).disarm c).stopStep c

end Sys2Proof.Machine
end

