-- ==== Sys2Proof/Machine/Operands.lean ====
section
/-!
DEFINITION. The fields of requests brought to the values the blocks hold: ranges of Table 6, script steps of Tables
27 and 34, arbitration entries of Table 24, frame-sync settings of Table 29, and the clamps the rules give.
-/

namespace Sys2Proof.Machine

/-- The camera of a camera byte; none above 3. -/
def camOf (b : Byte) : Option Cam := Cam.ofNat? b.toNat

/-- A script selector byte (Table 31, LOAD_SCRIPT). -/
def selectorOf (b : Byte) : Option Selector :=
  match b.toNat with
  | 0 => some .start
  | 1 => some .stop
  | _ => none

/-- Even and in the range lo to hi. -/
def evenInRange (lo hi n : Nat) : Bool := inRange lo hi n && n % 2 == 0

/-- The format fields of SET_CAMERA_FORMAT are in their ranges (Table 6, R1 step 3). -/
def formatOk (ws hs slots : Nat) : Bool :=
  (slots == 3 || slots == 4) && evenInRange 64 4096 ws && evenInRange 64 3072 hs

/-- The calibration part a SET_CAMERA_CAL body carries (Table 31, code 0x06). -/
def calOf (b : CalBody) : Cal where
  m := b.m.toNat
  zmax := b.zmax.toNat
  cx := b.cx.toInt
  cy := b.cy.toInt
  px := b.px.toInt
  py := b.py.toInt
  interval := b.interval.toNat
  arrival := b.arrival.toNat
  first := b.first.toNat
  autoStart := b.flags.getLsbD 0
  bus := if b.flags.getLsbD 1 then .b else .a
  address := b.address.toNat

/-- The calibration's fields are in the ranges of Table 6 (R4 step 3). -/
def calOk (k : Cal) : Bool :=
  inRange Config.zoomMin Config.zoomMax k.m && inRange k.m Config.zoomMax k.zmax
    && decide (-4096 ≤ k.cx ∧ k.cx ≤ 4096) && decide (-4096 ≤ k.cy ∧ k.cy ≤ 4096)
    && decide (-32768 ≤ k.px ∧ k.px ≤ 32767) && decide (-32768 ≤ k.py ∧ k.py ≤ 32767)
    && inRange 8000 200000 k.interval && inRange 1000 1000000 k.arrival && inRange 10000 4000000 k.first
    && inRange 0 0x7F k.address

/-- A script step from its eight bytes, when its kind is known and its fields are in range (Tables 27 and 34, R169). The
bytes Table 34 gives as 0 (3 to 7 of a WAIT, 7 of a POLL) are not looked at (DESIGN CHOICE, entry 45). -/
def stepOfRaw (r : RawStep) : Option Step :=
  match r.kind.toNat with
  | 1 =>
    if inRange 1 4 r.byte3.toNat then
      some (.write r.word1
        ([r.byte4, r.word5.extractLsb' 0 8, r.word5.extractLsb' 8 8, r.byte7].take r.byte3.toNat))
    else none
  | 2 => if inRange 1 65535 r.word1.toNat then some (.wait r.word1.toNat) else none
  | 3 => if inRange 1 1000 r.word5.toNat then some (.poll r.word1 r.byte3 r.byte4 r.word5.toNat) else none
  | _ => none

/-- All steps of a script, or none when one is refused. -/
def stepsOfRaw : List RawStep → Option (List Step)
  | [] => some []
  | r :: rest =>
    match stepOfRaw r, stepsOfRaw rest with
    | some x, some xs => some (x :: xs)
    | _, _ => none

/-- An arbitration entry from its byte: client in bits 0 to 3, qualifier in bits 4 to 7 (Table 31). -/
def entryOf (b : Byte) : Option ArbEntry :=
  let client : Option Client :=
    match b.toNat % 16 with
    | 0 => some (.w .c0)
    | 1 => some (.w .c1)
    | 2 => some (.w .c2)
    | 3 => some (.w .c3)
    | 4 => some .rp
    | 5 => some .rs
    | _ => none
  let qualifier : Option Qualifier :=
    match b.toNat / 16 with
    | 0 => some .any
    | 1 => some .urgent
    | _ => none
  match client, qualifier with
  | some c, some q => some ⟨c, q⟩
  | _, _ => none

/-- All counted entries, or none when one is refused. -/
def entriesOf : List Byte → Option (List ArbEntry)
  | [] => some []
  | b :: rest =>
    match entryOf b, entriesOf rest with
    | some x, some xs => some (x :: xs)
    | _, _ => none

/-- The frame-sync settings a SET_FSYNC body carries, when polarity and width are in range (R175). -/
def fsyncOf (b : FsyncBody) : Option Fsync :=
  if inRange 0 1 b.polarity.toNat && inRange 1 1000 b.width.toNat then
    some ⟨flagOf b.enable, b.polarity == 1, b.offset.toNat, b.width.toNat⟩
  else none

/-- The values of SET_HANDOFF after steps 3 to 5 of R82. -/
def handoffTaken (b : HandoffBody) : HandoffSettings where
  up := b.up.toNat
  down := b.down.toNat
  blend := clampNat 1 32 b.blend.toNat
  prepare := clampNat 1 16 b.prepare.toNat
  latency := min 100000 b.latency.toNat

/-- Steps 1 and 2 of R82 pass. -/
def marginsOk (b : HandoffBody) : Bool := decide (b.up.toNat ≤ 256 ∧ b.down.toNat < b.up.toNat)

/-- The distance taken: 1 to 99 become 100 (R86). -/
def distanceTaken (d : Nat) : Nat := if 1 ≤ d ∧ d ≤ 99 then 100 else d

end Sys2Proof.Machine
end

