-- ==== Sys2Proof/Machine/Flags.lean ====
section
/-!
DEFINITION. Codes and flag bytes of the messages (Tables 30 to 32, 36 and 37): every one-byte code a reply, a notice
or the metadata line carries for a state, a mark or a set of flags.
-/

namespace Sys2Proof.Machine

/-- Status codes (Table 30). -/
def Status.code : Status → Byte
  | .ok => 0x00
  | .wrongMode => 0x01
  | .busy => 0x02
  | .badKind => 0x03
  | .badLength => 0x04
  | .badField => 0x05
  | .noSpace => 0x06
  | .queueFull => 0x07
  | .noAck => 0x08
  | .busTimeout => 0x09
  | .flushed => 0x0A
  | .notConfigured => 0x0B

/-- Reasons of a LINK_REJECT (Table 32). -/
def RejectReason.code : RejectReason → Byte
  | .marker => 0
  | .length => 1
  | .check => 2
  | .full => 3

/-- Modes, coded as in HELLO (Table 31). -/
def Mode.code : Mode → Byte
  | .booting => 0
  | .config => 1
  | .run => 2

/-- Causes of READY (Table 32). -/
def BootCause.code : BootCause → Byte
  | .pin => 0
  | .resetPart => 1

/-- Camera states (after Table 32). -/
def CamState.code : CamState → Byte
  | .off => 0
  | .loading => 1
  | .waiting => 2
  | .streaming => 3
  | .stalled => 4
  | .faulted => 5
  | .stopping => 6

/-- CAMERA_STATE reasons and fault reasons (after Table 32, Table 36). -/
def Reason.code : Reason → Byte
  | .none => 0
  | .request => 1
  | .autoStart => 2
  | .started => 3
  | .script => 4
  | .frame => 5
  | .noFirstFrame => 6
  | .stall => 7
  | .stalledOut => 8
  | .stopped => 9

/-- HANDOFF events (after Table 32). -/
def HandoffEvent.code : HandoffEvent → Byte
  | .prepare => 1
  | .begin => 2
  | .reverse => 3
  | .resume => 4
  | .complete => 5
  | .returned => 6
  | .cut => 7
  | .fallback => 8
  | .frozen => 9
  | .thaw => 10

/-- ZOOM_LIMIT kinds (Table 32). -/
def LimitKind.code : LimitKind → Byte
  | .held => 0
  | .clamped => 1
  | .forced => 2

/-- Script selectors (Tables 31 and 32). -/
def Selector.code : Selector → Byte
  | .start => 0
  | .stop => 1

/-- Script results (Table 32). -/
def ScriptResult.code : ScriptResult → Byte
  | .ok => 0
  | .failed => 1
  | .aborted => 2

/-- Causes of a SCRIPT_DONE (Table 32). -/
def ScriptCause.code : ScriptCause → Byte
  | .none => 0
  | .noAck => 1
  | .busTimeout => 2
  | .pollTimeout => 3

/-- Start modes (Table 36). -/
def StartMode.code : StartMode → Byte
  | .live => 0
  | .pattern => 1

/-- Slot states (Table 36). -/
def SlotState.code : SlotState → Byte
  | .free => 0
  | .filling => 1
  | .draining => 2
  | .ready => 3

/-- Pins (Table 36). -/
def Pin.code : Pin → Byte
  | .none => 0
  | .primary => 1
  | .secondary => 2

/-- Engine states (Table 36). -/
def Engine.code : Engine → Byte
  | .stopped => 0
  | .steady _ => 1
  | .prepare _ _ _ _ => 2
  | .blend _ _ _ _ _ => 3
  | .frozen => 4
  | .compare _ _ _ => 5

/-- View modes (Table 36). -/
def View.code : View → Byte
  | .normal => 0
  | .locked _ => 1
  | .compare _ _ _ => 2

/-- Directions (Table 36). -/
def Direction.code : Direction → Byte
  | .forward => 1
  | .back => 2

/-- Script phases (Table 36). -/
def Phase.code : Phase → Byte
  | .ready => 0
  | .onBus => 1
  | .waiting _ => 2
  | .retry _ => 3

/-- Modes of a ZOOM_TO (Table 31). -/
def RampMode.code : RampMode → Byte
  | .append => 0
  | .replace => 1

/-- Bus engine (Table 36). -/
def engineCode : Option Busy → Byte
  | none => 0
  | some _ => 1

/-- Bus owner (Table 36). -/
def ownerCode : Option Busy → Byte
  | none => 0
  | some ⟨.pass, _⟩ => 1
  | some ⟨.script, _⟩ => 2

/-- An arbitration client in bits 0 to 3 of an entry (Table 31, SET_ARBITER). -/
def Client.code : Client → Byte
  | .w c => byteOf c.idx
  | .rp => 4
  | .rs => 5

/-- An entry of an arbitration table: client in bits 0 to 3, qualifier in bits 4 to 7 (Table 31). -/
def ArbEntry.code (e : ArbEntry) : Byte :=
  e.client.code ||| (match e.qualifier with | .any => 0x00 | .urgent => 0x10)

/-- A camera, or no camera (R187). -/
def camByte (c : Cam) : Byte := byteOf c.idx
def camOrNone : Option Cam → Byte
  | some c => camByte c
  | none => absent8

/-- Four flags in bits 0 to 3 of a byte. -/
def flagBits (b0 b1 b2 b3 : Bool) : Byte :=
  (if b0 then 1 else 0) ||| (if b1 then 2 else 0) ||| (if b2 then 4 else 0) ||| (if b3 then 8 else 0)

/-- NARROW and LONG flags (Table 36). -/
def Slot.flags (x : Slot) : Byte := flagBits x.narrow x.long false false

/-- Flags of a composition record (Table 35, offset 29). -/
def Record.flags (r : Record) : Byte := flagBits r.held r.forced r.frozen r.approx

/-- Flags of a source entry (Table 35, entry offset 31). -/
def SourceEntry.flags (e : SourceEntry) : Byte := flagBits e.stale e.geometry.edgeX e.geometry.edgeY e.corr.approx

end Sys2Proof.Machine
end

