-- ==== Sys2Proof/Machine/Link.lean ====
section
/-!
DEFINITION. The Control Link (chapter 11): the bytes of the frames it sends, the judgement of inbound frames with the
reject holder, reads of the outbound queue, and the acceptance of a request.
-/

namespace Sys2Proof.Machine

/-! ### Outbound frames (R187, Tables 31 and 32) -/

/-- The kind byte of a notice (Table 32). -/
def Notice.kind (n : Notice) : Byte := 0x40 + byteOf n.bit

/-- The fields of a notice that follow its flags and its repeat count (Table 32). PREPARE_NEEDED carries the camera byte
alone, as Table 32 gives it with its length of 2; R59 says that the notice is queued with the frame number n (DEDUCED,
entry 25). -/
def Notice.fields : Notice → List Byte
  | .ready cause => [cause.code]
  | .cameraState c old new reason => [camByte c, old.code, new.code, reason.code]
  | .prepareNeeded c => [camByte c]
  | .handoff event source target frame => [event.code, camOrNone source, camOrNone target] ++ bytes32 frame
  | .zoomLimit kind value frame => kind.code :: (num16 value ++ bytes32 frame)
  | .underrun frame count => bytes32 frame ++ num16 count
  | .scriptDone c selector result step cause =>
    [camByte c, selector.code, result.code, byteOf step, cause.code]
  | .frameDone frame timestamp => bytes32 frame ++ bytes32 timestamp

/-- The body of the reply to a request: the status, then what follows it (R180). -/
def replyBody (status : Status) (body : List Byte) : List Byte := status.code :: body

/-- The kind of the reply to a request: the request kind plus 0x80, and 0xFF for BAD_KIND (R180). -/
def replyKind (kind : Byte) (status : Status) : Byte := if status = .badKind then 0xFF else kind + 0x80

/-- The bytes of a queued frame as a read shifts them out (Table 33). -/
def OutFrame.bytes : OutFrame → List Byte
  | .reply kind tag status body => frameBytes 0x3C (replyKind kind status) tag (replyBody status body)
  | .notice n count lost => frameBytes 0x3C n.kind 0 (flagByte lost :: byteOf count :: n.fields)
  | .reject reason count multiple => frameBytes 0x3C 0x7F 0 [reason.code, byteOf count, flagByte multiple]

/-- ATTN is driven low while the outbound queue holds a frame (R178). -/
def Link.attnLow (l : Link) : Bool := !l.outbound.isEmpty

/-! ### Reads (R178, R180, R181) -/

/-- The head frame's last byte has been shifted out: it leaves the queue, a reply gives its place back, and the
LINK_REJECT empties the holder. -/
def Link.removeHead (l : Link) : Link :=
  match l.outbound with
  | [] => l
  | .reply _ _ _ _ :: rest => { l with outbound := rest, claims := l.claims - 1 }
  | .notice _ _ _ :: rest => { l with outbound := rest }
  | .reject _ _ _ :: rest => { l with outbound := rest, holder := false }

/-- Shift `n` more bytes of the head frame, of which `k` have been shifted. -/
def Link.shift (l : Link) (k n : Nat) : Link :=
  match l.outbound with
  | [] => { l with reading := .drained, spiOut := List.replicate n 0 }
  | x :: _ =>
    let out := (x.bytes.drop k).take n
    let sent := out ++ List.replicate (n - out.length) 0
    if x.bytes.length ≤ k + n then { l.removeHead with reading := .drained, spiOut := sent }
    else { l with reading := .shifting (k + n), spiOut := sent }

/-- `n` more data bytes of a read transaction. The frame is fixed at the first of them: the head of the queue, or none
(R178). -/
def Link.readBytes (l : Link) (n : Nat) : Link :=
  if n = 0 then { l with reading := (if l.reading = .idle then .begun else l.reading), spiOut := [] }
  else
    match l.reading with
    | .drained => { l with spiOut := List.replicate n 0 }
    | .shifting k => l.shift k n
    | .idle => l.shift 0 n
    | .begun => l.shift 0 n

/-- The transaction on the port has ended: chip select is high. -/
def Link.endRead (l : Link) : Link := { l with reading := .idle }

/-- A write transaction on the port: a read before it has ended, and the device shifts out 0x00 (R178). -/
def Link.beginWrite (l : Link) : Link := { l with reading := .idle, spiOut := [] }

/-- Byte `k` of what the port has shifted out (R178). -/
def Link.spiByte (l : Link) (k : Nat) : Byte := l.spiOut.getD k 0

/-- A part of a read transaction: `n` more data bytes, and the end of the transaction when `ends`. -/
def Link.read (l : Link) (n : Nat) (ends : Bool) : Link :=
  if ends then (l.readBytes n).endRead else l.readBytes n

/-! ### Inbound frames (R179) -/

/-- The queued LINK_REJECT after one more rejected frame: it keeps its position, its reason is the new one, its count
rises by one up to 255, and MULTIPLE is set. -/
def againRejected (reason : RejectReason) : OutFrame → OutFrame
  | .reject _ count _ => .reject reason (min 255 (count + 1)) true
  | x => x

/-- A frame is discarded: the reject holder takes the report (R179). -/
def Link.discard (l : Link) (reason : RejectReason) : Link :=
  if l.holder then { l with outbound := l.outbound.map (againRejected reason) }
  else { l with outbound := l.outbound ++ [.reject reason 1 false], holder := true }

/-- The judgement of an inbound frame, the first failing test first; the test of the reply places comes last and is
`Link.full` (R179). Bytes after the check byte are ignored (R178). -/
def judgeFrame (data : List Byte) : Option RejectReason :=
  match data with
  | [] => none
  | marker :: rest =>
    if marker != 0xC3 then some .marker
    else
      match rest with
      | _ :: _ :: len :: _ =>
        if Config.maxBody < len.toNat then some .length
        else if data.length < len.toNat + 5 then some .length
        else if sumBytes (rest.take (len.toNat + 4)) != 0 then some .check
        else none
      | _ => some .length

/-- All reply places are claimed (R179, R180). -/
def Link.full (l : Link) : Bool := decide (Config.replyPlaces ≤ l.claims)

/-- Kind, tag and body of a frame the judgement has passed. -/
def frameParts (data : List Byte) : Byte × Byte × List Byte :=
  match data with
  | _ :: kind :: tag :: len :: rest => (kind, tag, rest.take len.toNat)
  | _ => (0, 0, [])

/-! ### Acceptance of a request (R179, R180) -/

/-- A request's frame has been shifted in: with RESETN held nothing happens, with every reply place claimed the frame
is discarded as FULL, and otherwise it claims a place and is handled by `handle` at once. -/
def State.accept (s : State) (handle : State → State) : State :=
  if s.resetHeld then s
  else if s.link.full then { s with link := s.link.beginWrite.discard .full }
  else handle { s with link := { s.link.beginWrite with claims := s.link.claims + 1 } }

/-- A request that is taken in CONFIG and RUN: in BOOTING it is refused with WRONG_MODE (R183). -/
def State.acceptLive (s : State) (kind tag : Byte) (handle : State → State) : State :=
  s.accept fun t => if t.mode = .booting then t.reply kind tag .wrongMode else handle t

/-- A request taken in one mode only: in the others it is refused with WRONG_MODE. -/
def State.acceptIn (s : State) (mode : Mode) (kind tag : Byte) (handle : State → State) : State :=
  s.accept fun t => if t.mode = mode then handle t else t.reply kind tag .wrongMode

end Sys2Proof.Machine
end

