-- ==== Sys2Proof/Machine/Replies.lean ====
section
/-!
DEFINITION. The bytes of what the part reports of itself: the composition record of Table 35, and the bodies of the
replies of HELLO, GET_STATUS, GET_CAMERA and GET_STATS (Tables 31, 36, 37). Absent fields carry the codes of R187 and,
where R187 gives none, a free value (DESIGN CHOICE, entry 12).
-/

namespace Sys2Proof.Machine

/-- A list brought to length `n` with a filling byte. -/
def padTo (n : Nat) (fill : Byte) (xs : List Byte) : List Byte := xs ++ List.replicate (n - xs.length) fill

/-- A two-byte field, absent without a value (R187). -/
def half? : Option Nat → List Byte
  | some n => num16 n
  | none => absent16

/-- A four-byte field, a free value without a value (DESIGN CHOICE, entry 12). -/
def word? (field : Nat) (now : Word) : Option Nat → List Byte
  | some n => num32 n
  | none => bytes32 (Config.absentWord field now)

/-! ### The composition record (Table 35) -/

/-- The 32 bytes of a source entry that is present. -/
def SourceEntry.bytes (e : SourceEntry) : List Byte :=
  [1, camByte e.camera, byteOf e.slot] ++ bytes32 e.seq ++ bytes32 e.start
    ++ num16 e.geometry.x0 ++ num16 e.geometry.y0 ++ num16 e.geometry.wc ++ num16 e.geometry.hc
    ++ num32 e.geometry.sx ++ num32 e.geometry.sy
    ++ num16 e.corr.g ++ [int8 e.corr.oU, int8 e.corr.oV, e.flags]

/-- The 32 bytes of an entry; all 0 when it is absent. -/
def entryBytes : Option SourceEntry → List Byte
  | some e => e.bytes
  | none => List.replicate 32 0

/-- Incoming camera, direction, k and N of an engine state (R127): absent where the state does not have them. -/
def Engine.recordFields : Engine → List Byte
  | .prepare _ i _ _ => [camByte i, absent8, absent8, absent8]
  | .blend _ _ k n dir => [absent8, dir.code, byteOf k, byteOf n]
  | .steady _ => [absent8, absent8, absent8, absent8]
  | .frozen => [absent8, absent8, absent8, absent8]
  | .compare _ _ _ => [absent8, absent8, absent8, absent8]
  | .stopped => [absent8, absent8, absent8, absent8]

/-- View mode, view cameras and split row. -/
def View.bytes : View → List Byte
  | .normal => [View.normal.code, absent8, absent8] ++ absent16
  | .locked c => [(View.locked c).code, camByte c, absent8] ++ absent16
  | .compare a b split => [(View.compare a b split).code, camByte a, camByte b] ++ num16 split

/-- The 96 bytes of a record that is present (Table 35). -/
def Record.bytes (r : Record) : List Byte :=
  1 :: (bytes32 r.frame ++ bytes32 r.timestamp ++ bytes32 r.target ++ num16 r.candidate ++ num16 r.applied
    ++ r.engine.code :: r.engine.recordFields ++ num16 r.weight ++ r.view.bytes ++ [r.flags] ++ num16 r.underruns
    ++ entryBytes r.primary ++ entryBytes r.secondary)

/-- The presence byte and the record; all 0 when the record is absent. -/
def recordBytes : Option Record → List Byte
  | some r => r.bytes
  | none => List.replicate 96 0

/-! ### HELLO (R185) -/

/-- What follows the status of HELLO. -/
def helloBody (m : Mode) : List Byte :=
  bytes16 Config.vendorCode ++ bytes16 Config.partCode
    ++ [Config.revision, 4, 4, byteOf Config.rampDepth, byteOf Config.replyPlaces, m.code]

/-! ### GET_STATUS (R186, Table 37) -/

/-- Engine state, its cameras, k, N and direction. -/
def Engine.statusFields : Engine → List Byte
  | .stopped => [Engine.stopped.code, absent8, absent8, absent8, absent8, absent8]
  | .steady p => [(Engine.steady p).code, camByte p, absent8, absent8, absent8, absent8]
  | .prepare o i n m => [(Engine.prepare o i n m).code, camByte o, camByte i, absent8, absent8, absent8]
  | .blend o i k n dir => [(Engine.blend o i k n dir).code, camByte o, camByte i, byteOf k, byteOf n, dir.code]
  | .frozen => [Engine.frozen.code, absent8, absent8, absent8, absent8, absent8]
  | .compare a b split => [(Engine.compare a b split).code, camByte a, camByte b, absent8, absent8, absent8]

/-- The nine bytes of hand-off settings, as the SET_HANDOFF body. -/
def HandoffSettings.bytes (h : HandoffSettings) : List Byte :=
  num16 h.up ++ [byteOf h.down, byteOf h.blend, byteOf h.prepare] ++ num32 h.latency

/-- Pending hand-off settings with their presence byte. -/
def pendingSettingsBytes (now : Word) : Option HandoffSettings → List Byte
  | some h => 1 :: h.bytes
  | none => 0 :: (absent16 ++ [absent8, absent8, absent8] ++ word? 0 now none)

/-- Section 0 PART. -/
def State.partBytes (s : State) : List Byte :=
  [s.mode.code, flagByte s.otg.stopPending.isSome] ++ s.zoom.engine.statusFields ++ s.zoom.view.bytes
    ++ s.zoom.settings.bytes ++ pendingSettingsBytes s.timebase s.zoom.pendingSettings ++ num16 s.zoom.distance
    ++ [flagByte s.otg.format.isSome] ++ half? (s.otg.format.map OutFormat.wo) ++ half? (s.otg.format.map OutFormat.ho)
    ++ word? 1 s.timebase (s.otg.format.map OutFormat.rate)
    ++ half? (s.otg.blanking.map Blanking.hb) ++ half? (s.otg.blanking.map Blanking.vb)
    ++ [flagByte s.otg.shadow.isSome] ++ half? (s.otg.shadow.map Blanking.hb) ++ half? (s.otg.shadow.map Blanking.vb)
    ++ [s.link.mask, byteOf s.link.claims, byteOf s.link.outbound.length, byteOf (noticeCount s.link.outbound),
        flagByte s.link.loss, flagByte s.link.holder] ++ bytes32 s.timebase

/-- A segment of section 1. -/
def Segment.bytes (g : Segment) : List Byte :=
  num16 g.target ++ num16 g.frames ++ [g.mode.code, flagByte g.progress.isSome]
    ++ half? (g.progress.map Progress.zs) ++ half? (g.progress.map Progress.i)

/-- Section 1 RAMP. -/
def Zoom.rampBytes (z : Zoom) : List Byte :=
  byteOf z.queue.length :: (num16 z.rest ++ z.queue.flatMap Segment.bytes)

/-- Counts and entries of an arbitration table, absent beyond each count. -/
def ArbTable.bytes (t : ArbTable) : List Byte :=
  [byteOf t.wheel.length, byteOf t.priority.length, byteOf t.robin.length]
    ++ padTo 32 absent8 (t.wheel.map ArbEntry.code) ++ padTo 6 absent8 (t.priority.map ArbEntry.code)
    ++ padTo 6 absent8 (t.robin.map ArbEntry.code)

/-- The pending table with its mark. -/
def pendingTableBytes : Option ArbTable → List Byte
  | some t => 1 :: t.bytes
  | none => 0 :: List.replicate 47 absent8

/-- Section 2 ARBITER. -/
def Arbiter.bytes (a : Arbiter) : List Byte :=
  a.table.bytes ++ [byteOf a.wheelPtr, byteOf a.robinPtr] ++ pendingTableBytes a.pendingTable

/-- A running script in section 3. -/
def runningBytes : Option Running → List Byte
  | some r => [camByte r.run.camera, r.run.selector.code, byteOf r.step, r.phase.code]
  | none => [absent8, absent8, absent8, absent8]

/-- A bus in section 3. -/
def BusState.bytes (b : BusState) : List Byte :=
  [engineCode b.engine, ownerCode b.engine, byteOf b.passQueue.length] ++ runningBytes b.running
    ++ [byteOf b.waiting.length] ++ padTo 8 absent8 (b.waiting.flatMap fun r => [camByte r.camera, r.selector.code])

/-- Section 3 RELAY. -/
def Relay.bytes (r : Relay) : List Byte := r.buses.a.bytes ++ r.buses.b.bytes

/-- What follows the status of GET_STATUS for a section number; none above 3. -/
def State.statusBody (s : State) (part : Byte) : Option (List Byte) :=
  match part.toNat with
  | 0 => some (part :: s.partBytes)
  | 1 => some (part :: s.zoom.rampBytes)
  | 2 => some (part :: s.arbiter.bytes)
  | 3 => some (part :: s.relay.bytes)
  | _ => none

/-! ### GET_CAMERA (R25) -/

/-- The format part. -/
def formatBytes : Option Format → List Byte
  | some f => num16 f.ws ++ num16 f.hs ++ [byteOf f.slots]
  | none => absent16 ++ absent16 ++ [absent8]

/-- The calibration part. -/
def calBytes (now : Word) : Option Cal → List Byte
  | some k =>
    num16 k.m ++ num16 k.zmax ++ int16 k.cx ++ int16 k.cy ++ int16 k.px ++ int16 k.py
      ++ num32 k.interval ++ num32 k.arrival ++ num32 k.first
      ++ [flagBits k.autoStart (k.bus == .b) false false, byteOf k.address]
  | none =>
    absent16 ++ absent16 ++ absent16 ++ absent16 ++ absent16 ++ absent16
      ++ word? 2 now none ++ word? 3 now none ++ word? 4 now none ++ [absent8, absent8]

/-- The 19 bytes of a slot. `k` is its number. -/
def Slot.bytes (now : Word) (k : Nat) (x : Slot) : List Byte :=
  [x.state.code, x.pin.code, flagByte x.release] ++ bytes32 x.seq ++ bytes32 x.start
    ++ flagByte x.stop.isSome :: word? (5 + k) now (x.stop.map BitVec.toNat) ++ num16 x.lines ++ [x.flags]

/-- What follows the status of GET_CAMERA. -/
def State.cameraBody (s : State) (c : Cam) : List Byte :=
  let p := s.port c
  flagBits p.format.isSome p.cal.isSome false false :: (formatBytes p.format ++ calBytes s.timebase p.cal
    ++ [p.state.code, p.startMode.code, p.faultReason.code] ++ bytes32 p.seq
    ++ [byteOf (s.monitor c).stallCount, byteOf p.buffer.length, byteOf p.ring.length]
    ++ (p.ring.zipIdx.flatMap fun x => x.1.bytes s.timebase x.2))

/-! ### GET_STATS (R26) -/

/-- Means, absent without a value. -/
def meansBytes : Option Means → List Byte
  | some m => [byteOf m.y, byteOf m.u, byteOf m.v]
  | none => [absent8, absent8, absent8]

/-- The newest READY slot. -/
def Port.newestReady (p : Port) : Option Slot :=
  (newestOf (p.ring.zipIdx.filter fun x => x.1.state == .ready)).map Prod.fst

/-- The six counters. -/
def Counters.bytes (n : Counters) : List Byte :=
  num32 n.complete ++ num32 n.short ++ num32 n.long ++ num32 n.damaged ++ num32 n.truncated ++ num32 n.stalls

/-- The slot part of GET_STATS. -/
def statsSlotBytes (now : Word) : Option Slot → List Byte
  | some x =>
    1 :: (bytes32 x.seq ++ meansBytes x.full ++ flagByte x.region.isSome :: meansBytes x.region ++ [x.flags])
  | none => 0 :: (word? 9 now none ++ meansBytes none ++ 0 :: meansBytes none ++ [absent8])

/-- What follows the status of GET_STATS. -/
def State.statsBody (s : State) (c : Cam) : List Byte :=
  (s.port c).counters.bytes ++ statsSlotBytes s.timebase (s.port c).newestReady

end Sys2Proof.Machine
end

