-- ==== Sys2Proof/Machine/Service.lean ====
section
/-!
DEFINITION. Which cameras can serve which zoom (R41, R54 to R58): effective service maxima, coverage, thresholds, the
fresh choice and the zoom window of an engine state.
-/

namespace Sys2Proof.Machine

/-! ### Service ranges (R54, R55) -/

/-- The effective service maximum of a camera for output width `wo` (R54). -/
def effectiveMax (k : Cal) (f : Format) (wo : Nat) : Nat := min k.zmax (k.m * f.ws * 8 / wo)

/-- Camera `c`'s Zmax: the effective service maximum the Zoom Controller holds, or the configured one where it holds
none (R5, R54). -/
def State.zmaxOf (s : State) (c : Cam) : Nat :=
  match s.zoom.zmax.get c with
  | some z => z
  | none =>
    match (s.port c).cal with
    | some k => k.zmax
    | none => 0

/-- The camera is configured. -/
def State.configured (s : State) (c : Cam) : Bool := (s.port c).configured

/-- The camera is eligible (R55). -/
def State.eligible (s : State) (c : Cam) : Bool := (s.port c).eligible

/-- The service ranges of two cameras overlap (R55), by the M in use (R4, entry 39). -/
def State.overlap (s : State) (a b : Cam) : Bool :=
  decide (max (s.mOf a) (s.mOf b) ≤ min (s.zmaxOf a) (s.zmaxOf b))

/-- The coverage requirement over service ranges (M, Zmax) in index order (R55). -/
def coverageHolds : List (Nat × Nat) → Bool
  | a :: b :: rest => decide (b.1 ≤ a.2) && coverageHolds (b :: rest)
  | _ => true

/-! ### Zoom bounds (R41) -/

/-- The widest and the narrowest eligible camera. -/
def State.widestEligible (s : State) : Option Cam := Cam.all.find? s.eligible
def State.narrowestEligible (s : State) : Option Cam := Cam.allDown.find? s.eligible

/-- The zoom bounds Zlo and Zhi (R41), from the M in use and Zmax as it stands: after a SET_CAMERA_CAL accepted in RUN the new
Zmax at once, the new M from the next boundary (R4, R104; DEDUCED, entry 39). -/
def State.zoomBounds (s : State) : Nat × Nat :=
  match s.zoom.view with
  | .locked c => (s.mOf c, s.zmaxOf c)
  | _ =>
    match s.widestEligible, s.narrowestEligible with
    | some w, some n => (s.mOf w, s.zmaxOf n)
    | _, _ => (Config.zoomMin, Config.zoomMax)

/-- A zoom clamped to bounds (R41). -/
def clampTo (b : Nat × Nat) (z : Nat) : Nat := clampNat b.1 b.2 z

/-- A requested zoom clamped first into the field range and then to the bounds (R42, R52). -/
def State.clampZoom (s : State) (z : Nat) : Nat := clampTo s.zoomBounds (clampNat Config.zoomMin Config.zoomMax z)

/-! ### Thresholds and fresh choice (R56, R57) -/

/-- The next wider eligible camera. -/
def State.nextWider (s : State) (n : Cam) : Option Cam :=
  Cam.allDown.find? fun c => decide (c.idx < n.idx) && s.eligible c

/-- The threshold of camera `n` for a margin (R56). -/
def State.threshold (s : State) (margin : Nat) (n : Cam) : Nat :=
  match s.nextWider n with
  | some c => min ((s.mOf n * (1024 + margin) + 512) / 1024) (s.zmaxOf c)
  | none => s.mOf n

/-- The up threshold U_n and the down threshold D_n, with the applied margins (R56). -/
def State.upOf (s : State) (n : Cam) : Nat := s.threshold s.zoom.settings.up n
def State.downOf (s : State) (n : Cam) : Nat := s.threshold s.zoom.settings.down n

/-- The fresh choice F(Z) (R57). -/
def State.freshChoice (s : State) (z : Nat) : Option Cam :=
  match s.zoom.view with
  | .locked c => some c
  | _ =>
    match Cam.allDown.find? fun n => s.eligible n && decide (s.upOf n ≤ z) with
    | some n => some n
    | none => s.widestEligible

/-! ### The zoom window (R58, Table 16) -/

/-- The zoom window of an engine state; none in FROZEN and STOPPED. -/
def State.window (s : State) : Engine → Option (Nat × Nat)
  | .steady p => some (s.mOf p, s.zmaxOf p)
  | .prepare o _ _ _ => some (s.mOf o, s.zmaxOf o)
  | .blend o i _ _ _ => some (max (s.mOf o) (s.mOf i), min (s.zmaxOf o) (s.zmaxOf i))
  | .compare a b _ => some (max (s.mOf a) (s.mOf b), min (s.zmaxOf a) (s.zmaxOf b))
  | .frozen => none
  | .stopped => none

/-! ### Cameras the engine state names (R4, R74) -/

/-- The cameras of an engine state. -/
def Engine.cams : Engine → List Cam
  | .stopped => []
  | .frozen => []
  | .steady p => [p]
  | .prepare o i _ _ => [o, i]
  | .blend o i _ _ _ => [o, i]
  | .compare a b _ => [a, b]

/-- The cameras a record names as sources. -/
def Record.cams (r : Record) : List Cam := (r.primary.toList ++ r.secondary.toList).map SourceEntry.camera

/-- Camera `c` is named in the current state of the hand-off engine; in FROZEN, in the repeated record (R4, R74). -/
def State.names (s : State) (c : Cam) : Bool :=
  match s.zoom.engine with
  | .frozen =>
    match s.zoom.current with
    | some r => r.cams.contains c
    | none => false
  | e => e.cams.contains c

end Sys2Proof.Machine
end

