-- ==== Sys2Proof/Machine/CameraCommands.lean ====
section
/-!
DEFINITION. Meanings of the requests of the Camera Ports (chapter 01): format and removal, calibration, start and stop,
GET_CAMERA and GET_STATS.
-/

namespace Sys2Proof.Machine

/-! ### Format and removal (R1 to R3) -/

/-- Bytes of a ring of a format (R2). -/
def Format.bytes (f : Format) : Nat := f.slots * frameBytesOf f.ws f.hs

/-- The capacity sum of R2, with camera `c` counted with format `f`. -/
def State.storeUse (s : State) (c : Cam) (f : Format) : Nat :=
  (Cam.all.map fun d => if d = c then f.bytes else ((s.port d).format.map Format.bytes).getD 0).sum

/-- Format part and ring are set anew (R1, R2): every slot is FREE, each with an area of its own. -/
def State.setFormat (s : State) (c : Cam) (f : Format) : State :=
  { s.setPort c { s.port c with format := some f, ring := freshRing f.slots s.freeSeed } with
    freeSeed := s.freeSeed + f.slots }

/-- The camera is removed: both parts absent, no ring. A camera without a format part is left as it is (R3). -/
def State.removeCamera (s : State) (c : Cam) : State :=
  match (s.port c).format with
  | some _ => s.setPort c { s.port c with format := none, cal := none, ring := [] }
  | none => s

/-- A removal of the camera a camera byte names (R1, step 1, and R3). -/
def State.takeRemoval (s : State) (tag camera : Byte) : State :=
  match camOf camera with
  | none => s.reply 0x05 tag .badField
  | some c => if (s.port c).state = .off then (s.removeCamera c).reply 0x05 tag .ok else s.reply 0x05 tag .busy

/-- The checks of R1 in order, for a slot count other than 0. -/
def State.takeFormat (s : State) (tag camera : Byte) (f : Format) : State :=
  match camOf camera with
  | none => s.reply 0x05 tag .badField
  | some c =>
    if !formatOk f.ws f.hs f.slots then s.reply 0x05 tag .badField
    else if (s.port c).state ≠ .off then s.reply 0x05 tag .busy
    else if Config.storeBytes < s.storeUse c f then s.reply 0x05 tag .noSpace
    else (s.setFormat c f).reply 0x05 tag .ok

/-- SET_CAMERA_FORMAT (R1, R2); with slot count 0 a removal (R1, step 2). -/
def execSetCameraFormat (tag camera : Byte) (ws hs : Half) (slots : Byte) (s : State) :
    Host.Outcome State Fault Refusal :=
  .next (s.acceptIn .config 0x05 tag fun t =>
    if slots = 0 then t.takeRemoval tag camera
    else t.takeFormat tag camera ⟨ws.toNat, hs.toNat, slots.toNat⟩)

/-- REMOVE_CAMERA: SET_CAMERA_FORMAT with slot count 0 (R3); Ws and Hs are not checked. -/
def execRemoveCamera (tag camera : Byte) (_ws _hs : Half) (s : State) : Host.Outcome State Fault Refusal :=
  .next (s.acceptIn .config 0x05 tag fun t => t.takeRemoval tag camera)

/-! ### Calibration (R4, R5, R54) -/

/-- The effective service maximum a calibration gives over the output format (R54); the configured one with no format
set, which in RUN there always is. -/
def State.maxWith (s : State) (k : Cal) (f : Format) : Nat :=
  match s.otg.format with
  | some o => effectiveMax k f o.wo
  | none => k.zmax

/-- The M the Zoom Controller goes on using for camera `c` until the next boundary when its calibration part is replaced in
RUN: the one it uses now (R4). A camera that had no calibration part has no earlier M, and its new one is used at once
(DEDUCED, entry 39). -/
def State.keepM (s : State) (c : Cam) : Quad (Option Nat) :=
  match (s.port c).cal with
  | some _ => s.zoom.priorM.set c (some (s.mOf c))
  | none => s.zoom.priorM

/-- The calibration part is replaced; in RUN with the effective service maximum of the camera at once, and its M used by the
Zoom Controller from the next boundary (R4, R54, R104). -/
def State.withCal (s : State) (c : Cam) (k : Cal) (f : Format) : State :=
  let t := s.setPort c { s.port c with cal := some k }
  if s.mode = .run then
    { t with zoom := { t.zoom with zmax := t.zoom.zmax.set c (some (s.maxWith k f)), priorM := s.keepM c } }
  else t

/-- M rises strictly with the index over the configured cameras, by their calibration parts (R5). -/
def State.orderOk (s : State) : Bool :=
  Cam.all.all fun a => Cam.all.all fun b =>
    !(s.configured a && s.configured b && decide (a.idx < b.idx)) || decide (s.calM a < s.calM b)

/-- The Zmax of R5's coverage check: the effective one in RUN, the configured one otherwise. -/
def State.coverMax (s : State) (c : Cam) : Nat :=
  if s.mode = .run then s.zmaxOf c
  else match (s.port c).cal with
    | some k => k.zmax
    | none => 0

/-- The coverage check of R5, by the calibration parts. -/
def State.coverOk (s : State) : Bool :=
  coverageHolds ((Cam.all.filter s.configured).map fun c => (s.calM c, s.coverMax c))

/-- SET_CAMERA_CAL, its checks in order (R4). -/
def State.takeCal (s : State) (tag camera : Byte) (k : Cal) : State :=
  match camOf camera with
  | none => s.reply 0x06 tag .badField
  | some c =>
    match (s.port c).format with
    | none => s.reply 0x06 tag .notConfigured
    | some f =>
      if !calOk k then s.reply 0x06 tag .badField
      else if s.mode = .run ∧ s.names c then s.reply 0x06 tag .busy
      else if s.mode = .run ∧ s.maxWith k f < k.m then s.reply 0x06 tag .badField
      else if !((s.withCal c k f).orderOk && (s.withCal c k f).coverOk) then s.reply 0x06 tag .badField
      else (s.withCal c k f).reply 0x06 tag .ok

/-- SET_CAMERA_CAL (R4, R5). -/
def execSetCameraCal (tag camera : Byte) (body : CalBody) (s : State) : Host.Outcome State Fault Refusal :=
  .next (s.acceptLive 0x06 tag fun t => t.takeCal tag camera (calOf body))

/-! ### Start and stop (R7, R9, R12) -/

/-- The start mode of a mode byte (Table 31, START_CAMERA). -/
def startModeOf (b : Byte) : Option StartMode :=
  match b.toNat with
  | 0 => some .live
  | 1 => some .pattern
  | _ => none

/-- An accepted start in a mode (R7, R9). -/
def State.startIn (s : State) (c : Cam) : StartMode → State
  | .live => s.startLive c .request
  | .pattern => s.startPattern c

/-- START_CAMERA, its checks in order (R7); the reply comes before what the start does. -/
def State.takeStart (s : State) (tag camera : Byte) (mode : Option StartMode) : State :=
  match camOf camera, mode with
  | some c, some m =>
    if !(s.port c).configured then s.reply 0x0C tag .notConfigured
    else if (s.port c).state ≠ .off then s.reply 0x0C tag .busy
    else (s.reply 0x0C tag .ok).startIn c m
  | _, _ => s.reply 0x0C tag .badField

/-- START_CAMERA (R7). -/
def execStartCamera (tag camera mode : Byte) (s : State) : Host.Outcome State Fault Refusal :=
  .next (s.acceptLive 0x0C tag fun t => t.takeStart tag camera (startModeOf mode))

/-- START_CAMERA_PATTERN: START_CAMERA with mode PATTERN (R9). -/
def execStartCameraPattern (tag camera : Byte) (s : State) : Host.Outcome State Fault Refusal :=
  .next (s.acceptLive 0x0C tag fun t => t.takeStart tag camera (some .pattern))

/-- STOP_CAMERA, its checks in order (R12). -/
def State.takeStop (s : State) (tag camera : Byte) : State :=
  match camOf camera with
  | none => s.reply 0x0D tag .badField
  | some c =>
    if !(s.port c).configured then s.reply 0x0D tag .notConfigured
    else if (s.port c).state = .off ∨ (s.port c).state = .stopping then s.reply 0x0D tag .busy
    else (s.reply 0x0D tag .ok).stopCamera c

/-- STOP_CAMERA (R12). -/
def execStopCamera (tag camera : Byte) (s : State) : Host.Outcome State Fault Refusal :=
  .next (s.acceptLive 0x0D tag fun t => t.takeStop tag camera)

/-! ### Reading a port (R25, R26) -/

/-- GET_CAMERA (R25). -/
def execGetCamera (tag camera : Byte) (s : State) : Host.Outcome State Fault Refusal :=
  .next (s.acceptLive 0x17 tag fun t =>
    match camOf camera with
    | some c => t.reply 0x17 tag .ok (t.cameraBody c)
    | none => t.reply 0x17 tag .badField)

/-- The counters of camera `c` zeroed (R24, R26). -/
def State.clearCounters (s : State) (c : Cam) : State := s.setPort c { s.port c with counters := .zero }

/-- GET_STATS: the capture, then the counters zeroed when clear is set (R26). -/
def execGetStats (tag camera clear : Byte) (s : State) : Host.Outcome State Fault Refusal :=
  .next (s.acceptLive 0x18 tag fun t =>
    match camOf camera with
    | some c => (if flagOf clear then t.clearCounters c else t).reply 0x18 tag .ok (t.statsBody c)
    | none => t.reply 0x18 tag .badField)

end Sys2Proof.Machine
end

