-- ==== Sys2Proof/Machine/Geometry.lean ====
section
/-!
DEFINITION. The geometry of one source (R87 to R92): crop size, parallax, origin with the edge flags, and steps.
-/

namespace Sys2Proof.Machine

/-- What the geometry of a source depends on (Table 19). -/
structure GeometryIn where
  ws : Nat
  hs : Nat
  m : Nat
  cx : Int
  cy : Int
  px : Int
  py : Int
  d : Nat
  z : Nat
  wo : Nat
  ho : Nat
  deriving DecidableEq, Repr

/-- The crop width before the aspect branch (R87). -/
def cropWidth (ws m z : Nat) : Nat := clampNat 16 ws (evenDown ((ws * m + z / 2) / z))

/-- The crop height a width asks for (R88). -/
def cropHeight (wc wo ho : Nat) : Nat := evenDown ((wc * ho + wo / 2) / wo)

/-- The crop size Wc, Hc, with the aspect branch (R87, R88). -/
def cropSize (x : GeometryIn) : Nat × Nat :=
  let wc := cropWidth x.ws x.m x.z
  let hc := cropHeight wc x.wo x.ho
  if hc ≤ x.hs then (wc, hc) else (evenDown ((x.hs * x.wo + x.ho / 2) / x.ho), x.hs)

/-- The parallax offset for a coefficient and a distance (R89). -/
def parallax (p : Int) (d : Nat) : Int :=
  if d = 0 then 0
  else
    let magnitude : Int := ((p.natAbs * 1000 + d / 2) / d : Nat)
    clampInt (-4096) 4096 (if p < 0 then -magnitude else magnitude)

/-- The crop origin in one direction, before the clamp (R90, R91): `size` the active size, `part` the crop size. -/
def originRaw (size part : Nat) (centre offset : Int) : Int := 8 * size + centre + offset - 8 * part

/-- The clamp of the origin (R91). -/
def originClamped (size part : Nat) (raw : Int) : Nat := (clampInt 0 (16 * ((size : Int) - part)) raw).toNat

/-- The step of a crop size over an output size, in Q16 (R92). -/
def stepOf (part out : Nat) : Nat := (part * 65536 + out / 2) / out

/-- The geometry of a source (R85). -/
def geometryOf (x : GeometryIn) : Geometry :=
  let size := cropSize x
  let rawX := originRaw x.ws size.1 x.cx (parallax x.px x.d)
  let rawY := originRaw x.hs size.2 x.cy (parallax x.py x.d)
  let x0 := originClamped x.ws size.1 rawX
  let y0 := originClamped x.hs size.2 rawY
  { x0 := x0, y0 := y0, wc := size.1, hc := size.2
    sx := stepOf size.1 x.wo, sy := stepOf size.2 x.ho
    edgeX := decide ((x0 : Int) ≠ rawX), edgeY := decide ((y0 : Int) ≠ rawY) }

/-- The geometry of camera `c` at applied zoom `z`, from the inputs as they stand (R85). -/
def State.geometry (s : State) (c : Cam) (z : Nat) : Geometry :=
  match (s.port c).format, (s.port c).cal, s.otg.format with
  | some f, some k, some o =>
    geometryOf ⟨f.ws, f.hs, k.m, k.cx, k.cy, k.px, k.py, s.zoom.distance, z, o.wo, o.ho⟩
  | _, _, _ => ⟨0, 0, 0, 0, 0, 0, false, false⟩

end Sys2Proof.Machine
end

