-- ==== Sys2Proof/Machine/Photometric.lean ====
section
/-!
DEFINITION. Photometric matching (R99, R109 to R116): correction of a value, measurement of one camera's frame against
another's, the smoothing step and the relaxation step.
-/

namespace Sys2Proof.Machine

/-! ### Correction of values (R99, R110) -/

/-- A luma value through a gain. -/
def corrLuma (g y : Nat) : Nat := min 255 ((y * g + 512) / 1024)

/-- A chroma value with an offset. -/
def corrChroma (o : Int) (c : Nat) : Nat := (clampInt 0 255 (c + o)).toNat

/-- Means taken through a correction (R110). -/
def Means.through (m : Means) (k : Corr) : Means := ⟨corrLuma k.g m.y, corrChroma k.oU m.u, corrChroma k.oV m.v⟩

/-! ### Measurement (R111, R112) -/

/-- The measured gain (R112). -/
def measuredGain (ref inc : Nat) : Nat := if inc = 0 then 1024 else clampNat 512 2047 ((ref * 1024 + inc / 2) / inc)

/-- The measured offset (R112). -/
def measuredOffset (ref inc : Nat) : Int := clampInt (-32) 32 ((ref : Int) - inc)

/-- A measured correction from reference means (already taken through the reference's correction) and incoming means;
`approx` says that a mean was substituted. -/
def measured (ref inc : Means) (approx : Bool) : Corr :=
  ⟨measuredGain ref.y inc.y, measuredOffset ref.u inc.u, measuredOffset ref.v inc.v, approx⟩

/-- The full-frame means of a slot (present from READY, R108). -/
def Slot.fullMeans (x : Slot) : Means := x.full.getD ⟨0, 0, 0⟩

/-- The region means of a slot, or its full-frame means in their place, with whether they were put in place (R111). -/
def Slot.regionMeans (x : Slot) : Means × Bool :=
  match x.region with
  | some m => (m, false)
  | none => (x.fullMeans, true)

/-- The measurement of frame `inc` of camera `i` against frame `ref` of camera `r` taken through `k` (R111, R112):
region means of the wider camera against full-frame means of the narrower one. -/
def measure (r i : Cam) (ref inc : Slot) (k : Corr) : Corr :=
  if r.idx < i.idx then
    measured (ref.regionMeans.1.through k) inc.fullMeans ref.regionMeans.2
  else if i.idx < r.idx then
    measured (ref.fullMeans.through k) inc.regionMeans.1 inc.regionMeans.2
  else measured (ref.fullMeans.through k) inc.fullMeans false

/-! ### Smoothing and relaxation (R113, R116) -/

/-- A quarter of the way from `x` to `y`, truncated toward zero (R113). -/
def quarterStep (x y : Int) : Int := x + (y - x).tdiv 4

/-- One smoothing step of a record toward a measurement; a substituted mean sets the mark, none leaves it (R109, R113). -/
def Corr.smooth (k m : Corr) : Corr :=
  ⟨(quarterStep k.g m.g).toNat, quarterStep k.oU m.oU, quarterStep k.oV m.oV, k.approx || m.approx⟩

/-- One relaxation step of a value toward `rest` (R116). -/
def relaxStep (rest x : Int) : Int := x - (x - rest).sign * max 1 ((x - rest).natAbs / 4 : Nat)

/-- One relaxation step of a record toward identity; at identity the mark is cleared (R109, R116). -/
def Corr.relax (k : Corr) : Corr :=
  let g := (relaxStep 1024 k.g).toNat
  let oU := relaxStep 0 k.oU
  let oV := relaxStep 0 k.oV
  ⟨g, oU, oV, k.approx && !(g == 1024 && oU == 0 && oV == 0)⟩

end Sys2Proof.Machine
end

