-- ==== Sys2Proof/Machine/Pixels.lean ====
section
/-!
DEFINITION. The pixel arithmetic of an output line (R93 to R101): source coordinates, interpolation, the stored
samples a line reads, correction and blend.
-/

namespace Sys2Proof.Machine

/-! ### Source coordinates (R93, R96) -/

/-- One direction of one plane of a source: origin in 1/16 luma pixel, its Q16 factor (4096 for luma, 2048 for
chroma), the step in Q16 and the index of the last stored sample. -/
structure Lattice where
  origin : Nat
  factor : Nat
  step : Nat
  edge : Nat
  deriving DecidableEq, Repr

/-- The source coordinate of output index `j` in Q16, taken as 0 below 0 (R93). -/
def Lattice.coord (x : Lattice) (j : Nat) : Nat := x.origin * x.factor + j * x.step + x.step / 2 - 32768

/-- The source index of output index `j`. -/
def Lattice.index (x : Lattice) (j : Nat) : Nat := x.coord j / 65536

/-- The fraction of output index `j`, 0 to 255. -/
def Lattice.frac (x : Lattice) (j : Nat) : Nat := x.coord j % 65536 / 256

/-- Columns and rows of a luma plane of a camera of active size `f` (R93 to R95). -/
def lumaColumns (g : Geometry) (f : Format) : Lattice := ⟨g.x0, 4096, g.sx, f.ws - 1⟩
def lumaRows (g : Geometry) (f : Format) : Lattice := ⟨g.y0, 4096, g.sy, f.hs - 1⟩

/-- Columns and rows of a chroma plane (R96). -/
def chromaColumns (g : Geometry) (f : Format) : Lattice := ⟨g.x0, 2048, g.sx, f.ws / 2 - 1⟩
def chromaRows (g : Geometry) (f : Format) : Lattice := ⟨g.y0, 2048, g.sy, f.hs / 2 - 1⟩

/-! ### Interpolation (R94, R95) -/

/-- Linear interpolation with a fraction of 256, rounded half up. -/
def lerp (a b f : Nat) : Nat := (a * (256 - f) + b * f + 128) / 256

/-- The value at output index `j` over a row (or column) of values (R94). -/
def Lattice.along (x : Lattice) (value : Nat → Nat) (j : Nat) : Nat :=
  if x.edge ≤ x.index j then value x.edge else lerp (value (x.index j)) (value (x.index j + 1)) (x.frac j)

/-- The sample of a source at output column `j` and row `r` from stored samples `p row column` (R94, R95): the
horizontal pass is rounded on each row before the vertical one. -/
def resample (cols rows : Lattice) (p : Nat → Nat → Nat) (j r : Nat) : Nat :=
  rows.along (fun row => cols.along (p row) j) r

/-! ### The stored samples a line reads (R98) -/

/-- The source rows an output row reads. -/
def Lattice.rowsRead (x : Lattice) (r : Nat) : List Nat :=
  if x.edge ≤ x.index r then [min x.edge (x.index r)] else [x.index r, x.index r + 1]

/-- The first column and the number of columns that the columns 0 to n - 1 of the output read. -/
def Lattice.columnsRead (x : Lattice) (n : Nat) : Nat × Nat :=
  (x.index 0, min x.edge (x.index (n - 1) + 1) + 1 - x.index 0)

/-- The spans of a plane of a slot that an output row reads. -/
def Slot.readSpans (x : Slot) (p : Plane) (cols rows : Lattice) (n r : Nat) : List Span :=
  let c := cols.columnsRead n
  (rows.rowsRead r).map fun row => ⟨row, c.1, (List.range c.2).map fun j => x.sample p row (c.1 + j)⟩

/-- The rows a read request for output line `r` returns (R98, R143). -/
def Slot.readLine (x : Slot) (g : Geometry) (f : Format) (wo r : Nat) : ReadData where
  luma := x.readSpans .y (lumaColumns g f) (lumaRows g f) wo r
  u := if r % 2 = 0 then x.readSpans .u (chromaColumns g f) (chromaRows g f) (wo / 2) (r / 2) else []
  v := if r % 2 = 0 then x.readSpans .v (chromaColumns g f) (chromaRows g f) (wo / 2) (r / 2) else []

/-- The sample at a row and column of the rows held; 0 where they do not hold it, which no line reads (DEDUCED, entry 24). -/
def sampleIn (spans : List Span) (row column : Nat) : Nat :=
  match spans.find? fun s => s.row == row with
  | some s => if column < s.first then 0 else ((s.samples[column - s.first]?).getD 0).toNat
  | none => 0

/-! ### A source's share of a line (R97, R99) -/

/-- The samples of a line: luma, and for an even row U and V. -/
structure LineSamples where
  luma : List Nat
  u : List Nat
  v : List Nat
  deriving DecidableEq, Repr

/-- The corrected samples of a source's share of output line `r` (R95 to R97, R99). -/
def sourceLine (d : ReadData) (g : Geometry) (k : Corr) (f : Format) (wo r : Nat) : LineSamples where
  luma := (List.range wo).map fun j =>
    corrLuma k.g (resample (lumaColumns g f) (lumaRows g f) (sampleIn d.luma) j r)
  u := if r % 2 = 0 then
      (List.range (wo / 2)).map fun j =>
        corrChroma k.oU (resample (chromaColumns g f) (chromaRows g f) (sampleIn d.u) j (r / 2))
    else []
  v := if r % 2 = 0 then
      (List.range (wo / 2)).map fun j =>
        corrChroma k.oV (resample (chromaColumns g f) (chromaRows g f) (sampleIn d.v) j (r / 2))
    else []

/-! ### Combination (R100, R101) -/

/-- A blended sample with weight `a` of the secondary source (R100). -/
def blendSample (a po pi : Nat) : Nat := (pi * a + po * (256 - a) + 128) / 256

/-- Two sources' shares blended. -/
def blendLine (a : Nat) (o i : LineSamples) : LineSamples where
  luma := List.zipWith (blendSample a) o.luma i.luma
  u := List.zipWith (blendSample a) o.u i.u
  v := List.zipWith (blendSample a) o.v i.v

/-- A line of the black frame (R101). -/
def blackLine (wo r : Nat) : LineSamples where
  luma := List.replicate wo 16
  u := if r % 2 = 0 then List.replicate (wo / 2) 128 else []
  v := if r % 2 = 0 then List.replicate (wo / 2) 128 else []

end Sys2Proof.Machine
end

