-- ==== Sys2Proof/Machine/Composer.lean ====
section
/-!
DEFINITION. The Output Composer (chapter 08, sections 8.4 and 8.5): which source serves which line, the fetch windows
with their read requests, and the decision of a line at its start.
-/

namespace Sys2Proof.Machine

/-! ### Which source serves a line (R140) -/

/-- The lines a client's source serves: from the first to before the second number. -/
structure Served where
  lo : Nat
  hi : Nat
  deriving DecidableEq, Repr

/-- The source serves the line. -/
def Served.has (x : Served) (r : Nat) : Bool := decide (x.lo ≤ r ∧ r < x.hi)

/-- The lines of a frame of `ho` lines that the primary source of a record serves (R140). -/
def Record.primaryServes (r : Record) (ho : Nat) : Served :=
  match r.primary, r.engine with
  | none, _ => ⟨0, 0⟩
  | some _, .compare _ _ split => ⟨0, min split ho⟩
  | some _, _ => ⟨0, ho⟩

/-- The lines that the secondary source serves (R140). -/
def Record.secondaryServes (r : Record) (ho : Nat) : Served :=
  match r.secondary, r.engine with
  | some _, .blend _ _ _ _ _ => ⟨0, ho⟩
  | some _, .compare _ _ split => ⟨split, ho⟩
  | _, _ => ⟨0, 0⟩

/-! ### Fetch windows (R141) -/

/-- The next lines the source serves are added until the window holds 4 or none is left, a request for each. -/
def Window.fill (w : Window) (frame : Word) (x : Served) : Window :=
  let n := min (Config.windowLines - w.lines.length) (x.hi - w.next)
  { lines := w.lines ++ (List.range n).map fun k => ⟨frame, w.next + k, .waiting⟩, next := w.next + n }

/-- The window of a new frame. -/
def Window.start (frame : Word) (x : Served) : Window := (⟨[], x.lo⟩ : Window).fill frame x

/-- Line `r` leaves the window: a waiting request is withdrawn with it, one in flight will be disregarded (R143 to
R145). -/
def Window.leave (w : Window) (r : Nat) : Window := { w with lines := w.lines.filter fun l => l.line != r }

/-- The rows held for line `r`, when its request is complete. -/
def Window.rowsOf (w : Window) (r : Nat) : Option ReadData :=
  match w.lines.find? fun l => l.line == r with
  | some l =>
    match l.fetch with
    | .complete d => some d
    | .waiting => none
    | .inFlight => none
  | none => none

/-- Both windows as the publication of `r` leaves them (R141). -/
def Composer.openFrame (k : Composer) (r : Record) (ho : Nat) : Composer :=
  { k with rp := .start r.frame (r.primaryServes ho), rs := .start r.frame (r.secondaryServes ho) }

/-- Both windows after line `r` has started (R141, R144). -/
def Composer.advance (k : Composer) (rec : Record) (ho r : Nat) : Composer :=
  { k with
    rp := (k.rp.leave r).fill rec.frame (rec.primaryServes ho)
    rs := (k.rs.leave r).fill rec.frame (rec.secondaryServes ho) }

/-! ### Reads (R98, R143, R150) -/

/-- What a read for line `r` of a source entry returns: the samples stored in its slot now (R150). -/
def State.readRows (s : State) (e : SourceEntry) (r : Nat) : ReadData :=
  match (s.port e.camera).ring[e.slot]?, (s.port e.camera).format, s.otg.format with
  | some x, some f, some o => x.readLine e.geometry f o.wo r
  | _, _, _ => ⟨[], [], []⟩

/-- The entry of a record that a client reads. -/
def Record.entryOf (r : Record) (secondary : Bool) : Option SourceEntry := if secondary then r.secondary else r.primary

/-- The window of a client. -/
def Composer.windowOf (k : Composer) (secondary : Bool) : Window := if secondary then k.rs else k.rp

/-- The composer with the window of a client replaced. -/
def Composer.setWindow (k : Composer) (secondary : Bool) (w : Window) : Composer :=
  if secondary then { k with rs := w } else { k with rp := w }

/-- The request of a line of a frame goes from one state to another; a request that is not in the first state is not
the one meant. -/
def Window.moveFetch (w : Window) (frame : Word) (line : Nat) (old new : Fetch) : Window :=
  { w with lines := w.lines.map fun l =>
      if l.frame = frame ∧ l.line = line ∧ l.fetch = old then { l with fetch := new } else l }

/-- The read with this tag has completed: its rows are kept when its line is in the window, disregarded otherwise
(R143). -/
def State.readDone (s : State) (secondary : Bool) (frame : Word) (line : Nat) : State :=
  match s.zoom.current.bind (fun r => r.entryOf secondary) with
  | none => s
  | some e =>
    let w := (s.composer.windowOf secondary).moveFetch frame line .inFlight (.complete (s.readRows e line))
    { s with composer := s.composer.setWindow secondary w }

/-! ### The samples of a line (R144, R145) -/

/-- A source's share of line `r` from the rows held for it; none when they are not there. -/
def State.share (s : State) (w : Window) (e : SourceEntry) (wo r : Nat) : Option LineSamples :=
  match w.rowsOf r, (s.port e.camera).format with
  | some d, some f => some (sourceLine d e.geometry e.corr f wo r)
  | _, _ => none

/-- The samples of line `r` of record `rec`, when the line is ready (R144, R100, R101). -/
def State.readyLine (s : State) (rec : Record) (wo ho r : Nat) : Option LineSamples :=
  let primary := if (rec.primaryServes ho).has r then rec.primary else none
  let secondary := if (rec.secondaryServes ho).has r then rec.secondary else none
  match primary, secondary with
  | none, none => some (blackLine wo r)
  | some e, none => s.share s.composer.rp e wo r
  | none, some e => s.share s.composer.rs e wo r
  | some e, some f =>
    match s.share s.composer.rp e wo r, s.share s.composer.rs f wo r with
    | some x, some y => some (blendLine rec.weight x y)
    | _, _ => none

/-- Samples as the bytes sent. -/
def sampleBytes (xs : List Nat) : List Byte := xs.map byteOf

/-- The bytes of a line packet: luma, U and V (R136). -/
structure LineBytes where
  luma : List Byte
  u : List Byte
  v : List Byte
  deriving DecidableEq, Repr

/-- The bytes of an underrun line: a copy of what was last sent (R145). -/
def Composer.copyLine (k : Composer) (wo r : Nat) : LineBytes where
  luma := if r = 0 then List.replicate wo 16 else k.lastLuma.getD (List.replicate wo 16)
  u := if r % 2 = 0 then
      (if r = 0 then List.replicate (wo / 2) 128 else k.lastU.getD (List.replicate (wo / 2) 128)) else []
  v := if r % 2 = 0 then
      (if r = 0 then List.replicate (wo / 2) 128 else k.lastV.getD (List.replicate (wo / 2) 128)) else []

/-- The bytes sent for line `r`, and whether the line underran. -/
def State.decideLine (s : State) (rec : Record) (wo ho r : Nat) : LineBytes × Bool :=
  match s.readyLine rec wo ho r with
  | some x => (⟨sampleBytes x.luma, sampleBytes x.u, sampleBytes x.v⟩, false)
  | none => (s.composer.copyLine wo r, true)

/-- What was sent becomes the last output line, and for even `r` the last chroma row (R144). -/
def Composer.keepSent (k : Composer) (r : Nat) (x : LineBytes) : Composer :=
  { k with lastLuma := some x.luma
           lastU := if r % 2 = 0 then some x.u else k.lastU
           lastV := if r % 2 = 0 then some x.v else k.lastV }

/-- A record with its underrun count raised for an underrun line (R145). -/
def Record.countLine (rec : Record) (underran : Bool) : Record :=
  if underran then { rec with underruns := rec.underruns + 1 } else rec

/-- Line `r` starts (R144, R145): the line is sent, leaves the windows, and the next lines are requested. -/
def State.startLine (s : State) (rec : Record) (wo ho r : Nat) : State :=
  let x := s.decideLine rec wo ho r
  { s with
    composer := (s.composer.advance rec ho r).keepSent r x.1
    zoom := { s.zoom with current := some (rec.countLine x.2) }
    otg := { s.otg with raster := .active r false, outPort := some (.line r x.1.luma x.1.u x.1.v) } }

end Sys2Proof.Machine
end

