-- ==== Sys2Proof/Machine/Arbitration.lean ====
section
/-!
DEFINITION. The Frame Store Arbiter (chapter 09): the requests presented with their urgency, the three steps of a grant
opportunity with the pointers, completions, and the law of the tables.
-/

namespace Sys2Proof.Machine

/-! ### Presented requests (R151, R152) -/

/-- A presented request: urgent or not, and what a grant of it puts on the channel. -/
structure Presented where
  urgent : Bool
  grant : Grant
  deriving DecidableEq, Repr

/-- The write a camera port presents: that of its oldest line, urgent with two or more lines held (R151, R152). -/
def State.presentedWrite (s : State) (c : Cam) : Option Presented :=
  let p := s.port c
  if p.state.takes && !p.buffer.isEmpty && !p.inFlight then
    some ⟨decide (2 ≤ p.buffer.length), .write c⟩
  else none

/-- A read for line `r` is urgent: from the line start of the line before, line 0 from the frame start (R142). -/
def Raster.urgent (x : Raster) (r : Nat) : Bool :=
  match x with
  | .stopped => false
  | .blanking _ begun => r == 0 && begun
  | .active p _ => decide (r ≤ p + 1)

/-- The read a client of the composer presents: the waiting request of the lowest line number (R151). -/
def State.presentedRead (s : State) (secondary : Bool) : Option Presented :=
  ((s.composer.windowOf secondary).lines.find? fun l => l.fetch == .waiting).map fun l =>
    ⟨s.otg.raster.urgent l.line, .read secondary l.frame l.line⟩

/-- The request a client presents. -/
def State.presented (s : State) : Client → Option Presented
  | .w c => s.presentedWrite c
  | .rp => s.presentedRead false
  | .rs => s.presentedRead true

/-! ### The decision (R154 to R156) -/

/-- The request an entry matches (R154). -/
def State.matchEntry (s : State) (e : ArbEntry) : Option Presented :=
  match s.presented e.client, e.qualifier with
  | none, _ => none
  | some r, .any => some r
  | some r, .urgent => if r.urgent then some r else none

/-- The pointer after the one at `k` in a list of `n` entries (R155, R156). -/
def nextPtr (k n : Nat) : Nat := if k + 1 < n then k + 1 else 0

/-- The wheel step's winner (R155). -/
def State.wheelWinner (s : State) : Option Presented :=
  (s.arbiter.table.wheel[s.arbiter.wheelPtr]?).bind s.matchEntry

/-- The priority step's winner (R156). -/
def State.priorityWinner (s : State) : Option Presented := s.arbiter.table.priority.findSome? s.matchEntry

/-- The round-robin list in the order of examination, with each entry's index (R156). -/
def rotated (k : Nat) (xs : List ArbEntry) : List (ArbEntry × Nat) := xs.zipIdx.drop k ++ xs.zipIdx.take k

/-- The round-robin step's winner with the index of the winning entry (R156). -/
def State.robinWinner (s : State) : Option (Presented × Nat) :=
  (rotated s.arbiter.robinPtr s.arbiter.table.robin).findSome? fun x => (s.matchEntry x.1).map fun r => (r, x.2)

/-- The wheel pointer after an opportunity (R155). -/
def Arbiter.turnWheel (a : Arbiter) : Arbiter :=
  if a.table.wheel.isEmpty then a else { a with wheelPtr := nextPtr a.wheelPtr a.table.wheel.length }

/-- The winner of an opportunity and the round-robin pointer after it (R153, R155, R156). -/
def State.winner (s : State) : Option Presented × Nat :=
  match s.wheelWinner with
  | some r => (some r, s.arbiter.robinPtr)
  | none =>
    match s.priorityWinner with
    | some r => (some r, s.arbiter.robinPtr)
    | none =>
      match s.robinWinner with
      | some (r, k) => (some r, nextPtr k s.arbiter.table.robin.length)
      | none => (none, s.arbiter.robinPtr)

/-! ### Grants (R150, R151, R153) -/

/-- The granted request is in flight at its client. -/
def State.markGranted (s : State) : Grant → State
  | .write c => s.setPort c { s.port c with inFlight := true }
  | .read secondary frame line =>
    let w := (s.composer.windowOf secondary).moveFetch frame line .waiting .inFlight
    { s with composer := s.composer.setWindow secondary w }

/-- Some client presents a request (R153). -/
def State.anyPresented (s : State) : Bool :=
  (s.presented (.w .c0)).isSome || (s.presented (.w .c1)).isSome || (s.presented (.w .c2)).isSome
    || (s.presented (.w .c3)).isSome || (s.presented .rp).isSome || (s.presented .rs).isSome

/-- A grant opportunity: the channel is FREE and a request is presented (R153). -/
def State.opportunity (s : State) : Bool := s.arbiter.channel == .free && s.anyPresented

/-- The opportunity is taken: the pointers move and the winner, if any, is granted (R153 to R156). -/
def State.takeOpportunity (s : State) : State :=
  let w := s.winner
  let t := { s with arbiter := { s.arbiter.turnWheel with robinPtr := w.2 } }
  match w.1 with
  | some r => ({ t with arbiter := { t.arbiter with channel := .busy r.grant } }).markGranted r.grant
  | none => t

/-! ### Completions (R150) -/

/-- The transfer in progress ends: the channel is FREE and the outcome goes to the client (R150). The initialisation is
no granted transfer: it ends with BOOTING (R162; DEDUCED, entry 44). -/
def State.completeTransfer (s : State) : State :=
  match s.arbiter.channel with
  | .free => s
  | .initialising => s
  | .busy g =>
    let t := { s with arbiter := { s.arbiter with channel := .free } }
    match g with
    | .write c => t.writeDone c
    | .read secondary frame line => t.readDone secondary frame line

/-! ### The law of the tables (R159, R160) -/

/-- All clients (Table 23). -/
def Client.all : List Client := [.w .c0, .w .c1, .w .c2, .w .c3, .rp, .rs]

/-- All counted entries of a table. -/
def ArbTable.entries (t : ArbTable) : List ArbEntry := t.wheel ++ t.priority ++ t.robin

/-- Every client appears in some counted entry with qualifier ANY (R159). -/
def ArbTable.servesAll (t : ArbTable) : Bool := Client.all.all fun c => t.entries.contains ⟨c, .any⟩

/-- A table is put in force: both pointers become 0 (R161). -/
def Arbiter.apply (a : Arbiter) (t : ArbTable) : Arbiter :=
  { a with table := t, pendingTable := none, wheelPtr := 0, robinPtr := 0 }

/-- The pending table, when there is one, is applied (R161). -/
def Arbiter.applyPending (a : Arbiter) : Arbiter :=
  match a.pendingTable with
  | some t => a.apply t
  | none => a

end Sys2Proof.Machine
end

