-- ==== Sys2Proof/Machine/Pairing.lean ====
section
/-!
DEFINITION. Frame selection and pins (chapter 07, R120 to R126): the frame of each camera for the target time, its
freshness, and the pins of the published record.
-/

namespace Sys2Proof.Machine

/-- The target time of a boundary with timestamp `now` and latency `latency` (R120). -/
def targetTime (now : Word) (latency : Nat) : Word := now - micros latency

/-- A candidate: READY with the release mark clear (R121). -/
def Slot.candidate (x : Slot) : Bool := x.state == .ready && !x.release

/-- `a` is later than `b` as sequence numbers (R119, R121). -/
def laterSeq (a b : Word) : Bool := !notLater a b

/-- Of two candidates with ages at T_n, the better one: the smaller age when the first case of R121 holds, the larger
when the second does; of equal ages the later sequence number, and where those are equal too the slot of the lower
number (DEDUCED, entry 18). -/
def betterOf (early : Bool) (t : Word) (x y : Slot × Nat) : Slot × Nat :=
  let ax := age x.1.start t
  let ay := age y.1.start t
  if ax = ay then (if laterSeq y.1.seq x.1.seq then y else x)
  else if early then (if ax < ay then x else y)
  else (if ay < ax then x else y)

/-- The best of the listed candidates. -/
def bestOf (early : Bool) (t : Word) : List (Slot × Nat) → Option (Slot × Nat)
  | [] => none
  | x :: rest =>
    match bestOf early t rest with
    | none => some x
    | some y => some (betterOf early t x y)

/-- The selection a slot makes. -/
def selectionOf (stale : Bool) (x : Slot × Nat) : Selection := ⟨x.2, x.1.seq, x.1.start, stale⟩

/-- The selection of an eligible camera's ring for target time `t` (R121, R122). -/
def selectFrom (ring : List Slot) (t : Word) : Option Selection :=
  let candidates := ring.zipIdx.filter fun x => x.1.candidate
  let early := candidates.filter fun x => notLater x.1.start t
  match bestOf true t early with
  | some x => some (selectionOf false x)
  | none =>
    match bestOf false t candidates with
    | some x => some (selectionOf false x)
    | none => (ring.zipIdx.find? fun x => x.1.pin != .none).map (selectionOf true)

/-- The selection of camera `c` at this boundary; a camera that is not eligible has none (R121, R122). -/
def State.selectionNow (s : State) (t : Word) (c : Cam) : Option Selection :=
  if s.eligible c then selectFrom (s.port c).ring t else none

/-- A selection is fresh: present, with another sequence number than the camera's previous selected one (R123). R122 calls
a STALE selection never fresh; after a boundary that left the previous sequence absent it is fresh by R123's definition,
which the model follows (DEDUCED, entry 46). -/
def isFresh (sel : Option Selection) (prev : Option Word) : Bool :=
  match sel with
  | some x => prev != some x.seq
  | none => false

/-- Camera `c`'s selection at this boundary is fresh. Asked before the previous sequences are replaced. -/
def State.freshNow (s : State) (t : Word) (c : Cam) : Bool := isFresh (s.selectionNow t c) (s.zoom.prevSelected.get c)

/-- The selection stage: selections made, previous selected sequences replaced (R121 to R123). -/
def State.selectFrames (s : State) (t : Word) : State :=
  let sel := Quad.tab (s.selectionNow t)
  { s with zoom := { s.zoom with selection := sel, prevSelected := Quad.tab fun c => (sel.get c).map Selection.seq } }

/-- The role and slot a record gives camera `c` (R125). -/
def Record.pinOf (r : Record) (c : Cam) : Option (Nat × Pin) :=
  match r.primary, r.secondary with
  | some e, some f =>
    if e.camera = c then some (e.slot, .primary) else if f.camera = c then some (f.slot, .secondary) else none
  | some e, none => if e.camera = c then some (e.slot, .primary) else none
  | none, some f => if f.camera = c then some (f.slot, .secondary) else none
  | none, none => none

/-- A slot whose pin is removed: FREE when the release mark is set, otherwise READY without a pin (R22). -/
def Slot.unpin (x : Slot) : Slot :=
  if x.pin = .none then x
  else if x.release then
    { x with state := .free, pin := .none, release := false, outstanding := 0, full := none, region := none }
  else { x with pin := .none }

/-- The ring with the pin a record gives it: the named slot pinned in its role, every other pin removed (R125). -/
def pinRing (named : Option (Nat × Pin)) (ring : List Slot) : List Slot :=
  ring.mapIdx fun k x =>
    match named with
    | some (j, role) => if k = j then { x with pin := role } else x.unpin
    | none => x.unpin

/-- The pins of every ring brought into line with what a record names (R125, R126). -/
def State.applyPins (s : State) (named : Cam → Option (Nat × Pin)) : State :=
  { s with ports := Quad.tab fun c => { s.port c with ring := pinRing (named c) (s.port c).ring } }

end Sys2Proof.Machine
end

