-- ==== Sys2Proof/Machine/Handoff.lean ====
section
/-!
DEFINITION. The hand-off engine at a boundary (R60 to R79, R83): the view step, the loss step and the state step, as
one function from what stage 3 reads to a verdict. The state it reads is that after the selection stage.
-/

namespace Sys2Proof.Machine

/-- What the correction update stage does with the two records (R80 and the rules it names). -/
inductive CorrStep
  /-- Outgoing relaxes one step, incoming identity (STEADY without a transition, RETURN). -/
  | relax
  /-- Incoming becomes outgoing and relaxes one step, incoming identity (COMPLETE). -/
  | takeAndRelax
  /-- Incoming becomes outgoing, incoming identity (CUT to the incoming camera). -/
  | take
  /-- Outgoing kept, incoming identity (PREPARE entry and retarget, CUT to the outgoing camera). -/
  | dropIncoming
  /-- Both identity (COMPARE, CUT without overlap, first boundary). -/
  | identity
  /-- Outgoing set by one measurement of camera `f`, incoming identity (FALLBACK, THAW). -/
  | measure (f : Cam)
  /-- Incoming moves one smoothing step toward a measurement of `i` against `o` (fresh frame in PREPARE). -/
  | smooth (o i : Cam)
  /-- Both kept. -/
  | keep
  deriving DecidableEq, Repr

/-- What the hand-off stage settles. -/
structure Verdict where
  engine : Engine
  pendingCut : Option Cam
  view : View
  corr : CorrStep
  notices : List Notice
  autoStart : Option Cam
  /-- The transition is a CUT, FALLBACK or THAW (R49, R60). -/
  forcing : Bool
  deriving DecidableEq, Repr

/-- What stage 3 reads beside the state: candidate zoom, freshness of each camera's selection, frame number. -/
structure HandoffIn where
  zc : Nat
  fresh : Quad Bool
  frame : Word
  deriving DecidableEq, Repr

/-- Camera `c`'s state. -/
def State.camState (s : State) (c : Cam) : CamState := (s.port c).state

/-- Camera `c` is STREAMING. -/
def State.streaming (s : State) (c : Cam) : Bool := s.camState c == .streaming

/-- Camera `c` has a selectable frame (R59). -/
def State.selectable (s : State) (c : Cam) : Bool := (s.zoom.selection.get c).isSome

/-- Camera `c` can be cut to now: STREAMING with a selectable frame. -/
def State.canServe (s : State) (c : Cam) : Bool := s.streaming c && s.selectable c

/-- Camera `c`'s auto_start flag. -/
def State.autoStarts (s : State) (c : Cam) : Bool :=
  match (s.port c).cal with
  | some k => k.autoStart
  | none => false

/-- The settled state stays as it is. -/
def State.stays (s : State) (corr : CorrStep) : Verdict :=
  ⟨s.zoom.engine, s.zoom.pendingCut, s.zoom.view, corr, [], none, false⟩

/-! ### Fallback (R73 to R75) -/

/-- The fallback choice (R73): the narrowest camera that can serve with M not above the candidate, else the widest that
can serve. -/
def State.fallbackChoice (s : State) (zc : Nat) : Option Cam :=
  match Cam.allDown.find? fun f => s.canServe f && decide (s.mOf f ≤ zc) with
  | some f => some f
  | none => Cam.all.find? s.canServe

/-- A FALLBACK from the lost source, FROZEN when it fails (R73, R74). -/
def State.fallback (s : State) (x : HandoffIn) (lost : Option Cam) : Verdict :=
  match s.fallbackChoice x.zc with
  | some f =>
    ⟨.steady f, none, s.zoom.view, .measure f, [.handoff .fallback lost (some f) x.frame], none, true⟩
  | none => ⟨.frozen, none, s.zoom.view, .keep, [.handoff .frozen lost none x.frame], none, false⟩

/-- A CUT to camera `t` (R63, R72). -/
def State.cutTo (s : State) (x : HandoffIn) (source t : Cam) (corr : CorrStep) : Verdict :=
  ⟨.steady t, none, s.zoom.view, corr, [.handoff .cut (some source) (some t) x.frame], none, true⟩

/-! ### Targets (R61, R62) -/

/-- The target formed from camera `p` (R61). -/
def State.target (s : State) (p : Cam) (zc : Nat) : Cam :=
  match s.zoom.view with
  | .locked c => c
  | _ =>
    match s.freshChoice zc with
    | some f => if p.idx < f.idx then f else if zc < s.downOf p then f else p
    | none => p

/-- The cameras from `p` toward `t`, `t` included, nearest first (R62). -/
def cameraPath (p t : Cam) : List Cam :=
  if p.idx < t.idx then Cam.all.filter fun c => decide (p.idx < c.idx ∧ c.idx ≤ t.idx)
  else Cam.allDown.filter fun c => decide (t.idx ≤ c.idx ∧ c.idx < p.idx)

/-- The step camera from `p` toward target `t` (R62). -/
def State.stepCamera (s : State) (p t : Cam) : Option Cam :=
  if s.overlap t p then some t else (cameraPath p t).find? fun c => s.eligible c && s.overlap c p

/-- PREPARE can begin toward a camera in this state (R62). -/
def CamState.preparable : CamState → Bool
  | .off => true
  | .loading => true
  | .waiting => true
  | .streaming => true
  | _ => false

/-! ### STEADY (R61 to R64) -/

/-- Notice and start asked for when a camera a hand-off needs is OFF (R63, R64). -/
def State.needs (s : State) (i : Cam) : List Notice × Option Cam :=
  if s.camState i = .off then ([.prepareNeeded i], if s.autoStarts i then some i else none) else ([], none)

/-- The engine enters PREPARE(o, i) (R64). -/
def State.enterPrepare (s : State) (x : HandoffIn) (o i : Cam) : Verdict :=
  let n := s.needs i
  ⟨.prepare o i 0 (s.camState i != .off), none, s.zoom.view, .dropIncoming,
    .handoff .prepare (some o) (some i) x.frame :: n.1, n.2, false⟩

/-- The wait for a cut to `t` (R63). -/
def State.waitForCut (s : State) (x : HandoffIn) (p t : Cam) : Verdict :=
  if s.canServe t then s.cutTo x p t .identity
  else
    let n := if s.zoom.pendingCut = some t then ([], none) else s.needs t
    ⟨.steady p, some t, s.zoom.view, .relax, n.1, n.2, false⟩

/-- The state step in STEADY(p) (R61 to R63). The pending cut target goes when the target is p and when a step camera
exists (DEDUCED, entry 19). -/
def State.steadyStep (s : State) (x : HandoffIn) (p : Cam) : Verdict :=
  let t := s.target p x.zc
  if t = p then { s.stays .relax with pendingCut := none }
  else
    match s.stepCamera p t with
    | some i =>
      if (s.camState i).preparable then s.enterPrepare x p i else { s.stays .relax with pendingCut := none }
    | none => s.waitForCut x p t

/-! ### PREPARE (R65 to R67) -/

/-- The engine returns to STEADY(o) from PREPARE or BLEND (R66, R70, R71). -/
def State.returnTo (s : State) (x : HandoffIn) (o i : Cam) : Verdict :=
  ⟨.steady o, none, s.zoom.view, .relax, [.handoff .returned (some i) (some o) x.frame], none, false⟩

/-- The incoming camera of PREPARE is Lost (R65). -/
def State.incomingLost (s : State) (i : Cam) (started : Bool) : Bool :=
  match s.camState i with
  | .stalled => true
  | .faulted => true
  | .stopping => true
  | .off => started
  | _ => false

/-- The hand-off of PREPARE(o, i) continues (R67): counting of fresh frames, and BEGIN at the prepare length. An incoming
camera that is not STREAMING keeps the engine in PREPARE, whatever the count (R65; DEDUCED, entry 41). -/
def State.prepareOn (s : State) (x : HandoffIn) (o i : Cam) (count : Nat) (started : Bool) : Verdict :=
  let started' := started || s.camState i != .off
  if s.streaming i then
    let isNew := x.fresh.get i
    let count' := if isNew then count + 1 else count
    let corr : CorrStep := if isNew then .smooth o i else .keep
    if s.zoom.settings.prepare ≤ count' then
      ⟨.blend o i 0 s.zoom.settings.blend .forward, none, s.zoom.view, corr,
        [.handoff .begin (some o) (some i) x.frame], none, false⟩
    else ⟨.prepare o i count' started', none, s.zoom.view, corr, [], none, false⟩
  else ⟨.prepare o i count started', none, s.zoom.view, .keep, [], none, false⟩

/-- The state step in PREPARE(o, i) (R66). -/
def State.prepareStep (s : State) (x : HandoffIn) (o i : Cam) (count : Nat) (started : Bool) : Verdict :=
  let t := s.target o x.zc
  if t = o then s.returnTo x o i
  else
    match s.stepCamera o t with
    | some r =>
      if r = i then s.prepareOn x o i count started
      else if (s.camState r).preparable then s.enterPrepare x o r
      else s.returnTo x o i
    | none => s.returnTo x o i

/-! ### BLEND (R69, R70) -/

/-- The direction after the test of R69. -/
def State.blendDirection (s : State) (zc : Nat) (o i : Cam) (dir : Direction) : Direction :=
  let byZoom : Direction :=
    if o.idx < i.idx then
      match dir with
      | .forward => if zc < s.downOf i then .back else .forward
      | .back => if s.upOf i ≤ zc then .forward else .back
    else
      match dir with
      | .forward => if s.upOf o ≤ zc then .back else .forward
      | .back => if zc < s.downOf o then .forward else .back
  match s.zoom.view with
  | .locked c => if c = i then .forward else if c = o then .back else byZoom
  | _ => byZoom

/-- The notice of a change of direction (R69). -/
def directionNotice (old new : Direction) (o i : Cam) (frame : Word) : List Notice :=
  match old, new with
  | .forward, .back => [.handoff .reverse (some o) (some i) frame]
  | .back, .forward => [.handoff .resume (some o) (some i) frame]
  | _, _ => []

/-- The state step in BLEND (R69, R70). -/
def State.blendStep (s : State) (x : HandoffIn) (o i : Cam) (k n : Nat) (dir : Direction) : Verdict :=
  let dir' := s.blendDirection x.zc o i dir
  let turn := directionNotice dir dir' o i x.frame
  match dir' with
  | .forward =>
    if n ≤ k + 1 then
      ⟨.steady i, none, s.zoom.view, .takeAndRelax, turn ++ [.handoff .complete (some o) (some i) x.frame], none, false⟩
    else ⟨.blend o i (k + 1) n .forward, none, s.zoom.view, .keep, turn, none, false⟩
  | .back =>
    if k ≤ 1 then { s.returnTo x o i with notices := turn ++ [.handoff .returned (some i) (some o) x.frame] }
    else ⟨.blend o i (k - 1) n .back, none, s.zoom.view, .keep, turn, none, false⟩

/-! ### FROZEN (R75) -/

/-- The state step in FROZEN: the thaw attempt (R75). -/
def State.frozenStep (s : State) (x : HandoffIn) : Verdict :=
  match s.fallbackChoice x.zc with
  | some f => ⟨.steady f, none, s.zoom.view, .measure f, [.handoff .thaw none (some f) x.frame], none, true⟩
  | none => ⟨.frozen, none, s.zoom.view, .keep, [], none, false⟩

/-! ### Loss (R71, Table 17) -/

/-- The loss step: the verdict when a camera of the engine state is lost. -/
def State.lossStep (s : State) (x : HandoffIn) : Option Verdict :=
  match s.zoom.engine with
  | .steady p => if s.streaming p then none else some (s.fallback x (some p))
  | .prepare o i _ started =>
    if !s.streaming o then
      some (if s.canServe i then s.cutTo x o i .take else s.fallback x (some o))
    else if s.incomingLost i started then some (s.returnTo x o i)
    else none
  | .blend o i _ _ _ =>
    match s.streaming o, s.streaming i with
    | true, true => none
    | false, true => some (s.cutTo x o i .take)
    | true, false => some (s.cutTo x i o .dropIncoming)
    | false, false => some (s.fallback x (some o))
  | .compare a b _ =>
    match s.streaming a, s.streaming b with
    | true, true => none
    | false, true => some (s.cutTo x a b .identity)
    | true, false => some (s.cutTo x b a .identity)
    | false, false => some (s.fallback x (some a))
  | .frozen => none
  | .stopped => none

/-! ### Views (R78, R79) -/

/-- The primary camera of the current record (R78). -/
def State.currentPrimary (s : State) : Option Cam := (s.zoom.current.bind Record.primary).map SourceEntry.camera

/-- The engine enters COMPARE(A, B, split) (R78). -/
def State.enterCompare (s : State) (x : HandoffIn) (a b : Cam) (split : Nat) : Verdict :=
  ⟨.compare a b split, none, s.zoom.view, .identity, [.handoff .cut s.currentPrimary (some a) x.frame], none, true⟩

/-- The engine leaves COMPARE(A, B) because the view mode is another (R79). -/
def State.leaveCompare (s : State) (x : HandoffIn) (a : Cam) : Verdict :=
  if s.streaming a then ⟨.steady a, none, s.zoom.view, .identity, [], none, false⟩ else s.fallback x (some a)

/-- The view mode as the view step finds it: COMPARE of two eligible cameras whose ranges no longer overlap returns to
NORMAL, when the engine is not in COMPARE with them (R78). -/
def State.viewNow (s : State) : View :=
  match s.zoom.view with
  | .compare a b split =>
    let there : Bool := match s.zoom.engine with
      | .compare a' b' _ => a == a' && b == b'
      | _ => false
    if !there && s.eligible a && s.eligible b && !s.overlap a b then .normal else .compare a b split
  | v => v

/-- The state the other steps read: with the view mode of the view step, and in COMPARE with the split row of the view
mode, whichever pair it names (R78, R79). -/
def State.withViewNow (s : State) : State :=
  let v := s.viewNow
  let engine :=
    match v, s.zoom.engine with
    | .compare _ _ split, .compare a b _ => .compare a b split
    | _, e => e
  { s with zoom := { s.zoom with view := v, engine := engine } }

/-- The view step (R78, R79): a verdict when it makes a transition. -/
def State.viewStep (s : State) (x : HandoffIn) : Option Verdict :=
  match s.zoom.view, s.zoom.engine with
  | .compare a b split, .compare a' b' _ =>
    if a = a' ∧ b = b' then none
    else if s.canServe a && s.canServe b && s.overlap a b then some (s.enterCompare x a b split)
    else none
  | .compare a b split, _ =>
    if s.canServe a && s.canServe b && s.overlap a b then some (s.enterCompare x a b split) else none
  | _, .compare a _ _ => some (s.leaveCompare x a)
  | _, _ => none

/-! ### The stage (R60, R83) -/

/-- The state step (R60). -/
def State.stateStep (s : State) (x : HandoffIn) : Verdict :=
  match s.zoom.engine with
  | .steady p => s.steadyStep x p
  | .prepare o i count started => s.prepareStep x o i count started
  | .blend o i k n dir => s.blendStep x o i k n dir
  | .frozen => s.frozenStep x
  | .compare _ _ _ => s.stays .identity
  | .stopped => s.stays .keep

/-- The initial state, settled at the first boundary of START_OUTPUT (R83). -/
def State.firstStep (s : State) (x : HandoffIn) : Verdict :=
  match s.freshChoice x.zc with
  | some f =>
    if s.canServe f then ⟨.steady f, none, s.zoom.view, .identity, [], none, false⟩
    else { s.fallback x none with corr := .identity }
  | none => { s.fallback x none with corr := .identity }

/-- The hand-off stage (R60, R83): the view step, the loss step, the state step, at most one transition. -/
def State.handoff (s : State) (x : HandoffIn) : Verdict :=
  let t := s.withViewNow
  match s.zoom.engine with
  | .stopped => t.firstStep x
  | _ =>
    match t.viewStep x with
    | some v => v
    | none =>
      match t.lossStep x with
      | some v => v
      | none => t.stateStep x

end Sys2Proof.Machine
end

