-- ==== Sys2Proof/Machine/Ramp.lean ====
section
/-!
DEFINITION. The zoom ramp at a boundary (R47 to R51): the ramp step and the zoom-window stage.
-/

namespace Sys2Proof.Machine

/-- The candidate zoom of an active segment (R48). -/
def candidateOf (zs target frames i : Nat) : Nat :=
  if zs ≤ target then zs + ((target - zs) * (i + 1) + frames / 2) / frames
  else zs - ((zs - target) * (i + 1) + frames / 2) / frames

/-- The applied zoom of the frame composed before; before any frame, the rest value (R47, R50, R52). -/
def Zoom.lastApplied (z : Zoom) : Nat :=
  match z.current with
  | some r => r.applied
  | none => z.rest

/-- The head segment becomes active when it is not (R47). -/
def Segment.activate (zs : Nat) (g : Segment) : Segment :=
  match g.progress with
  | some _ => g
  | none => { g with progress := some ⟨zs, 0⟩ }

/-- A CLAMPED notice, when a clamp changed the value (R51). -/
def clampNotice (frame : Word) (old new : Nat) : List Notice :=
  if old = new then [] else [.zoomLimit .clamped new frame]

/-- The ramp after the first part of the ramp step, with its notices: the head active, its target and the rest value
clamped to the bounds (R47). When both are clamped the target's notice goes first (DESIGN CHOICE, entry 40). -/
def rampStart (bounds : Nat × Nat) (zs : Nat) (frame : Word) (queue : List Segment) (rest : Nat) :
    List Segment × Nat × List Notice :=
  let rest' := clampTo bounds rest
  match queue with
  | [] => ([], rest', clampNotice frame rest rest')
  | g :: tail =>
    let target := clampTo bounds g.target
    ({ g.activate zs with target := target } :: tail, rest', clampNotice frame g.target target ++ clampNotice frame rest rest')

/-- The candidate zoom the ramp proposes (R48). -/
def rampCandidate (queue : List Segment) (rest : Nat) : Nat :=
  match queue with
  | g :: _ =>
    match g.progress with
    | some p => candidateOf p.zs g.target g.frames p.i
    | none => rest
  | [] => rest

/-- The ramp step of frame `frame` (R47): the state after it. The candidate is `rampCandidate` of its queue and rest
value. -/
def State.rampStep (s : State) (frame : Word) : State :=
  let r := rampStart s.zoomBounds s.zoom.lastApplied frame s.zoom.queue s.zoom.rest
  ({ s with zoom := { s.zoom with queue := r.1, rest := r.2.1 } }).raiseAll r.2.2

/-- The candidate zoom as the ramp stands (R48). -/
def State.candidate (s : State) : Nat := rampCandidate s.zoom.queue s.zoom.rest

/-- The ramp after a boundary at which the candidate was applied: one more step, and the segment leaves when it is
complete, its target becoming the rest value (R49). -/
def rampAdvance (queue : List Segment) (rest : Nat) : List Segment × Nat :=
  match queue with
  | [] => ([], rest)
  | g :: tail =>
    match g.progress with
    | none => (g :: tail, rest)
    | some p =>
      if g.frames ≤ p.i + 1 then (tail, g.target)
      else ({ g with progress := some ⟨p.zs, p.i + 1⟩ } :: tail, rest)

/-- What the zoom-window stage decides: the applied zoom with the marks HELD and ZOOM_FORCED (R49, R50). -/
structure Windowed where
  applied : Nat
  held : Bool
  forced : Bool
  deriving DecidableEq, Repr

/-- The applied zoom for a candidate in a window (R49); without a window, the zoom of the frame before (R50).
`forcing` says that the transition is a CUT, FALLBACK or THAW. -/
def windowZoom (window : Option (Nat × Nat)) (last zc : Nat) (forcing : Bool) : Windowed :=
  match window with
  | none => ⟨last, false, false⟩
  | some (lo, hi) =>
    if lo ≤ zc ∧ zc ≤ hi then ⟨zc, false, false⟩ else ⟨if zc < lo then lo else hi, !forcing, forcing⟩

/-- The ZOOM_LIMIT notices of the zoom-window stage (R51). -/
def windowNotices (w : Windowed) (heldBefore : Bool) (frame : Word) : List Notice :=
  if w.forced then [.zoomLimit .forced w.applied frame]
  else if w.held && !heldBefore then [.zoomLimit .held w.applied frame]
  else []

/-- The zoom-window stage: the ramp advances when the candidate was applied, the held-run mark follows HELD, and the
notices are raised (R49 to R51). -/
def State.settleZoom (s : State) (window : Option (Nat × Nat)) (w : Windowed) (frame : Word) : State :=
  let r :=
    if window.isSome && !w.held && !w.forced then rampAdvance s.zoom.queue s.zoom.rest
    else (s.zoom.queue, s.zoom.rest)
  ({ s with zoom := { s.zoom with queue := r.1, rest := r.2, heldRun := w.held } }).raiseAll
    (windowNotices w s.zoom.heldRun frame)

end Sys2Proof.Machine
end

