-- ==== Sys2Proof/Machine/Composition.lean ====
section
/-!
DEFINITION. The composition of an output frame (R59): the stages of the Zoom Controller in order, with the correction
update (R80, R113 to R116), the source entries and the record (R127, R128), and publication with the pins (R125,
R126, R129).
-/

namespace Sys2Proof.Machine

/-! ### Correction update (R80) -/

/-- The slot camera `c`'s selection names. -/
def State.selectedSlot (s : State) (c : Cam) : Option Slot :=
  (s.zoom.selection.get c).bind fun x => (s.port c).ring[x.slot]?

/-- The slot a source entry names. -/
def State.entrySlot (s : State) (e : SourceEntry) : Option Slot := (s.port e.camera).ring[e.slot]?

/-- The measurement of a FALLBACK or a THAW to camera `f`: against the primary frame of the current record, through
that entry's correction; identity when there is no such frame (R114, R115). With no mean substituted the mark is clear,
as R114 says, not kept as it was (R109; DEDUCED, entry 42). -/
def State.measureAgainstRecord (s : State) (f : Cam) : Corr :=
  match s.zoom.current.bind Record.primary with
  | none => .identity
  | some e =>
    match s.entrySlot e, s.selectedSlot f with
    | some ref, some inc => measure e.camera f ref inc e.corr
    | _, _ => .identity

/-- The smoothing of PREPARE(o, i) at a fresh frame (R113): o's selected frame through the outgoing record. -/
def State.smoothIncoming (s : State) (o i : Cam) : Corr :=
  match s.selectedSlot o, s.selectedSlot i with
  | some ref, some inc => s.zoom.incoming.smooth (measure o i ref inc s.zoom.outgoing)
  | _, _ => s.zoom.incoming

/-- The outgoing and the incoming record after the correction update stage (R80). -/
def State.corrected (s : State) : CorrStep → Corr × Corr
  | .relax => (s.zoom.outgoing.relax, .identity)
  | .takeAndRelax => (s.zoom.incoming.relax, .identity)
  | .take => (s.zoom.incoming, .identity)
  | .dropIncoming => (s.zoom.outgoing, .identity)
  | .identity => (.identity, .identity)
  | .measure f => (s.measureAgainstRecord f, .identity)
  | .smooth o i => (s.zoom.outgoing, s.smoothIncoming o i)
  | .keep => (s.zoom.outgoing, s.zoom.incoming)

/-- The correction update stage. -/
def State.updateCorr (s : State) (k : CorrStep) : State :=
  let r := s.corrected k
  { s with zoom := { s.zoom with outgoing := r.1, incoming := r.2 } }

/-! ### The record (R68, R127, R128) -/

/-- The weight of the incoming camera (R68). -/
def blendWeight (k n : Nat) : Nat := (256 * k + n / 2) / n

/-- The weight a record of an engine state carries: that of BLEND, 0 otherwise (R68). -/
def Engine.weight : Engine → Nat
  | .blend _ _ k n _ => blendWeight k n
  | .steady _ => 0
  | .prepare _ _ _ _ => 0
  | .compare _ _ _ => 0
  | .frozen => 0
  | .stopped => 0

/-- The source entry of camera `c` from its selection, with a correction and the geometry at the applied zoom (R128). -/
def State.sourceEntry (s : State) (applied : Nat) (c : Cam) (k : Corr) : Option SourceEntry :=
  (s.zoom.selection.get c).map fun x => ⟨c, x.slot, x.seq, x.start, s.geometry c applied, k, x.stale⟩

/-- The primary and the secondary entry of a settled state (R80, R127). -/
def State.sources (s : State) (applied : Nat) : Engine → Option SourceEntry × Option SourceEntry
  | .steady p => (s.sourceEntry applied p s.zoom.outgoing, none)
  | .prepare o _ _ _ => (s.sourceEntry applied o s.zoom.outgoing, none)
  | .blend o i _ _ _ => (s.sourceEntry applied o s.zoom.outgoing, s.sourceEntry applied i s.zoom.incoming)
  | .compare a b _ => (s.sourceEntry applied a .identity, s.sourceEntry applied b .identity)
  | .frozen => (s.zoom.current.bind Record.primary, s.zoom.current.bind Record.secondary)
  | .stopped => (none, none)

/-- The APPROX flag of two entries (R117). -/
def approxOf (p q : Option SourceEntry) : Bool := p.any (fun e => e.corr.approx) || q.any (fun e => e.corr.approx)

/-- The engine state is FROZEN. -/
def Engine.isFrozen : Engine → Bool
  | .frozen => true
  | _ => false

/-- The frame number of the frame composed next: 0 first, then one more (R127). -/
def nextFrame (current : Option Record) : Word :=
  match current with
  | some r => r.frame + 1
  | none => 0

/-- The new record (R127); in FROZEN it repeats the sources of the current one (R74). -/
def State.newRecord (s : State) (target : Word) (zc : Nat) (w : Windowed) : Record :=
  let e := s.zoom.engine
  let src := s.sources w.applied e
  { frame := nextFrame s.zoom.current, timestamp := s.timebase, target := target, candidate := zc, applied := w.applied
    engine := e, weight := e.weight, view := s.zoom.view, primary := src.1, secondary := src.2
    held := w.held, forced := w.forced, frozen := e.isFrozen, approx := approxOf src.1 src.2, underruns := 0 }

/-- Publication: the record becomes the current one and the pins follow it (R125, R129). -/
def State.publish (s : State) (r : Record) : State :=
  ({ s with zoom := { s.zoom with current := some r, previous := s.zoom.current } }).applyPins r.pinOf

/-! ### The stages (R59) -/

/-- From this boundary on the Zoom Controller uses the M of every calibration part (R4). -/
def State.takeCals (s : State) : State := { s with zoom := { s.zoom with priorM := .const none } }

/-- The pending hand-off settings become the applied ones at the start of a composition (R82). -/
def State.applySettings (s : State) : State :=
  match s.zoom.pendingSettings with
  | some h => { s with zoom := { s.zoom with settings := h, pendingSettings := none } }
  | none => s

/-- The start a hand-off asks for (R64, R11). -/
def State.askStart (s : State) : Option Cam → State
  | some c => s.autoStart c
  | none => s

/-- The verdict of the hand-off stage takes effect, with its notices and the start it asks for. -/
def State.settle (s : State) (v : Verdict) : State :=
  (({ s with zoom := { s.zoom with engine := v.engine, pendingCut := v.pendingCut, view := v.view } }).raiseAll
    v.notices).askStart v.autoStart

/-- Stages 4 to 7 of R59, on the state the hand-off stage left: zoom window, correction update, geometry, publication.
`forcing` says that the transition was a CUT, FALLBACK or THAW. -/
def State.finishComposition (s : State) (target : Word) (zc : Nat) (forcing : Bool) (corr : CorrStep) : State :=
  let window := s.window s.zoom.engine
  let w := windowZoom window s.zoom.lastApplied zc forcing
  let t := (s.settleZoom window w (nextFrame s.zoom.current)).updateCorr corr
  t.publish (t.newRecord target zc w)

/-- Stages 2 to 7 of R59, on the state the ramp step left. -/
def State.composeFrom (s : State) (target : Word) : State :=
  let zc := s.candidate
  let x : HandoffIn := ⟨zc, Quad.tab (s.freshNow target), nextFrame s.zoom.current⟩
  let t := s.selectFrames target
  let v := t.handoff x
  (t.settle v).finishComposition target zc v.forcing v.corr

/-- The composition of an output frame (R59, R82, R120), with the calibration parts as they stand (R4). -/
def State.compose (s : State) : State :=
  let t := s.takeCals.applySettings
  (t.rampStep (nextFrame t.zoom.current)).composeFrom (targetTime s.timebase t.zoom.settings.latency)

end Sys2Proof.Machine
end

