-- ==== Sys2Proof/Machine/Raster.lean ====
section
/-!
DEFINITION. The Output Timing Generator (chapter 08, sections 8.2, 8.3 and 8.6, and the frame-sync outputs of chapter
10): the raster's counts, what is applied at a boundary, the boundary itself with its metadata line and FRAME_DONE, the
start and the stop of the output, and the pulses.
-/

namespace Sys2Proof.Machine

/-! ### Counts (R135, R176) -/

/-- Pixel periods of a line (R135). -/
def linePixels (f : OutFormat) (b : Blanking) : Nat := f.wo + b.hb

/-- Pixel periods of a frame (R135). -/
def framePixels (f : OutFormat) (b : Blanking) : Nat := linePixels f b * (f.ho + b.vb)

/-- The frame period in whole microseconds (R176). -/
def frameMicros (f : OutFormat) (b : Blanking) : Nat := framePixels f b * 1000 / f.rate

/-- The effective width and offset of a pulse in a frame of `pus` microseconds (R176). -/
def effectiveWidth (x : Fsync) (pus : Nat) : Nat := min x.width pus
def effectiveOffset (x : Fsync) (pus : Nat) : Nat := min x.offset (pus - effectiveWidth x pus)

/-- The limits of R176 change the offset or the width of the settings (R175). -/
def fsyncClamped (x : Fsync) (pus : Nat) : Bool :=
  effectiveWidth x pus != x.width || effectiveOffset x pus != x.offset

/-- The pulse a boundary places for a camera's applied settings (R176). -/
def placePulse (x : Fsync) (pus : Nat) : Option Pulse :=
  if x.enable then some ⟨effectiveOffset x pus, effectiveWidth x pus, 0, false, false⟩ else none

/-- The line across a boundary: it stays active when it is active and the next pulse begins at once (R176, DEDUCED, entry 26). -/
def lineAcross (active : Bool) (next : Option Pulse) : Bool :=
  active && (match next with | some p => p.offset == 0 | none => false)

/-- The level of a camera's frame-sync line: that of the polarity while active, the other while not (Table 29). -/
def Otg.fsyncLevel (o : Otg) (c : Cam) : Bool := (o.lineActive.get c) == (o.fsync.get c).high

/-! ### Due events (R135, Table 22, R176) -/

/-- The next raster event with its instant in pixel periods after the boundary (Table 22). -/
def nextRaster (f : OutFormat) (b : Blanking) : Raster → Option (Nat × Instr)
  | .stopped => none
  | .blanking q begun =>
    if begun then some (b.vb * linePixels f b, .lineStart)
    else if q + 1 < b.vb then some ((q + 1) * linePixels f b, .blankingLineStart)
    else some ((b.vb - 1) * linePixels f b, .outputFrameStart)
  | .active r ended =>
    if r + 1 < f.ho then some ((b.vb + r + 1) * linePixels f b, .lineStart)
    else if ended then some (framePixels f b, .boundary)
    else some ((b.vb + f.ho - 1) * linePixels f b + f.wo, .outputFrameEnd)

/-- The next raster event, when its instant lies in the present microsecond or before (DESIGN CHOICE, entry 34). -/
def Otg.rasterDue (o : Otg) : Option Instr :=
  match o.format, o.blanking with
  | some f, some b => ((nextRaster f b o.raster).filter fun x => decide (1000 * x.1 < o.phase)).map Prod.snd
  | _, _ => none

/-- The start or the end of camera `c`'s pulse, when it is due (R176). -/
def Otg.pulseDue (o : Otg) (c : Cam) : Option Instr :=
  match o.pulse.get c with
  | some p =>
    if !p.started then (if p.offset ≤ p.elapsed then some (.fsyncPulseStart c) else none)
    else if !p.ended then (if p.offset + p.width ≤ p.elapsed then some (.fsyncPulseEnd c) else none)
    else none
  | none => none

/-! ### What every boundary applies (R134, R161, R175) -/

/-- The shadow blanking, when present, becomes the active blanking. -/
def Otg.applyShadow (o : Otg) : Otg :=
  match o.shadow with
  | some b => { o with blanking := some b, shadow := none }
  | none => o

/-- Pending frame-sync settings become applied. -/
def Otg.applyFsync (o : Otg) : Otg :=
  { o with fsync := Quad.tab fun c => (o.fsyncPending.get c).getD (o.fsync.get c), fsyncPending := .const none }

/-- Shadow blanking, pending frame-sync settings and pending arbitration table are applied. -/
def State.applyShadowed (s : State) : State :=
  { s with otg := s.otg.applyShadow.applyFsync, arbiter := s.arbiter.applyPending }

/-! ### The metadata line and FRAME_DONE (R131, R136, R148) -/

/-- The metadata line of `wo` columns that carries a record or its absence (R136). -/
def metadataLine (wo : Nat) (r : Option Record) : Packet :=
  .metadata (padTo wo 0 (recordBytes r)) (List.replicate (wo / 2) 128) (List.replicate (wo / 2) 128)

/-- The output port sends a packet. -/
def State.send (s : State) (x : Packet) : State := { s with otg := { s.otg with outPort := some x } }

/-- The metadata line of the frame just sent (R131): its record is the current one before the publication. -/
def State.sendMetadata (s : State) : State :=
  match s.otg.format with
  | some f => s.send (metadataLine f.wo s.zoom.current)
  | none => s

/-- FRAME_DONE for the frame just sent, with this boundary's timestamp; none when no frame was sent (R148). -/
def State.frameDone (s : State) : State :=
  match s.zoom.current with
  | some r => s.raise (.frameDone r.frame s.timebase)
  | none => s

/-! ### The frame a boundary begins (R135, R141, R176) -/

/-- The raster at a boundary: blanking line 0, the pixel count begun again (DESIGN CHOICE, entry 34), the pulses placed. -/
def Otg.begin (o : Otg) : Otg :=
  match o.format, o.blanking with
  | some f, some b =>
    let pulse := Quad.tab fun c => placePulse (o.fsync.get c) (frameMicros f b)
    { o with raster := .blanking 0 false, pulse := pulse
             lineActive := Quad.tab fun c => lineAcross (o.lineActive.get c) (pulse.get c) }
  | _, _ => o

/-- The pixel count carried over a boundary: what exceeds the frame that ended (DESIGN CHOICE, entry 34). -/
def Otg.carryPhase (o : Otg) : Nat :=
  match o.format, o.blanking with
  | some f, some b => o.phase - 1000 * framePixels f b
  | _, _ => 0

/-- The fetch windows of the frame whose record was just published (R141). -/
def State.openWindows (s : State) : State :=
  match s.zoom.current, s.otg.format with
  | some r, some f => { s with composer := s.composer.openFrame r f.ho }
  | _, _ => s

/-- A boundary that begins a frame (R135): shadowed settings applied, metadata line, FRAME_DONE, composition, first
requests, pulses. `phase` is the pixel count it begins with. -/
def State.beginFrame (s : State) (phase : Nat) : State :=
  let t := (s.applyShadowed.sendMetadata.frameDone.compose).openWindows
  { t with otg := { t.otg.begin with phase := phase } }

/-! ### The stop (R139, R53, R84, R132) -/

/-- The Zoom Controller after STOP_OUTPUT (R53, R84, R132); from this boundary on it uses every calibration part's M (R4). -/
def Zoom.stopped (z : Zoom) : Zoom :=
  { z with
    queue := [], heldRun := false, engine := .stopped, pendingCut := none, outgoing := .identity, incoming := .identity
    view := .normal, priorM := .const none, selection := .const none, prevSelected := .const none, current := none
    previous := none }

/-- The raster after STOP_OUTPUT (R139, R176). -/
def Otg.halted (o : Otg) : Otg :=
  { o with raster := .stopped, phase := 0, stopPending := none, pulse := .const none, lineActive := .const false }

/-- The boundary at which STOP_OUTPUT, the open request `id`, takes effect (R139). -/
def State.endOutput (s : State) (id : Nat) : State :=
  let t := (s.applyShadowed.sendMetadata.frameDone).applyPins fun _ => none
  ({ t with zoom := t.zoom.stopped, composer := .reset, otg := t.otg.halted, mode := .config }).answer id .ok

/-- A boundary in RUN (R135, R139). -/
def State.boundary (s : State) : State :=
  match s.otg.stopPending with
  | some id => s.endOutput id
  | none => s.beginFrame s.otg.carryPhase

/-! ### Other raster events (R135, R136, R144, R147) -/

/-- The raster position after the start of the next blanking line, when one is left. -/
def Raster.nextBlanking (x : Raster) (b : Blanking) : Option Raster :=
  match x with
  | .blanking q begun => if q + 1 < b.vb then some (.blanking (q + 1) begun) else none
  | .active _ _ => none
  | .stopped => none

/-- The raster stands in the last blanking line with the frame start not yet sent. -/
def Raster.frameStartDue (x : Raster) (b : Blanking) : Bool :=
  match x with
  | .blanking q begun => q + 1 == b.vb && !begun
  | .active _ _ => false
  | .stopped => false

/-- The next active line to start in a frame of `ho` lines, when one is left. -/
def Raster.nextLine (x : Raster) (ho : Nat) : Option Nat :=
  match x with
  | .blanking _ begun => if begun && decide (0 < ho) then some 0 else none
  | .active r _ => if r + 1 < ho then some (r + 1) else none
  | .stopped => none

/-- The raster stands in the last active line with the frame end not yet sent. -/
def Raster.frameEndDue (x : Raster) (ho : Nat) : Bool :=
  match x with
  | .active r ended => r + 1 == ho && !ended
  | .blanking _ _ => false
  | .stopped => false

/-- The next blanking line starts (R135). -/
def State.blankingLine (s : State) : State :=
  match s.otg.blanking.bind s.otg.raster.nextBlanking with
  | some x => { s with otg := { s.otg with raster := x } }
  | none => s

/-- The frame start of the output (R136). -/
def State.outputFrameStart (s : State) : State :=
  match s.otg.blanking with
  | some b =>
    if s.otg.raster.frameStartDue b then
      { s with otg := { s.otg with raster := .blanking (b.vb - 1) true, outPort := some .frameStart } }
    else s
  | none => s

/-- The next active line starts (R144). -/
def State.lineStart (s : State) : State :=
  match s.otg.format, s.zoom.current with
  | some f, some rec =>
    match s.otg.raster.nextLine f.ho with
    | some r => s.startLine rec f.wo f.ho r
    | none => s
  | _, _ => s

/-- UNDERRUN at the frame end of a frame with underrun lines (R147). -/
def State.reportUnderrun (s : State) : State :=
  match s.zoom.current with
  | some r => if 0 < r.underruns then s.raise (.underrun r.frame r.underruns) else s
  | none => s

/-- The frame end of the output (R136, R147). -/
def State.outputFrameEnd (s : State) : State :=
  match s.otg.format with
  | some f =>
    if s.otg.raster.frameEndDue f.ho then
      ({ s with otg := { s.otg with raster := .active (f.ho - 1) true, outPort := some .frameEnd } }).reportUnderrun
    else s
  | none => s

/-! ### Frame-sync pulses (R176) -/

/-- A camera's pulse starts when its offset has been counted: the line goes to the active level. -/
def Otg.pulseStart (o : Otg) (c : Cam) : Otg :=
  match o.pulse.get c with
  | some p =>
    if !p.started && decide (p.offset ≤ p.elapsed) then
      { o with pulse := o.pulse.set c (some { p with started := true }), lineActive := o.lineActive.set c true }
    else o
  | none => o

/-- A camera's pulse ends when offset and width have been counted: the line goes to the inactive level. -/
def Otg.pulseEnd (o : Otg) (c : Cam) : Otg :=
  match o.pulse.get c with
  | some p =>
    if p.started && !p.ended && decide (p.offset + p.width ≤ p.elapsed) then
      { o with pulse := o.pulse.set c (some { p with ended := true }), lineActive := o.lineActive.set c false }
    else o
  | none => o

/-! ### Starting the output (R137, R52, R54, R55) -/

/-- The effective service maxima over the output format (R54); none where a camera is not configured. -/
def State.maxima (s : State) (wo : Nat) : Quad (Option Nat) :=
  Quad.tab fun c =>
    match (s.port c).cal, (s.port c).format with
    | some k, some f => some (effectiveMax k f wo)
    | _, _ => none

/-- The service ranges of the configured cameras in index order, with the maxima held (R55). -/
def State.serviceRanges (s : State) : List (Nat × Nat) :=
  (Cam.all.filter s.configured).map fun c => (s.mOf c, s.zmaxOf c)

/-- Every configured camera's range is not empty and the coverage requirement holds (R137, steps 3 and 4). -/
def State.rangesOk (s : State) : Bool :=
  (s.serviceRanges.all fun r => decide (r.1 ≤ r.2)) && coverageHolds s.serviceRanges

/-- Some camera is configured. -/
def State.anyConfigured (s : State) : Bool := Cam.all.any s.configured

/-- The state with the maxima of START_OUTPUT. -/
def State.withMaxima (s : State) (wo : Nat) : State := { s with zoom := { s.zoom with zmax := s.maxima wo } }

/-- The output starts with rest value `z` (R137): RUN, and the first boundary. `reply` queues the reply before it. -/
def State.beginOutput (s : State) (f : OutFormat) (z : Nat) (reply : State → State) : State :=
  (reply { s with mode := .run, zoom := { s.zoom with rest := z } }).beginFrame f.rate

end Sys2Proof.Machine
end

