-- ==== Sys2Proof/Machine/Events.lean ====
section
/-!
DEFINITION. Meanings of the events: packets at the camera ports and of the pattern generator (chapter 01), expiry
(chapter 02), the raster (chapter 08), the frame store channel (chapter 09), the control buses and the frame-sync
outputs (chapter 10). What the part itself counts is taken when the count has run out (entry 3), and an event without an
occasion leaves the state as it is (DESIGN CHOICE, entry 4).
-/

namespace Sys2Proof.Machine

/-! ### Packets from the camera modules (R9, R15, R17, R20) -/

/-- The port takes the camera module's packets: its start mode is LIVE (R9). -/
def State.live (s : State) (c : Cam) : Bool := (s.port c).startMode == .live

/-- FRAME_START (R15, R16). -/
def execFrameStart (c : Cam) (s : State) : Host.Outcome State Fault Refusal :=
  .next (if s.live c then s.frameStart c else s)

/-- LINE_PACKET (R17). -/
def execLinePacket (c : Cam) (luma u v : List Byte) (s : State) : Host.Outcome State Fault Refusal :=
  .next (if s.live c then s.linePacket c luma u v else s)

/-- FRAME_END (R20). -/
def execFrameEnd (c : Cam) (s : State) : Host.Outcome State Fault Refusal :=
  .next (if s.live c then s.frameEnd c else s)

/-! ### Pattern generator (R9, R10) -/

/-- The running generator goes on to its next packet. -/
def State.patternTo (s : State) (c : Cam) (g : PatternGen) (row : Nat) : State :=
  s.setPort c { s.port c with pattern := some { g with nextRow := row } }

/-- The next packet of camera `c`'s pattern generator, when it is due (R9). -/
def State.patternDue (s : State) (c : Cam) : Option Instr :=
  match (s.port c).pattern, (s.port c).format with
  | some g, some f =>
    if g.nextRow < f.hs then
      if patternRowTime g.interval g.nextRow f.hs ≤ g.elapsed then some (.patternRow c) else none
    else if g.nextRow = f.hs then
      if patternEndTime g.interval ≤ g.elapsed then some (.patternFrameEnd c) else none
    else if g.interval ≤ g.elapsed then some (.patternFrameStart c) else none
  | _, _ => none

/-- A pattern packet is taken when it is the next one and its instant has come (R9). -/
def State.whenPattern (s : State) (c : Cam) (i : Instr) (t : State) : State := if s.patternDue c = some i then t else s

/-- PATTERN_FRAME_START (R9). -/
def execPatternFrameStart (c : Cam) (s : State) : Host.Outcome State Fault Refusal :=
  .next (s.whenPattern c (.patternFrameStart c) (s.patternStart c))

/-- The next row of the pattern frame is offered, while one is left (R9, R10). -/
def State.patternRow (s : State) (c : Cam) : State :=
  match (s.port c).pattern, (s.port c).format with
  | some g, some f =>
    if g.nextRow < f.hs then
      (s.patternTo c g (g.nextRow + 1)).linePacket c (patternLuma f.ws g.nextRow (s.port c).seq)
        (patternChroma f.ws g.nextRow) (patternChroma f.ws g.nextRow)
    else s
  | _, _ => s

/-- PATTERN_ROW (R9, R10). -/
def execPatternRow (c : Cam) (s : State) : Host.Outcome State Fault Refusal :=
  .next (s.whenPattern c (.patternRow c) (s.patternRow c))

/-- The frame end of the pattern frame, when every row has been offered (R9). -/
def State.patternEnd (s : State) (c : Cam) : State :=
  match (s.port c).pattern, (s.port c).format with
  | some g, some f => if g.nextRow = f.hs then (s.patternTo c g (g.nextRow + 1)).frameEnd c else s
  | _, _ => s

/-- PATTERN_FRAME_END (R9). -/
def execPatternFrameEnd (c : Cam) (s : State) : Host.Outcome State Fault Refusal :=
  .next (s.whenPattern c (.patternFrameEnd c) (s.patternEnd c))

/-! ### Arrival Monitor (R28) -/

/-- EXPIRY (R28, R31 to R33). -/
def execExpiry (c : Cam) (s : State) : Host.Outcome State Fault Refusal := .next (s.expire c)

/-! ### Output raster (R135) -/

/-- A raster event is taken when it is the next one and its instant has come (R135, Table 22). -/
def State.whenRaster (s : State) (i : Instr) (t : State) : State := if s.otg.rasterDue = some i then t else s

/-- BOUNDARY (R135, R139). -/
def execBoundary (s : State) : Host.Outcome State Fault Refusal :=
  .next (if s.mode = .run then s.whenRaster .boundary s.boundary else s)

/-- BLANKING_LINE_START (R135). -/
def execBlankingLineStart (s : State) : Host.Outcome State Fault Refusal :=
  .next (s.whenRaster .blankingLineStart s.blankingLine)

/-- OUTPUT_FRAME_START (R136). -/
def execOutputFrameStart (s : State) : Host.Outcome State Fault Refusal :=
  .next (s.whenRaster .outputFrameStart s.outputFrameStart)

/-- LINE_START (R144, R145). -/
def execLineStart (s : State) : Host.Outcome State Fault Refusal := .next (s.whenRaster .lineStart s.lineStart)

/-- OUTPUT_FRAME_END (R136, R147). -/
def execOutputFrameEnd (s : State) : Host.Outcome State Fault Refusal :=
  .next (s.whenRaster .outputFrameEnd s.outputFrameEnd)

/-! ### Frame store channel (R150, R153) -/

/-- GRANT_OPPORTUNITY (R153). -/
def execGrantOpportunity (s : State) : Host.Outcome State Fault Refusal :=
  .next (if s.opportunity then s.takeOpportunity else s)

/-- TRANSFER_COMPLETION (R150). -/
def execTransferCompletion (s : State) : Host.Outcome State Fault Refusal := .next s.completeTransfer

/-! ### Control buses (R165, R171, R172) -/

/-- TRANSACTION_END (R165). -/
def execTransactionEnd (x : Bus) (acked : Bool) (received : Data4) (s : State) : Host.Outcome State Fault Refusal :=
  .next (s.endTransaction x (if acked then .ok received else .noAck))

/-- BUS_TIMEOUT (R165). -/
def execBusTimeout (x : Bus) (s : State) : Host.Outcome State Fault Refusal := .next (s.endTransaction x .timeout)

/-- WAIT_END (R171). -/
def execWaitEnd (x : Bus) (s : State) : Host.Outcome State Fault Refusal := .next (s.endWait x)

/-- POLL_RETRY (R172). -/
def execPollRetry (x : Bus) (s : State) : Host.Outcome State Fault Refusal := .next (s.endRetry x)

/-! ### Frame-sync outputs (R176) -/

/-- FSYNC_PULSE_START (R176). -/
def execFsyncPulseStart (c : Cam) (s : State) : Host.Outcome State Fault Refusal :=
  .next { s with otg := s.otg.pulseStart c }

/-- FSYNC_PULSE_END (R176). -/
def execFsyncPulseEnd (c : Cam) (s : State) : Host.Outcome State Fault Refusal :=
  .next { s with otg := s.otg.pulseEnd c }

end Sys2Proof.Machine
end

