-- ==== Sys2Proof/Machine/LinkCommands.lean ====
section
/-!
DEFINITION. Meanings of the commands of the Control Link (chapter 11): the resets, reads, HELLO, SET_NOTICES,
GET_STATUS and a request of an unknown kind.
-/

namespace Sys2Proof.Machine

/-! ### Resets (R183, R184) -/

/-- Every block at its pin reset values, RESETN held (R183; DESIGN CHOICE, entry 7). -/
def State.pinReset (s : State) : State :=
  { State.reset with resetHeld := true, freeSeed := s.freeSeed, pending := s.pending }

/-- PIN_RESET: RESETN is asserted (R183). -/
def execPinReset (s : State) : Host.Outcome State Fault Refusal := .next s.pinReset

/-- RESETN_RELEASED: BOOTING begins (R183). -/
def execResetnReleased (s : State) : Host.Outcome State Fault Refusal := .next { s with resetHeld := false }

/-- The end of BOOTING: CONFIG, the channel FREE (R162, R163), and READY with the cause of the reset (R183, R184). -/
def State.bootingEnd (s : State) : State :=
  if s.mode = .booting ∧ s.resetHeld = false then
    ({ s with mode := .config, arbiter := { s.arbiter with channel := .free } }).raise (.ready s.bootCause)
  else s

/-- BOOTING_END (R183). -/
def execBootingEnd (s : State) : Host.Outcome State Fault Refusal := .next s.bootingEnd

/-- Every open request is answered with FLUSHED, in the order of acceptance (R184, step 1). -/
def Link.flush (l : Link) : Link :=
  { l with outbound := l.outbound ++ l.opened.map (fun o => .reply o.kind o.tag .flushed []), opened := [] }

/-- Every block at its RESET_PART values; the outbound queue, the claims, the reject holder, the loss mark and the
Timebase stay (R184, steps 3 and 4). -/
def State.partReset (s : State) : State :=
  { State.reset with
    bootCause := .resetPart, timebase := s.timebase, link := { s.link with mask := Link.defaultMask }
    freeSeed := s.freeSeed, pending := s.pending }

/-- An accepted RESET_PART (R184). -/
def State.resetPart (s : State) (tag : Byte) : State :=
  (({ s with link := s.link.flush }).reply 0x02 tag .ok).partReset

/-- RESET_PART (R184). -/
def execResetPart (tag : Byte) (s : State) : Host.Outcome State Fault Refusal :=
  .next (s.acceptLive 0x02 tag fun t => t.resetPart tag)

/-! ### Reads (R178) -/

/-- READ_TRANSACTION (R178); nothing while RESETN is held. -/
def execReadTransaction (count : Nat) (ends : Bool) (s : State) : Host.Outcome State Fault Refusal :=
  .next (if s.resetHeld then s else { s with link := s.link.read count ends })

/-! ### Requests of the Control Link -/

/-- UNKNOWN_KIND: a request of a kind that is not one of Table 31 is answered with BAD_KIND and the kind (R180). A kind
of Table 31 is no occasion of this command (DESIGN CHOICE, entry 31). -/
def execUnknownKind (tag kind : Byte) (s : State) : Host.Outcome State Fault Refusal :=
  .next (if isRequestKind kind then s else s.accept fun t => t.reply kind tag .badKind [kind])

/-- HELLO, taken in every mode (R185). -/
def execHello (tag : Byte) (s : State) : Host.Outcome State Fault Refusal :=
  .next (s.accept fun t => t.reply 0x01 tag .ok (helloBody t.mode))

/-- The mask as SET_NOTICES takes it: READY is always enabled (R182). -/
def maskTaken (mask : Byte) : Byte := mask ||| 1

/-- SET_NOTICES (R182). -/
def execSetNotices (tag mask : Byte) (s : State) : Host.Outcome State Fault Refusal :=
  .next (s.acceptLive 0x0A tag fun t =>
    ({ t with link := { t.link with mask := maskTaken mask } }).reply 0x0A tag .ok [maskTaken mask])

/-- GET_STATUS (R186). -/
def execGetStatus (tag part : Byte) (s : State) : Host.Outcome State Fault Refusal :=
  .next (s.acceptLive 0x16 tag fun t =>
    match t.statusBody part with
    | some body => t.reply 0x16 tag .ok body
    | none => t.reply 0x16 tag .badField)

end Sys2Proof.Machine
end

