-- ==== Sys2Proof/Machine/OutputCommands.lean ====
section
/-!
DEFINITION. Meanings of the requests of the output side: format, blanking, start and stop (chapter 08), SET_ARBITER
(chapter 09) and SET_FSYNC (chapter 10).
-/

namespace Sys2Proof.Machine

/-! ### Format and blanking (R133, R134) -/

/-- The blanking is in its ranges (R133, R134). -/
def blankingOk (hb vb : Nat) : Bool := inRange 64 4096 hb && inRange 8 1024 vb

/-- The output format is in its ranges (R133). -/
def outFormatOk (wo ho rate : Nat) : Bool :=
  evenInRange 640 3840 wo && evenInRange 360 2160 ho && inRange 25000 600000 rate

/-- SET_OUTPUT_FORMAT (R133). -/
def State.takeOutputFormat (s : State) (tag : Byte) (f : OutFormat) (b : Blanking) : State :=
  if outFormatOk f.wo f.ho f.rate && blankingOk b.hb b.vb then
    ({ s with otg := { s.otg with format := some f, blanking := some b, shadow := none } }).reply 0x03 tag .ok
  else s.reply 0x03 tag .badField

/-- SET_OUTPUT_FORMAT (R133). -/
def execSetOutputFormat (tag : Byte) (wo ho : Half) (rate : Word) (hb vb : Half) (s : State) :
    Host.Outcome State Fault Refusal :=
  .next (s.acceptIn .config 0x03 tag fun t =>
    t.takeOutputFormat tag ⟨wo.toNat, ho.toNat, rate.toNat⟩ ⟨hb.toNat, vb.toNat⟩)

/-- Blanking as accepted: the active blanking in CONFIG, the shadow in RUN (R134). -/
def State.setBlanking (s : State) (b : Blanking) : State :=
  if s.mode = .run then { s with otg := { s.otg with shadow := some b } }
  else { s with otg := { s.otg with blanking := some b, shadow := none } }

/-- SET_OUTPUT_BLANKING (R134). R134 gives both refusals without an order: a value out of range goes before the missing
format (DESIGN CHOICE, entry 43). -/
def State.takeBlanking (s : State) (tag : Byte) (b : Blanking) : State :=
  if !blankingOk b.hb b.vb then s.reply 0x04 tag .badField
  else if s.mode = .config ∧ s.otg.format = none then s.reply 0x04 tag .notConfigured
  else (s.setBlanking b).reply 0x04 tag .ok

/-- SET_OUTPUT_BLANKING (R134). -/
def execSetOutputBlanking (tag : Byte) (hb vb : Half) (s : State) : Host.Outcome State Fault Refusal :=
  .next (s.acceptLive 0x04 tag fun t => t.takeBlanking tag ⟨hb.toNat, vb.toNat⟩)

/-! ### Start and stop (R137, R138) -/

/-- START_OUTPUT, its checks in order (R137). The refused request leaves the maxima as they stood. -/
def State.takeStartOutput (s : State) (tag : Byte) (z0 : Nat) : State :=
  match s.otg.format with
  | none => s.reply 0x0E tag .notConfigured
  | some f =>
    if !s.anyConfigured then s.reply 0x0E tag .notConfigured
    else
      let t := s.withMaxima f.wo
      if !t.rangesOk then s.reply 0x0E tag .badField
      else
        let field := clampNat Config.zoomMin Config.zoomMax z0
        let rest := t.clampZoom z0
        t.beginOutput f rest fun u => u.reply 0x0E tag .ok [flagByte (field != z0 || rest != field)]

/-- START_OUTPUT (R137). -/
def execStartOutput (tag : Byte) (z0 : Half) (s : State) : Host.Outcome State Fault Refusal :=
  .next (s.acceptIn .config 0x0E tag fun t => t.takeStartOutput tag z0.toNat)

/-- STOP_OUTPUT in RUN (R138): it stays open, or BUSY while a stop is pending. -/
def State.takeStopOutput (s : State) (tag : Byte) : State :=
  match s.otg.stopPending with
  | some _ => s.reply 0x0F tag .busy
  | none => { s with otg := { s.otg with stopPending := some s.link.nextId }, link := s.link.keepOpen 0x0F tag }

/-- STOP_OUTPUT (R138). -/
def execStopOutput (tag : Byte) (s : State) : Host.Outcome State Fault Refusal :=
  .next (s.acceptIn .run 0x0F tag fun t => t.takeStopOutput tag)

/-! ### The arbitration table (R160, R161) -/

/-- The counts as taken (R160, step 1). -/
def arbCounts (b : ArbiterBody) : Nat × Nat × Nat :=
  (min 32 b.wheelCount.toNat, min 6 b.priorityCount.toNat, min 6 b.robinCount.toNat)

/-- Step 1 of R160 changed a count. -/
def arbClamped (b : ArbiterBody) : Bool :=
  decide (32 < b.wheelCount.toNat) || decide (6 < b.priorityCount.toNat) || decide (6 < b.robinCount.toNat)

/-- The shaped table, when its counted entries are clients with qualifiers (R160, steps 2 and 3). -/
def arbTableOf (b : ArbiterBody) : Option ArbTable :=
  match entriesOf (b.wheel.take (arbCounts b).1), entriesOf (b.priority.take (arbCounts b).2.1),
    entriesOf (b.robin.take (arbCounts b).2.2) with
  | some w, some p, some r => some ⟨w, p, r⟩
  | _, _, _ => none

/-- An accepted table: applied at once in CONFIG, pending in RUN (R161). -/
def State.setTable (s : State) (t : ArbTable) : State :=
  if s.mode = .run then { s with arbiter := { s.arbiter with pendingTable := some t } }
  else { s with arbiter := s.arbiter.apply t }

/-- SET_ARBITER, its checks in order (R160); the reply comes before the table is applied. -/
def State.takeArbiter (s : State) (tag : Byte) (b : ArbiterBody) : State :=
  match arbTableOf b with
  | none => s.reply 0x08 tag .badField
  | some t =>
    if t.servesAll then
      (s.reply 0x08 tag .ok
        [byteOf (arbCounts b).1, byteOf (arbCounts b).2.1, byteOf (arbCounts b).2.2, flagByte (arbClamped b)]).setTable t
    else s.reply 0x08 tag .badField

/-- SET_ARBITER (R160). -/
def execSetArbiter (tag : Byte) (body : ArbiterBody) (s : State) : Host.Outcome State Fault Refusal :=
  .next (s.acceptLive 0x08 tag fun t => t.takeArbiter tag body)

/-! ### Frame sync (R175) -/

/-- Frame-sync settings as accepted: applied in CONFIG, pending in RUN (R175). -/
def State.setFsync (s : State) (c : Cam) (x : Fsync) : State :=
  if s.mode = .run then { s with otg := { s.otg with fsyncPending := s.otg.fsyncPending.set c (some x) } }
  else { s with otg := { s.otg with fsync := s.otg.fsync.set c x } }

/-- The CLAMPED flag of SET_FSYNC (R175). -/
def State.fsyncFlag (s : State) (x : Fsync) : Bool :=
  match s.otg.format, s.otg.blanking with
  | some f, some b => fsyncClamped x (frameMicros f b)
  | _, _ => false

/-- SET_FSYNC (R175). -/
def execSetFsync (tag camera : Byte) (body : FsyncBody) (s : State) : Host.Outcome State Fault Refusal :=
  .next (s.acceptLive 0x09 tag fun t =>
    match camOf camera, fsyncOf body with
    | some c, some x => (t.setFsync c x).reply 0x09 tag .ok [flagByte (t.fsyncFlag x)]
    | _, _ => t.reply 0x09 tag .badField)

end Sys2Proof.Machine
end

