-- ==== Sys2Proof/Machine/RelayCommands.lean ====
section
/-!
DEFINITION. Meanings of the requests of the Sensor Control Relay (chapter 10): LOAD_SCRIPT and the pass-throughs
SENSOR_READ and SENSOR_WRITE.
-/

namespace Sys2Proof.Machine

/-! ### Scripts (R169) -/

/-- Camera `c`'s script replaced in the store. -/
def State.setScript (s : State) (c : Cam) (sel : Selector) (steps : List Step) : State :=
  let x := s.relay.scripts.get c
  let y : Scripts := match sel with
    | .start => { x with start := steps }
    | .stop => { x with stop := steps }
  { s with relay := { s.relay with scripts := s.relay.scripts.set c y } }

/-- LOAD_SCRIPT, its checks in order (R169). -/
def State.takeScript (s : State) (tag camera selector : Byte) (raw : List RawStep) : State :=
  match camOf camera, selectorOf selector, stepsOfRaw raw with
  | some c, some sel, some steps =>
    if Config.scriptSteps < raw.length then s.reply 0x0B tag .badField
    else if s.scriptInUse c sel then s.reply 0x0B tag .busy
    else (s.setScript c sel steps).reply 0x0B tag .ok
  | _, _, _ => s.reply 0x0B tag .badField

/-- LOAD_SCRIPT (R169). -/
def execLoadScript (tag camera selector : Byte) (steps : List RawStep) (s : State) :
    Host.Outcome State Fault Refusal :=
  .next (s.acceptLive 0x0B tag fun t => t.takeScript tag camera selector steps)

/-! ### Pass-throughs (R166) -/

/-- The bus and the address of a target, or the status that refuses it (R166, steps 1 and 2). -/
inductive Target
  | refused (status : Status)
  | resolved (bus : Bus) (address : Nat)
  deriving DecidableEq, Repr

/-- The target of a request resolved (R166, steps 1 and 2). The address byte of a camera target is not looked at
(DEDUCED, entry 28). -/
def State.targetOf (s : State) (b : SensorBody) : Target :=
  if !inRange 1 4 b.count.toNat then .refused .badField
  else
    match b.form.toNat with
    | 0 =>
      match camOf b.which with
      | none => .refused .badField
      | some c =>
        match (s.port c).cal with
        | some k => .resolved k.bus k.address
        | none => .refused .notConfigured
    | 1 =>
      if b.address.toNat ≤ 0x7F then
        match b.which.toNat with
        | 0 => .resolved .a b.address.toNat
        | 1 => .resolved .b b.address.toNat
        | _ => .refused .badField
      else .refused .badField
    | _ => .refused .badField

/-- A pass-through joins the queue of its bus and its request stays open; an IDLE bus is given to it (R166, R168). -/
def State.queuePass (s : State) (kind tag : Byte) (x : Bus) (t : Transaction) : State :=
  let p : PassThrough := ⟨s.link.nextId, t⟩
  let u := s.setBus x { s.bus x with passQueue := (s.bus x).passQueue ++ [p] }
  ({ u with link := u.link.keepOpen kind tag }).giveBus x

/-- SENSOR_READ and SENSOR_WRITE, the checks in order (R166). -/
def State.takePass (s : State) (kind tag : Byte) (b : SensorBody) (action : Action) : State :=
  match s.targetOf b with
  | .refused status => s.reply kind tag status
  | .resolved x address =>
    if Config.passPlaces ≤ (s.bus x).passQueue.length then s.reply kind tag .queueFull
    else s.queuePass kind tag x ⟨address, b.register, action⟩

/-- SENSOR_READ (R166). -/
def execSensorRead (tag : Byte) (body : SensorBody) (s : State) : Host.Outcome State Fault Refusal :=
  .next (s.acceptLive 0x14 tag fun t => t.takePass 0x14 tag body (.read body.count.toNat))

/-- SENSOR_WRITE: data bytes beyond the count are ignored (R166, Table 31). -/
def execSensorWrite (tag : Byte) (body : SensorBody) (data : Data4) (s : State) : Host.Outcome State Fault Refusal :=
  .next (s.acceptLive 0x15 tag fun t =>
    t.takePass 0x15 tag body (.write ((dataList data).take body.count.toNat)))

end Sys2Proof.Machine
end

