-- ==== Sys2Proof/Machine/ZoomCommands.lean ====
section
/-!
DEFINITION. Meanings of the requests of the Zoom Controller: ZOOM_TO and ZOOM_CANCEL (chapter 03), SET_HANDOFF and
SET_VIEW (chapter 04), SET_DISTANCE (chapter 05), GET_COMPOSITION (chapter 07).
-/

namespace Sys2Proof.Machine

/-! ### The ramp queue (R42 to R45) -/

/-- The mode of a mode byte (Table 31, ZOOM_TO). -/
def rampModeOf (b : Byte) : Option RampMode :=
  match b.toNat with
  | 0 => some .append
  | 1 => some .replace
  | _ => none

/-- A clamp of R42 changed the target. -/
def State.targetClamped (s : State) (target : Nat) : Bool :=
  clampNat Config.zoomMin Config.zoomMax target != target
    || s.clampZoom target != clampNat Config.zoomMin Config.zoomMax target

/-- The queue after an accepted ZOOM_TO (R43, R44). -/
def joinQueue (queue : List Segment) (g : Segment) : RampMode → List Segment
  | .append => queue ++ [g]
  | .replace => [g]

/-- The segment a ZOOM_TO makes (R42, steps 3 and 4). -/
def State.segmentOf (s : State) (target frames : Nat) (mode : RampMode) : Segment :=
  ⟨s.clampZoom target, max 1 frames, mode, none⟩

/-- ZOOM_TO with its mode (R42 to R44). -/
def State.zoomTo (s : State) (tag : Byte) (target frames : Nat) (mode : RampMode) : State :=
  let g := s.segmentOf target frames mode
  let queue := joinQueue s.zoom.queue g mode
  ({ s with zoom := { s.zoom with queue := queue } }).reply 0x10 tag .ok
    (num16 g.target ++ num16 g.frames ++ [flagByte (s.targetClamped target), byteOf queue.length])

/-- ZOOM_TO, its checks in order (R42). -/
def State.takeZoomTo (s : State) (tag : Byte) (target frames : Nat) (mode : Option RampMode) : State :=
  match mode with
  | none => s.reply 0x10 tag .badField
  | some .append =>
    if Config.rampDepth ≤ s.zoom.queue.length then s.reply 0x10 tag .queueFull
    else s.zoomTo tag target frames .append
  | some .replace => s.zoomTo tag target frames .replace

/-- ZOOM_TO_APPEND: ZOOM_TO with its mode byte (R42, R43). -/
def execZoomToAppend (tag : Byte) (target frames : Half) (mode : Byte) (s : State) :
    Host.Outcome State Fault Refusal :=
  .next (s.acceptIn .run 0x10 tag fun t => t.takeZoomTo tag target.toNat frames.toNat (rampModeOf mode))

/-- ZOOM_TO_REPLACE (R42, R44). -/
def execZoomToReplace (tag : Byte) (target frames : Half) (s : State) : Host.Outcome State Fault Refusal :=
  .next (s.acceptIn .run 0x10 tag fun t => t.takeZoomTo tag target.toNat frames.toNat (some .replace))

/-- An accepted ZOOM_CANCEL (R45). -/
def State.zoomCancel (s : State) (tag : Byte) : State :=
  let rest := s.zoom.lastApplied
  ({ s with zoom := { s.zoom with queue := [], rest := rest } }).reply 0x11 tag .ok
    (byteOf s.zoom.queue.length :: num16 rest)

/-- ZOOM_CANCEL (R45). -/
def execZoomCancel (tag : Byte) (s : State) : Host.Outcome State Fault Refusal :=
  .next (s.acceptIn .run 0x11 tag fun t => t.zoomCancel tag)

/-! ### Hand-off settings (R82) -/

/-- Steps 3 to 5 of R82 changed a value. -/
def handoffClamped (b : HandoffBody) : Bool :=
  (handoffTaken b).blend != b.blend.toNat || (handoffTaken b).prepare != b.prepare.toNat
    || (handoffTaken b).latency != b.latency.toNat

/-- SET_HANDOFF, its checks in order (R82). -/
def State.takeHandoff (s : State) (tag : Byte) (b : HandoffBody) : State :=
  if marginsOk b then
    ({ s with zoom := { s.zoom with pendingSettings := some (handoffTaken b) } }).reply 0x07 tag .ok
      ((handoffTaken b).bytes ++ [flagByte (handoffClamped b)])
  else s.reply 0x07 tag .badField

/-- SET_HANDOFF (R82). -/
def execSetHandoff (tag : Byte) (body : HandoffBody) (s : State) : Host.Outcome State Fault Refusal :=
  .next (s.acceptLive 0x07 tag fun t => t.takeHandoff tag body)

/-! ### Distance (R86) -/

/-- SET_DISTANCE (R86). -/
def execSetDistance (tag : Byte) (distance : Half) (s : State) : Host.Outcome State Fault Refusal :=
  .next (s.acceptLive 0x12 tag fun t =>
    ({ t with zoom := { t.zoom with distance := distanceTaken distance.toNat } }).reply 0x12 tag .ok
      (num16 (distanceTaken distance.toNat) ++ [flagByte (distanceTaken distance.toNat != distance.toNat)]))

/-! ### Views (R76) -/

/-- The camera a byte names, when it is eligible. -/
def State.eligibleOf (s : State) (b : Byte) : Option Cam := (camOf b).filter s.eligible

/-- The split row is at most the output height (R76). -/
def State.splitOk (s : State) (split : Nat) : Bool :=
  match s.otg.format with
  | some f => decide (split ≤ f.ho)
  | none => false

/-- The view a SET_VIEW asks for, when R76 does not refuse it. A body byte that the mode does not use is not looked at: both
camera bytes and the split row in NORMAL, camera B and the split row in LOCKED (DESIGN CHOICE, entry 48). -/
def State.viewOf (s : State) (mode first second : Byte) (split : Nat) : Option View :=
  match mode.toNat with
  | 0 => some .normal
  | 1 => (s.eligibleOf first).map View.locked
  | 2 =>
    match s.eligibleOf first, s.eligibleOf second with
    | some a, some b =>
      if a ≠ b ∧ s.splitOk split ∧ s.overlap a b then some (.compare a b split) else none
    | _, _ => none
  | _ => none

/-- SET_VIEW (R76). -/
def execSetView (tag mode first second : Byte) (split : Half) (s : State) : Host.Outcome State Fault Refusal :=
  .next (s.acceptIn .run 0x13 tag fun t =>
    match t.viewOf mode first second split.toNat with
    | some v => ({ t with zoom := { t.zoom with view := v } }).reply 0x13 tag .ok
    | none => t.reply 0x13 tag .badField)

/-! ### The composition record (R130) -/

/-- The record a selector names; none for an unknown selector (R130). -/
def State.recordOf (s : State) (selector : Byte) : Option (Option Record) :=
  match selector.toNat with
  | 0 => some s.zoom.current
  | 1 => some s.zoom.previous
  | _ => none

/-- GET_COMPOSITION (R130). -/
def execGetComposition (tag selector : Byte) (s : State) : Host.Outcome State Fault Refusal :=
  .next (s.acceptLive 0x19 tag fun t =>
    match t.recordOf selector with
    | some r => t.reply 0x19 tag .ok (recordBytes r)
    | none => t.reply 0x19 tag .badField)

end Sys2Proof.Machine
end

