-- ==== Sys2Proof/Machine/WriteTransaction.lean ====
section
/-!
DEFINITION. WRITE_TRANSACTION (R178, R179): the judgement of an inbound frame, and an accepted frame handled at once
as the request it carries (R180; DEDUCED, entry 1).
-/

namespace Sys2Proof.Machine

/-- The request an accepted frame carries is handed to the block that owns the matter (R180, step 3). The commands that
are not requests are carried by no frame. -/
def runRequest (i : Instr) (s : State) : Host.Outcome State Fault Refusal :=
  match i with
  | .pinReset => .next s
  | .bootingEnd => .next s
  | .writeTransaction _ _ => .next s
  | .readTransaction _ _ => .next s
  | .unknownKind _ _ => .next s
  | .hello tag => execHello tag s
  | .resetPart tag => execResetPart tag s
  | .setOutputFormat tag wo ho rate hb vb => execSetOutputFormat tag wo ho rate hb vb s
  | .setOutputBlanking tag hb vb => execSetOutputBlanking tag hb vb s
  | .setCameraFormat tag camera ws hs slots => execSetCameraFormat tag camera ws hs slots s
  | .removeCamera tag camera ws hs => execRemoveCamera tag camera ws hs s
  | .setCameraCal tag camera body => execSetCameraCal tag camera body s
  | .setHandoff tag body => execSetHandoff tag body s
  | .setArbiter tag body => execSetArbiter tag body s
  | .setFsync tag camera body => execSetFsync tag camera body s
  | .setNotices tag mask => execSetNotices tag mask s
  | .loadScript tag camera selector steps => execLoadScript tag camera selector steps s
  | .startCamera tag camera mode => execStartCamera tag camera mode s
  | .startCameraPattern tag camera => execStartCameraPattern tag camera s
  | .stopCamera tag camera => execStopCamera tag camera s
  | .startOutput tag z0 => execStartOutput tag z0 s
  | .stopOutput tag => execStopOutput tag s
  | .zoomToAppend tag target frames mode => execZoomToAppend tag target frames mode s
  | .zoomToReplace tag target frames => execZoomToReplace tag target frames s
  | .zoomCancel tag => execZoomCancel tag s
  | .setDistance tag distance => execSetDistance tag distance s
  | .setView tag mode first second split => execSetView tag mode first second split s
  | .sensorRead tag body => execSensorRead tag body s
  | .sensorWrite tag body data => execSensorWrite tag body data s
  | .getStatus tag part => execGetStatus tag part s
  | .getCamera tag camera => execGetCamera tag camera s
  | .getStats tag camera clear => execGetStats tag camera clear s
  | .getComposition tag selector => execGetComposition tag selector s
  | .frameStart _ => .next s
  | .linePacket _ _ _ _ => .next s
  | .frameEnd _ => .next s
  | .patternFrameStart _ => .next s
  | .patternRow _ => .next s
  | .patternFrameEnd _ => .next s
  | .expiry _ => .next s
  | .boundary => .next s
  | .blankingLineStart => .next s
  | .outputFrameStart => .next s
  | .lineStart => .next s
  | .outputFrameEnd => .next s
  | .grantOpportunity => .next s
  | .transferCompletion => .next s
  | .transactionEnd _ _ _ => .next s
  | .busTimeout _ => .next s
  | .waitEnd _ => .next s
  | .pollRetry _ => .next s
  | .fsyncPulseStart _ => .next s
  | .fsyncPulseEnd _ => .next s
  | .resetnReleased => .next s

/-- What is made of kind, tag and body of a frame that the judgement has passed (R180). -/
def runFrame (kind tag : Byte) (body : List Byte) (s : State) : Host.Outcome State Fault Refusal :=
  match parseRequest kind tag body with
  | .badKind => .next (s.accept fun t => t.reply kind tag .badKind [kind])
  | .badLength => .next (s.accept fun t => t.reply kind tag .badLength)
  | .request i => runRequest i s

/-- A read in progress on the port has ended. -/
def State.endRead (s : State) : State := { s with link := s.link.endRead }

/-- A write transaction on the port (R178). -/
def State.beginWrite (s : State) : State := { s with link := s.link.beginWrite }

/-- A frame is judged at the end of its write transaction (R179): the tests of the frame first, that of the reply places
last. -/
def State.judged (s : State) (data : List Byte) : Host.Outcome State Fault Refusal :=
  match judgeFrame data with
  | some reason => .next { s with link := s.link.discard reason }
  | none =>
    let f := frameParts data
    runFrame f.1 f.2.1 f.2.2 s

/-- WRITE_TRANSACTION (R178, R179): ignored for another command byte, or when it ends after the command byte. What the
port shifts out in an ignored transaction is not stated: `spiOut` stays that of the transaction before (DESIGN CHOICE,
entry 47). -/
def execWriteTransaction (command : Byte) (data : List Byte) (s : State) : Host.Outcome State Fault Refusal :=
  if s.resetHeld then .next s
  else if command ≠ 1 ∨ data = [] then .next s.endRead
  else s.beginWrite.judged data

end Sys2Proof.Machine
end

