-- ==== Sys2Proof/Machine/Dispatch.lean ====
section
/-!
DEFINITION. Which meaning each command has: one arm for each constructor of Instr.
-/

namespace Sys2Proof.Machine

def exec (i : Instr) (s : State) : Host.Outcome State Fault Refusal :=
  match i with
  | .pinReset => Sys2Proof.Machine.execPinReset s
  | .bootingEnd => Sys2Proof.Machine.execBootingEnd s
  | .writeTransaction command data => Sys2Proof.Machine.execWriteTransaction command data s
  | .readTransaction count ends => Sys2Proof.Machine.execReadTransaction count ends s
  | .unknownKind tag kind => Sys2Proof.Machine.execUnknownKind tag kind s
  | .hello tag => Sys2Proof.Machine.execHello tag s
  | .resetPart tag => Sys2Proof.Machine.execResetPart tag s
  | .setOutputFormat tag wo ho rate hb vb => Sys2Proof.Machine.execSetOutputFormat tag wo ho rate hb vb s
  | .setOutputBlanking tag hb vb => Sys2Proof.Machine.execSetOutputBlanking tag hb vb s
  | .setCameraFormat tag camera ws hs slots => Sys2Proof.Machine.execSetCameraFormat tag camera ws hs slots s
  | .removeCamera tag camera ws hs => Sys2Proof.Machine.execRemoveCamera tag camera ws hs s
  | .setCameraCal tag camera body => Sys2Proof.Machine.execSetCameraCal tag camera body s
  | .setHandoff tag body => Sys2Proof.Machine.execSetHandoff tag body s
  | .setArbiter tag body => Sys2Proof.Machine.execSetArbiter tag body s
  | .setFsync tag camera body => Sys2Proof.Machine.execSetFsync tag camera body s
  | .setNotices tag mask => Sys2Proof.Machine.execSetNotices tag mask s
  | .loadScript tag camera selector steps => Sys2Proof.Machine.execLoadScript tag camera selector steps s
  | .startCamera tag camera mode => Sys2Proof.Machine.execStartCamera tag camera mode s
  | .startCameraPattern tag camera => Sys2Proof.Machine.execStartCameraPattern tag camera s
  | .stopCamera tag camera => Sys2Proof.Machine.execStopCamera tag camera s
  | .startOutput tag z0 => Sys2Proof.Machine.execStartOutput tag z0 s
  | .stopOutput tag => Sys2Proof.Machine.execStopOutput tag s
  | .zoomToAppend tag target frames mode => Sys2Proof.Machine.execZoomToAppend tag target frames mode s
  | .zoomToReplace tag target frames => Sys2Proof.Machine.execZoomToReplace tag target frames s
  | .zoomCancel tag => Sys2Proof.Machine.execZoomCancel tag s
  | .setDistance tag distance => Sys2Proof.Machine.execSetDistance tag distance s
  | .setView tag mode first second split => Sys2Proof.Machine.execSetView tag mode first second split s
  | .sensorRead tag body => Sys2Proof.Machine.execSensorRead tag body s
  | .sensorWrite tag body data => Sys2Proof.Machine.execSensorWrite tag body data s
  | .getStatus tag part => Sys2Proof.Machine.execGetStatus tag part s
  | .getCamera tag camera => Sys2Proof.Machine.execGetCamera tag camera s
  | .getStats tag camera clear => Sys2Proof.Machine.execGetStats tag camera clear s
  | .getComposition tag selector => Sys2Proof.Machine.execGetComposition tag selector s
  | .frameStart c => Sys2Proof.Machine.execFrameStart c s
  | .linePacket c luma u v => Sys2Proof.Machine.execLinePacket c luma u v s
  | .frameEnd c => Sys2Proof.Machine.execFrameEnd c s
  | .patternFrameStart c => Sys2Proof.Machine.execPatternFrameStart c s
  | .patternRow c => Sys2Proof.Machine.execPatternRow c s
  | .patternFrameEnd c => Sys2Proof.Machine.execPatternFrameEnd c s
  | .expiry c => Sys2Proof.Machine.execExpiry c s
  | .boundary => Sys2Proof.Machine.execBoundary s
  | .blankingLineStart => Sys2Proof.Machine.execBlankingLineStart s
  | .outputFrameStart => Sys2Proof.Machine.execOutputFrameStart s
  | .lineStart => Sys2Proof.Machine.execLineStart s
  | .outputFrameEnd => Sys2Proof.Machine.execOutputFrameEnd s
  | .grantOpportunity => Sys2Proof.Machine.execGrantOpportunity s
  | .transferCompletion => Sys2Proof.Machine.execTransferCompletion s
  | .transactionEnd bus acked received => Sys2Proof.Machine.execTransactionEnd bus acked received s
  | .busTimeout bus => Sys2Proof.Machine.execBusTimeout bus s
  | .waitEnd bus => Sys2Proof.Machine.execWaitEnd bus s
  | .pollRetry bus => Sys2Proof.Machine.execPollRetry bus s
  | .fsyncPulseStart c => Sys2Proof.Machine.execFsyncPulseStart c s
  | .fsyncPulseEnd c => Sys2Proof.Machine.execFsyncPulseEnd c s
  | .resetnReleased => Sys2Proof.Machine.execResetnReleased s

end Sys2Proof.Machine
end

