-- ==== Sys2Proof/Machine/Clock.lean ====
section
/-!
DEFINITION. The clock that runs while no command waits (DESIGN CHOICE, entries 2, 5, 34, 35): the due events of the present
microsecond one by one in a fixed order, and then the next microsecond.
-/

namespace Sys2Proof.Machine

/-! ### Due events -/

/-- An event of a list of candidates: the first that is due. -/
def firstDue (xs : List (Bool × Instr)) : Option Instr := (xs.find? Prod.fst).map Prod.snd

/-- The countdown of camera `c` has reached 0 (R28). -/
def State.expiryDue (s : State) (c : Cam) : Bool := (s.monitor c).countdown == some 0

/-- The WAIT or the retry interval of bus `x` has been counted (R171, R172). -/
def State.waitDue (s : State) (x : Bus) : Bool := (s.bus x).running.any fun r => r.phase == .waiting 0
def State.retryDue (s : State) (x : Bus) : Bool := (s.bus x).running.any fun r => r.phase == .retry 0

/-- The due event that is taken next (DESIGN CHOICE, entry 5). A boundary goes before a pulse's end at the same instant, so that a line
stays active across it (R176). -/
def State.dueCommand (s : State) : Option Instr :=
  let ready := firstDue
    [(s.opportunity, .grantOpportunity),
      (s.expiryDue .c0, .expiry .c0), (s.expiryDue .c1, .expiry .c1),
      (s.expiryDue .c2, .expiry .c2), (s.expiryDue .c3, .expiry .c3),
      (s.waitDue .a, .waitEnd .a), (s.waitDue .b, .waitEnd .b),
      (s.retryDue .a, .pollRetry .a), (s.retryDue .b, .pollRetry .b)]
  (ready <|> Cam.all.findSome? s.patternDue) <|> (s.otg.rasterDue <|> Cam.all.findSome? s.otg.pulseDue)

/-! ### The next microsecond (R119) -/

/-- One microsecond less on an armed countdown (R28); what comes now does not fall together with an expiry before (R37). -/
def Monitor.tick (m : Monitor) : Monitor :=
  { m with countdown := m.countdown.map fun n => n - 1, stalledNow := false }

/-- One microsecond less of a WAIT or a retry interval (R171, R172). -/
def Phase.tick : Phase → Phase
  | .waiting n => .waiting (n - 1)
  | .retry n => .retry (n - 1)
  | .ready => .ready
  | .onBus => .onBus

/-- A bus over one microsecond. -/
def BusState.tick (b : BusState) : BusState :=
  { b with running := b.running.map fun r => { r with phase := r.phase.tick } }

/-- A port over one microsecond: the time since the pattern's frame start (R9). -/
def Port.tick (p : Port) : Port :=
  { p with pattern := p.pattern.map fun g => { g with elapsed := g.elapsed + 1 } }

/-- The Output Timing Generator over one microsecond: the pixel count and the pulses' time (R135, R176). -/
def Otg.tick (o : Otg) : Otg :=
  { o with
    phase := (match o.raster, o.format with
      | .stopped, _ => o.phase
      | _, some f => o.phase + f.rate
      | _, none => o.phase)
    pulse := Quad.tab fun c => (o.pulse.get c).map fun p => { p with elapsed := p.elapsed + 1 } }

/-- One microsecond: the Timebase rises by one, and everything that counts with it (R119). -/
def State.tick (s : State) : State :=
  { s with
    timebase := s.timebase + 1
    monitors := Quad.tab fun c => (s.monitor c).tick
    ports := Quad.tab fun c => (s.port c).tick
    relay := { s.relay with buses := ⟨(s.bus .a).tick, (s.bus .b).tick⟩ }
    otg := s.otg.tick }

/-- What the block does while no command waits: a due event, or else the next microsecond. With RESETN held, nothing
(DESIGN CHOICE, entries 2, 7). -/
def idle (s : State) : Host.Outcome State Fault Refusal :=
  if s.resetHeld then .next s
  else
    match s.dueCommand with
    | some i => exec i s
    | none => .next s.tick

end Sys2Proof.Machine
end

