-- ==== Sys2Proof/Machine/Step.lean ====
section
/-!
DEFINITION. One step of the block: the command at the front of the queue, or the clock on an empty queue.
-/

namespace Sys2Proof.Machine

/-- The command at the front of the queue takes its effect on the state with the queue's rest; on an empty queue the
clock runs (DESIGN CHOICE, entries 2 and 6). -/
def step (s : State) : Host.Outcome State Fault Refusal :=
  match s.pending with
  | i :: rest => exec i { s with pending := rest }
  | [] => idle s

/-- The state with the command a word spells put at the front of the queue; no word spells one (DEDUCED, entry 9). -/
def State.withFetchWord (s : State) (nbits w : Nat) : State :=
  match decodeTableWord nbits w with
  | some i => { s with pending := i :: s.pending }
  | none => s

end Sys2Proof.Machine
end

