-- ==== Sys2Proof/Safety.lean ====
section
/-!
DEFINITION. What counts as a lawful state of the block: the laws the spec states over all of its state, in the terms the
statements use, and the two forms in which a request leaves the Control Link.
-/

namespace Sys2Proof.Machine

/-! ### The Control Link (R179 to R181) -/

/-- The LINK_REJECT frames queued. -/
def rejectCount (q : List OutFrame) : Nat := q.countP OutFrame.isReject

/-- The places of the outbound queue (R180, R181): the claims are the open requests and the queued replies, at most 8;
at most 15 notices; one LINK_REJECT exactly while the holder is occupied. -/
structure Link.Law (l : Link) : Prop where
  claims : l.claims = l.opened.length + replyCount l.outbound
  places : l.claims ≤ Config.replyPlaces
  notices : noticeCount l.outbound ≤ Config.noticePlaces
  holder : rejectCount l.outbound = if l.holder then 1 else 0

/-- The open requests that blocks of the part hold: the pass-throughs of both buses and a pending STOP_OUTPUT. -/
def State.held (s : State) : List Nat :=
  (s.bus .a).passQueue.map PassThrough.id ++ (s.bus .b).passQueue.map PassThrough.id ++ s.otg.stopPending.toList

/-- Every open request is held by exactly one block, and no two have one name: each is answered exactly once (R180). -/
structure State.OpenLaw (s : State) : Prop where
  held : (s.link.opened.map OpenRequest.id).Perm s.held
  once : (s.link.opened.map OpenRequest.id).Nodup
  named : ∀ o ∈ s.link.opened, o.id < s.link.nextId

/-- A request's frame is accepted: RESETN is not held and a reply place is free (R179). -/
def State.canAccept (s : State) : Prop := s.resetHeld = false ∧ s.link.claims < Config.replyPlaces

/-- The link after a request was accepted and answered at once: its claim, and its reply at the tail (R180). Nothing
but 0x00 was shifted out while its frame came in (R178). -/
def Link.answered (l : Link) (kind tag : Byte) (status : Status) (body : List Byte) : Link :=
  { l with claims := l.claims + 1, reading := .idle, spiOut := []
           outbound := l.outbound ++ [.reply kind tag status body] }

/-- The link after a request was accepted and stays open (R180). -/
def Link.kept (l : Link) (kind tag : Byte) : Link :=
  { l with claims := l.claims + 1, reading := .idle, spiOut := [], opened := l.opened ++ [⟨l.nextId, kind, tag⟩]
           nextId := l.nextId + 1 }

/-- The state after a request was accepted, before it is handled: its claim, no read in progress, and nothing but 0x00
shifted out (R178, R180). -/
def State.taken (s : State) : State :=
  { s with link := { s.link with claims := s.link.claims + 1, reading := .idle, spiOut := [] } }

/-- The state after a request was accepted and answered at once, nothing else changed. -/
def State.answered (s : State) (kind tag : Byte) (status : Status) (body : List Byte := []) : State :=
  { s with link := s.link.answered kind tag status body }

/-! ### Fields of messages (R187) -/

/-- The one-byte field at offset `k` of a message holds `n`; an absent one holds 255. -/
def field8 (xs : List Byte) (k n : Nat) : Prop := xs[k]? = some (BitVec.ofNat 8 n)

/-- The two-byte field at offset `k` holds `n`, the low byte first; an absent one holds 65535. -/
def field16 (xs : List Byte) (k n : Nat) : Prop := field8 xs k n ∧ field8 xs (k + 1) (n / 256)

/-- The four-byte field at offset `k` holds `n`, the low byte first. -/
def field32 (xs : List Byte) (k n : Nat) : Prop := field16 xs k n ∧ field16 xs (k + 2) (n / 65536)

/-! ### The Frame Store Arbiter (R154, R159) -/

/-- A table with counts in range in which every client has an entry with qualifier ANY (R159, Table 24). -/
structure ArbTable.Law (t : ArbTable) : Prop where
  wheel : t.wheel.length ≤ 32
  priority : t.priority.length ≤ 6
  robin : t.robin.length ≤ 6
  serves : ∀ c : Client, ⟨c, .any⟩ ∈ t.wheel ++ t.priority ++ t.robin

/-- A pointer runs from 0 to its list's count less one, and is 0 while the count is 0 (R154). -/
def ptrOk (k n : Nat) : Prop := k < n ∨ (k = 0 ∧ n = 0)

/-- Applied and pending table are lawful, and the pointers are in range (R154, R159). -/
structure Arbiter.Law (a : Arbiter) : Prop where
  table : a.table.Law
  pending : ∀ t, a.pendingTable = some t → t.Law
  wheel : ptrOk a.wheelPtr a.table.wheel.length
  robin : ptrOk a.robinPtr a.table.robin.length

/-- The channel initialises the frame store exactly in BOOTING (R162). -/
def State.ChannelLaw (s : State) : Prop := s.arbiter.channel = .initialising ↔ s.mode = .booting

/-! ### Capacities (R18, R40, R141, R164, R169) -/

/-- What the buffers and queues hold at most. -/
structure State.Capacities (s : State) : Prop where
  buffers : ∀ c, (s.port c).buffer.length ≤ Config.bufferLines
  ramp : s.zoom.queue.length ≤ Config.rampDepth
  passes : ∀ x, (s.bus x).passQueue.length ≤ Config.passPlaces
  windows : s.composer.rp.lines.length ≤ Config.windowLines ∧ s.composer.rs.lines.length ≤ Config.windowLines
  scripts : ∀ c, (s.relay.scripts.get c).start.length ≤ Config.scriptSteps
    ∧ (s.relay.scripts.get c).stop.length ≤ Config.scriptSteps

/-! ### Script runs (R170, R174) -/

/-- Runs of one script of camera `c` on a bus that wait or run without an abort mark. -/
def BusState.liveRuns (b : BusState) (c : Cam) (sel : Selector) : Nat :=
  b.waiting.countP (fun r => r.camera == c && r.selector == sel)
    + (match b.running with
        | some r => if r.run.camera = c ∧ r.run.selector = sel ∧ r.abort = false then 1 else 0
        | none => 0)

/-- The same over both buses: a run keeps the bus it was placed on (R170). -/
def State.liveRuns (s : State) (c : Cam) (sel : Selector) : Nat :=
  (s.bus .a).liveRuns c sel + (s.bus .b).liveRuns c sel

/-- A camera has one START run exactly in LOADING and one STOP run exactly in STOPPING, beside START runs that are being
aborted, which finish their transaction. -/
structure State.RunLaw (s : State) : Prop where
  start : ∀ c, s.liveRuns c .start = if (s.port c).state = .loading then 1 else 0
  stop : ∀ c, s.liveRuns c .stop = if (s.port c).state = .stopping then 1 else 0
  aborted : ∀ x r, (s.bus x).running = some r → r.abort = true → r.phase = .onBus ∧ r.run.selector = .start

/-! ### Arrival monitoring (Table 11) -/

/-- The countdown is armed exactly in WAITING, STREAMING and STALLED; the stall count by state; a camera that is not OFF
is configured. -/
structure State.CountdownLaw (s : State) (c : Cam) : Prop where
  armed : (s.monitor c).countdown.isSome = (s.port c).state.takes
  none : (s.port c).state = .loading ∨ (s.port c).state = .waiting ∨ (s.port c).state = .streaming →
    (s.monitor c).stallCount = 0
  some : (s.port c).state = .stalled → (s.monitor c).stallCount = 1 ∨ (s.monitor c).stallCount = 2
  range : (s.monitor c).stallCount ≤ 3
  configured : (s.port c).state ≠ .off → (s.port c).configured = true
  parts : (s.port c).cal.isSome = true → (s.port c).format.isSome = true

/-! ### Frame rings and pins (R22, R125, R126) -/

/-- The role and slot the current record gives a camera; none without a record. -/
def State.pinNow (s : State) (c : Cam) : Option (Nat × Pin) := s.zoom.current.bind fun r => r.pinOf c

/-- The pin a slot has when a record names `named`. -/
def pinAt (named : Option (Nat × Pin)) (k : Nat) : Pin :=
  match named with
  | some (j, role) => if j = k then role else .none
  | none => .none

/-- The line carries the tag of slot `k`'s frame with sequence number `seq` (R18). -/
def BufferedLine.tagged (k : Nat) (seq : Word) (l : BufferedLine) : Bool := l.slot == k && l.seq == seq

/-- The lines of slot `k`'s frame `seq` that stand behind the last line of slot `j`'s frame `old` in a line buffer. -/
def linesBehind (j : Nat) (old : Word) (k : Nat) (seq : Word) (buffer : List BufferedLine) : Nat :=
  (buffer.reverse.takeWhile fun l => !l.tagged j old).countP fun l => l.tagged k seq

/-- The writes of a ring's frames (R18, R22): a slot counts at most as many outstanding writes as lines with its tag wait; a
DRAINING slot has one outstanding; and the rows of a FILLING slot that has dropped none stand behind the lines of a
DRAINING one, so that there is never a second. -/
structure Port.DrainLaw (p : Port) : Prop where
  size : p.buffer.length ≤ Config.bufferLines
  rows : ∀ f, p.format = some f → 64 ≤ f.hs
  draining : p.ring.countP (fun x => x.state == .draining) ≤ 1
  drains : ∀ (k : Nat) (x : Slot), p.ring[k]? = some x → x.state = .draining → 1 ≤ x.outstanding
  writes : ∀ (k : Nat) (x : Slot), p.ring[k]? = some x → x.state = .filling ∨ x.state = .draining →
    x.outstanding ≤ p.buffer.countP fun l => l.tagged k x.seq
  behind : ∀ (j : Nat) (x : Slot) (k : Nat) (y : Slot), p.ring[j]? = some x → p.ring[k]? = some y → x.state = .draining →
    y.state = .filling → y.dropped = false → y.lines ≤ linesBehind j x.seq k y.seq p.buffer

/-- The ring of camera `c`: at most one FILLING and at most one DRAINING slot; pinned are exactly the slots the current
record names, and these are READY. -/
structure State.RingLaw (s : State) (c : Cam) : Prop where
  filling : (s.port c).ring.countP (fun x => x.state == .filling) ≤ 1
  writes : (s.port c).DrainLaw
  pinned : ∀ k x, (s.port c).ring[k]? = some x → x.pin = pinAt (s.pinNow c) k
  ready : ∀ k role, s.pinNow c = some (k, role) → ∃ x, (s.port c).ring[k]? = some x ∧ x.state = .ready

/-- The rings of all cameras are lawful, and a record stands only in RUN (R84, R129). -/
structure State.RingsLaw (s : State) : Prop where
  rings : ∀ c, s.RingLaw c
  record : s.mode ≠ .run → s.zoom.current = none

/-! ### The hand-off engine (R68, R76, R82) -/

/-- Hand-off settings in their ranges (R82). -/
structure HandoffSettings.Law (h : HandoffSettings) : Prop where
  margins : h.down < h.up ∧ h.up ≤ 256
  blend : 1 ≤ h.blend ∧ h.blend ≤ 32
  prepare : 1 ≤ h.prepare ∧ h.prepare ≤ 16
  latency : h.latency ≤ 100000

/-- Blend progress within 0..N with N within 1..32, and two cameras that differ (R68). -/
def Engine.Law : Engine → Prop
  | .stopped => True
  | .steady _ => True
  | .prepare o i _ _ => o ≠ i
  | .blend o i k n _ => o ≠ i ∧ k ≤ n ∧ 1 ≤ n ∧ n ≤ 32
  | .frozen => True
  | .compare a b _ => a ≠ b

/-- A COMPARE view names two cameras (R76). -/
def View.Law : View → Prop
  | .normal => True
  | .locked _ => True
  | .compare a b _ => a ≠ b

/-- The engine, the view, the settings and the weight of the current record (R68). -/
structure Zoom.EngineLaw (z : Zoom) : Prop where
  engine : z.engine.Law
  view : z.view.Law
  applied : z.settings.Law
  pending : ∀ h, z.pendingSettings = some h → h.Law
  weight : ∀ r, z.current = some r → r.weight ≤ 256

/-! ### Calibrations on their way to the Zoom Controller (R4, R104) -/

/-- An M from before a replacement of a calibration part is in use only in RUN, only for a camera that still has a
calibration part, and for none the hand-off engine names: a named camera's calibration cannot change (R104). -/
structure State.PriorLaw (s : State) : Prop where
  run : s.mode ≠ .run → ∀ c, s.zoom.priorM.get c = none
  cal : ∀ c, (s.zoom.priorM.get c).isSome = true → (s.port c).cal.isSome = true
  named : ∀ c, s.names c = true → s.zoom.priorM.get c = none

/-! ### The ramp queue (R40, R42, R49) -/

/-- A segment lasts at least one frame, and an active one has a step left. -/
def Segment.Law (g : Segment) : Prop := 1 ≤ g.frames ∧ ∀ p, g.progress = some p → p.i < g.frames

/-- At most 8 segments, of which only the head can be active (R40). -/
structure Zoom.RampLaw (z : Zoom) : Prop where
  size : z.queue.length ≤ Config.rampDepth
  segments : ∀ g ∈ z.queue, g.Law
  head : ∀ g ∈ z.queue.tail, g.progress = none

/-! ### Correction records (R109) -/

/-- The fields of a correction record in their ranges. -/
structure Corr.Law (k : Corr) : Prop where
  gain : 512 ≤ k.g ∧ k.g ≤ 2047
  offsetU : -32 ≤ k.oU ∧ k.oU ≤ 32
  offsetV : -32 ≤ k.oV ∧ k.oV ≤ 32

/-- Both correction records are in their ranges. -/
structure Zoom.CorrLaw (z : Zoom) : Prop where
  outgoing : z.outgoing.Law
  incoming : z.incoming.Law

/-! ### The frame store (DESIGN CHOICE, entry 10) -/

/-- Every slot's area is in canonical form. -/
def State.StoreLaw (s : State) : Prop := ∀ c, ∀ x ∈ (s.port c).ring, areaWf x.area = true

end Sys2Proof.Machine
end

