-- ==== Sys2Proof/Certificates/Slice0/Obligations.lean ====
section
/-!
DEFINITION. The statements for the provers, family by family: what each command does, with what it leaves unchanged, and
the laws every step keeps.
-/

open Sys2Proof Sys2Proof.Machine

/-! ### The queue and the clock -/

/-- A command runs when it stands at the front of the queue (entry 6). No command stops the block: the spec describes
nothing that does. -/
def Obligations.StepRunsFrontCommand : Prop :=
  (∀ (i : Instr) (s : State) (rest : List Instr), s.pending = i :: rest → step s = exec i { s with pending := rest }) ∧
  (∀ (i : Instr) (s : State), ∃ t, exec i s = .next t)

/-- R119, R28, R9, R135, R153, R171, R172, R176: on an empty queue one of the events that are due is taken: an expiry at
remaining time 0, a WAIT or retry interval that has been counted, a pattern packet at its instant, a raster event at its
pixel of Table 22, a pulse's start or end, and a grant opportunity as soon as there is one. With none due one microsecond
passes, and everything that counts with the Timebase counts it. That the clock runs on an empty queue is the model's choice
(entry 2), as are the order among due events (entry 5, not stated here) and the count `phase`, in thousandths of a pixel
period up to the end of the microsecond (entry 34). -/
def Obligations.EmptyQueueCountsOneMicrosecond : Prop :=
  ∀ s : State, s.pending = [] → s.resetHeld = false →
    let o := s.otg
    let past := fun pixel : Nat => 1000 * pixel < o.phase
    let rasterDue := fun i : Instr => ∃ f b, o.format = some f ∧ o.blanking = some b ∧
      let line := f.wo + b.hb
      match o.raster with
      | .stopped => False
      | .blanking q begun =>
        (begun = false ∧ q + 1 < b.vb ∧ i = .blankingLineStart ∧ past ((q + 1) * line))
          ∨ (begun = false ∧ b.vb ≤ q + 1 ∧ i = .outputFrameStart ∧ past ((b.vb - 1) * line))
          ∨ (begun = true ∧ i = .lineStart ∧ past (b.vb * line))
      | .active r ended =>
        (r + 1 < f.ho ∧ i = .lineStart ∧ past ((b.vb + r + 1) * line))
          ∨ (f.ho ≤ r + 1 ∧ ended = false ∧ i = .outputFrameEnd ∧ past ((b.vb + f.ho - 1) * line + f.wo))
          ∨ (f.ho ≤ r + 1 ∧ ended = true ∧ i = .boundary ∧ past ((b.vb + f.ho) * line))
    let packetDue := fun (c : Cam) (test : PatternGen → Format → Prop) =>
      ∃ g f, (s.port c).pattern = some g ∧ (s.port c).format = some f ∧ test g f
    let due : Instr → Prop := fun i => match i with
      | .grantOpportunity => s.arbiter.channel = .free ∧ ∃ client r, s.presented client = some r
      | .expiry c => (s.monitor c).countdown = some 0
      | .waitEnd x => ∃ r, (s.bus x).running = some r ∧ r.phase = .waiting 0
      | .pollRetry x => ∃ r, (s.bus x).running = some r ∧ r.phase = .retry 0
      | .patternRow c => packetDue c fun g f => g.nextRow < f.hs ∧ 3 * g.interval * g.nextRow / (4 * f.hs) ≤ g.elapsed
      | .patternFrameEnd c => packetDue c fun g f => g.nextRow = f.hs ∧ 3 * g.interval / 4 ≤ g.elapsed
      | .patternFrameStart c => packetDue c fun g f => f.hs < g.nextRow ∧ g.interval ≤ g.elapsed
      | .fsyncPulseStart c => ∃ p, o.pulse.get c = some p ∧ p.started = false ∧ p.offset ≤ p.elapsed
      | .fsyncPulseEnd c =>
        ∃ p, o.pulse.get c = some p ∧ p.started = true ∧ p.ended = false ∧ p.offset + p.width ≤ p.elapsed
      | i => rasterDue i
    ((∃ i, due i) → ∃ i, due i ∧ step s = exec i s) ∧
    ((∀ i, ¬ due i) → ∃ t, step s = .next t ∧ t.timebase = s.timebase + 1
      ∧ (∀ c, t.monitor c = ⟨(s.monitor c).countdown.map fun n => n - 1, (s.monitor c).stallCount, false⟩)
      ∧ (∀ c, t.port c = { s.port c with pattern := (s.port c).pattern.map fun g => { g with elapsed := g.elapsed + 1 } })
      ∧ (∀ x, t.bus x = { s.bus x with running := (s.bus x).running.map fun r => { r with
          phase := match r.phase with | .waiting n => .waiting (n - 1) | .retry n => .retry (n - 1) | p => p } })
      ∧ (∀ f, o.format = some f → t.otg.phase = if o.raster = .stopped then o.phase else o.phase + f.rate)
      ∧ (∀ c, t.otg.pulse.get c = (o.pulse.get c).map fun p => { p with elapsed := p.elapsed + 1 })
      ∧ t.otg.raster = o.raster ∧ t.otg.lineActive = o.lineActive ∧ t.otg.format = o.format ∧ t.otg.blanking = o.blanking
      ∧ t.otg.shadow = o.shadow ∧ t.otg.fsync = o.fsync ∧ t.otg.fsyncPending = o.fsyncPending
      ∧ t.otg.stopPending = o.stopPending ∧ t.otg.outPort = o.outPort
      ∧ t.mode = s.mode ∧ t.link = s.link ∧ t.zoom = s.zoom ∧ t.composer = s.composer ∧ t.arbiter = s.arbiter
      ∧ t.relay.scripts = s.relay.scripts ∧ t.pending = [])

/-! ### Resets and the Control Link (chapter 11) -/

/-- R183 and the tables of reset values (R27, R39, R53, R84, R105, R118, R132, R149, R163, R177): what PIN_RESET leaves,
every block, the abandoned read and the released buses among it; the channel of the frame store initialises it until the end
of BOOTING (R162). That RESETN then stands held, with the mode reading BOOTING already, is the model's choice (entry 7), and
that the initialisation lasts all that time its reading (DEDUCED, entry 44). -/
def Obligations.PinResetLeavesResetValues : Prop :=
  ∀ s : State, ∃ t, exec .pinReset s = .next t
    ∧ t.mode = .booting ∧ t.resetHeld = true ∧ t.bootCause = .pin ∧ t.timebase = 0 ∧ t.pending = s.pending
    ∧ t.link.outbound = [] ∧ t.link.claims = 0 ∧ t.link.opened = [] ∧ t.link.holder = false ∧ t.link.loss = false
    ∧ t.link.mask = 0x7F ∧ t.link.attnLow = false ∧ t.link.reading = .idle
    ∧ (∀ c, (t.port c).format = none ∧ (t.port c).cal = none ∧ (t.port c).ring = [] ∧ (t.port c).state = .off
      ∧ (t.port c).startMode = .live ∧ (t.port c).faultReason = .none ∧ (t.port c).seq = 0 ∧ (t.port c).buffer = []
      ∧ (t.port c).inFlight = false ∧ (t.port c).counters = ⟨0, 0, 0, 0, 0, 0⟩ ∧ (t.port c).pattern = none
      ∧ (t.port c).region = none
      ∧ (t.port c).sums = ⟨⟨⟨0, 0⟩, ⟨0, 0⟩, ⟨0, 0⟩⟩, ⟨⟨0, 0⟩, ⟨0, 0⟩, ⟨0, 0⟩⟩⟩)
    ∧ (∀ c, t.monitor c = ⟨none, 0, false⟩)
    ∧ t.zoom.queue = [] ∧ t.zoom.rest = 1024 ∧ t.zoom.heldRun = false ∧ t.zoom.engine = .stopped
    ∧ t.zoom.outgoing = ⟨1024, 0, 0, false⟩ ∧ t.zoom.incoming = ⟨1024, 0, 0, false⟩ ∧ t.zoom.view = .normal
    ∧ t.zoom.pendingCut = none ∧ t.zoom.settings = ⟨102, 51, 8, 3, 16667⟩ ∧ t.zoom.pendingSettings = none
    ∧ (∀ c, t.zoom.zmax.get c = none ∧ t.zoom.priorM.get c = none ∧ t.zoom.selection.get c = none
      ∧ t.zoom.prevSelected.get c = none)
    ∧ t.zoom.distance = 0 ∧ t.zoom.current = none ∧ t.zoom.previous = none
    ∧ t.otg.format = none ∧ t.otg.blanking = none ∧ t.otg.shadow = none ∧ t.otg.raster = .stopped
    ∧ t.otg.stopPending = none
    ∧ (∀ c, t.otg.fsync.get c = ⟨false, true, 0, 1⟩ ∧ t.otg.fsyncPending.get c = none ∧ t.otg.pulse.get c = none
      ∧ t.otg.lineActive.get c = false ∧ t.otg.fsyncLevel c = false)
    ∧ t.composer.rp.lines = [] ∧ t.composer.rs.lines = [] ∧ t.composer.lastLuma = none ∧ t.composer.lastU = none
    ∧ t.composer.lastV = none
    ∧ t.arbiter.channel = .initialising ∧ t.arbiter.table = ArbTable.default ∧ t.arbiter.pendingTable = none
    ∧ t.arbiter.wheelPtr = 0 ∧ t.arbiter.robinPtr = 0
    ∧ (∀ x, (t.bus x).engine = none ∧ (t.bus x).lastEnd = .released ∧ (t.bus x).passQueue = []
      ∧ (t.bus x).running = none ∧ (t.bus x).waiting = [])
    ∧ (∀ c, t.relay.scripts.get c = ⟨[], []⟩)

/-- R183, R184, R162, R163: RESETN_RELEASED lets BOOTING run, and BOOTING_END enters CONFIG with the frame store's channel
FREE and raises READY with the cause of the reset; nothing else changes. R181: with 15 notices queued READY coalesces into a
queued READY, takes the place of a FRAME_DONE, or is given up with the loss mark set; `front` is the head frame while a read is
shifting it out. Outside BOOTING, or with RESETN held, BOOTING_END leaves the state as it is, which is the model's choice
(entries 4, 7). -/
def Obligations.BootingEndsInConfig : Prop :=
  (∀ s : State, exec .resetnReleased s = .next { s with resetHeld := false }) ∧
  (∀ s : State, s.mode ≠ .booting ∨ s.resetHeld = true → exec .bootingEnd s = .next s) ∧
  (∀ (s : State) (front back : List OutFrame), s.mode = .booting → s.resetHeld = false → s.link.mask.getLsbD 0 = true →
    s.link.outbound = front ++ back →
    front.length = (if s.link.reading.holdsHead then min 1 s.link.outbound.length else 0) →
    let ready : Notice := .ready s.bootCause
    let ends := fun (outbound : List OutFrame) (loss : Bool) => exec .bootingEnd s = .next { s with
      mode := .config
      arbiter := { s.arbiter with channel := .free }
      link := { s.link with outbound := outbound, loss := loss } }
    let noReady := fun q : List OutFrame => ∀ cause k lost, .notice (.ready cause) k lost ∉ q
    let noFrameDone := fun q : List OutFrame => ∀ frame stamp k lost, .notice (.frameDone frame stamp) k lost ∉ q
    (noticeCount s.link.outbound < 15 → ends (s.link.outbound ++ [.notice ready 1 s.link.loss]) false) ∧
    (15 ≤ noticeCount s.link.outbound →
      (∀ pre cause k lost post, back = pre ++ .notice (.ready cause) k lost :: post → noReady pre →
        ends (front ++ (pre ++ .notice ready (min 255 (k + 1)) (lost || s.link.loss) :: post)) false) ∧
      (∀ pre frame stamp k lost post, back = pre ++ .notice (.frameDone frame stamp) k lost :: post → noReady back →
        noFrameDone pre → ends (front ++ (pre ++ post) ++ [.notice ready 1 s.link.loss]) false) ∧
      (noReady back → noFrameDone back → ends s.link.outbound true)))

/-- R178, R180, R181: a read shifts out bytes of the head frame from where the transaction stands, removes the frame when
its last byte has been shifted, gives a reply's place back and empties the reject holder with its LINK_REJECT; bytes after
it, later parts of the same transaction included, and bytes of an empty queue, are 0. A part of 0 bytes shifts nothing,
fixes no frame and leaves the queue as it is, and a transaction that ends after the command byte alone is ignored. R179,
R187, Tables 30 to 33: the bytes of a queued frame: marker, kind, tag, length, body and the check byte that brings the sum
of all but the marker to 0 modulo 256, with the body of a reply, of every notice and of the LINK_REJECT field by field. That
a read does nothing while RESETN is held is the model's choice (entry 7). That PREPARE_NEEDED carries no frame number, as
Table 32 has it against R59, is DEDUCED (entry 25). -/
def Obligations.ReadShiftsHeadFrame : Prop :=
  (let framed := fun (x : OutFrame) (kind tag : Byte) (body : List Byte) => ∃ check : Byte,
      x.bytes = 0x3C :: kind :: tag :: BitVec.ofNat 8 body.length :: (body ++ [check])
        ∧ ((x.bytes.drop 1).map BitVec.toNat).sum % 256 = 0
    let le16 := fun n : Nat => [BitVec.ofNat 8 n, BitVec.ofNat 8 (n / 256)]
    let le32 := fun w : Word => [BitVec.ofNat 8 w.toNat, BitVec.ofNat 8 (w.toNat / 256), BitVec.ofNat 8 (w.toNat / 65536),
      BitVec.ofNat 8 (w.toNat / 16777216)]
    let bit := fun b : Bool => if b then (1 : Byte) else 0
    let cam := fun c : Cam => match c with | .c0 => (0 : Byte) | .c1 => 1 | .c2 => 2 | .c3 => 3
    let noCam := fun o : Option Cam => match o with | some c => cam c | none => 0xFF
    let state := fun x : CamState => match x with
      | .off => (0 : Byte) | .loading => 1 | .waiting => 2 | .streaming => 3 | .stalled => 4 | .faulted => 5 | .stopping => 6
    let reason := fun x : Reason => match x with
      | .none => (0 : Byte) | .request => 1 | .autoStart => 2 | .started => 3 | .script => 4 | .frame => 5
      | .noFirstFrame => 6 | .stall => 7 | .stalledOut => 8 | .stopped => 9
    let event := fun x : HandoffEvent => match x with
      | .prepare => (1 : Byte) | .begin => 2 | .reverse => 3 | .resume => 4 | .complete => 5 | .returned => 6 | .cut => 7
      | .fallback => 8 | .frozen => 9 | .thaw => 10
    (∀ (kind tag : Byte) (status : Status) (body : List Byte),
      framed (.reply kind tag status body) (if status = .badKind then 0xFF else kind + 0x80) tag
        ((match status with
          | .ok => 0 | .wrongMode => 1 | .busy => 2 | .badKind => 3 | .badLength => 4 | .badField => 5 | .noSpace => 6
          | .queueFull => 7 | .noAck => 8 | .busTimeout => 9 | .flushed => 10 | .notConfigured => 11) :: body)) ∧
    (∀ (why : RejectReason) (count : Nat) (multiple : Bool), framed (.reject why count multiple) 0x7F 0
      [match why with | .marker => 0 | .length => 1 | .check => 2 | .full => 3, BitVec.ofNat 8 count, bit multiple]) ∧
    (∀ (n : Notice) (count : Nat) (lost : Bool),
      let noticed := fun (kind : Byte) (fields : List Byte) =>
        framed (.notice n count lost) kind 0 (bit lost :: BitVec.ofNat 8 count :: fields)
      match n with
      | .ready cause => noticed 0x40 [match cause with | .pin => 0 | .resetPart => 1]
      | .cameraState c old new why => noticed 0x41 [cam c, state old, state new, reason why]
      | .prepareNeeded c => noticed 0x42 [cam c]
      | .handoff e source goal frame => noticed 0x43 ([event e, noCam source, noCam goal] ++ le32 frame)
      | .zoomLimit k value frame =>
        noticed 0x44 ((match k with | .held => 0 | .clamped => 1 | .forced => 2) :: (le16 value ++ le32 frame))
      | .underrun frame lines => noticed 0x45 (le32 frame ++ le16 lines)
      | .scriptDone c selector result step cause => noticed 0x46
        [cam c, match selector with | .start => 0 | .stop => 1, match result with | .ok => 0 | .failed => 1 | .aborted => 2,
          BitVec.ofNat 8 step, match cause with | .none => 0 | .noAck => 1 | .busTimeout => 2 | .pollTimeout => 3]
      | .frameDone frame stamp => noticed 0x47 (le32 frame ++ le32 stamp))) ∧
  (∀ (s : State) (n : Nat) (ends : Bool), s.resetHeld = true → exec (.readTransaction n ends) s = .next s) ∧
  (∀ (s : State) (ends : Bool), s.resetHeld = false →
    exec (.readTransaction 0 ends) s = .next { s with link := { s.link with
      reading := if ends then .idle else (match s.link.reading with | .idle => .begun | stands => stands), spiOut := [] } }) ∧
  (∀ (s : State) (n : Nat) (ends : Bool), s.resetHeld = false → 0 < n → s.link.reading = .drained →
    exec (.readTransaction n ends) s = .next { s with link := { s.link with
      reading := if ends then .idle else .drained, spiOut := List.replicate n 0 } }) ∧
  ∀ (s : State) (n k : Nat) (ends : Bool), s.resetHeld = false → 0 < n →
    (s.link.reading = .idle ∧ k = 0 ∨ s.link.reading = .begun ∧ k = 0 ∨ s.link.reading = .shifting k) →
    (s.link.outbound = [] →
      exec (.readTransaction n ends) s = .next { s with
        link := { s.link with reading := if ends then .idle else .drained, spiOut := List.replicate n 0 } }) ∧
    (∀ x rest, s.link.outbound = x :: rest → x.bytes.length ≤ k + n →
      exec (.readTransaction n ends) s = .next { s with
        link := { s.link with
          outbound := rest
          claims := if x.isReply then s.link.claims - 1 else s.link.claims
          holder := if x.isReject then false else s.link.holder
          reading := if ends then .idle else .drained
          spiOut := x.bytes.drop k ++ List.replicate (n - (x.bytes.length - k)) 0 } }) ∧
    (∀ x rest, s.link.outbound = x :: rest → k + n < x.bytes.length →
      exec (.readTransaction n ends) s = .next { s with
        link := { s.link with
          reading := if ends then .idle else .shifting (k + n), spiOut := (x.bytes.drop k).take n } })

/-- R179: a discarded inbound frame changes nothing but the reject holder: with the holder empty a LINK_REJECT joins the
queue, with the holder occupied the queued one takes the reason, one more count and MULTIPLE. The first failing test gives
the reason. R178: a read on the port has ended before, and during a write transaction the device shifts out 0x00. -/
def Obligations.DiscardedFrameReported : Prop :=
  (∀ reason old count multiple,
    againRejected reason (.reject old count multiple) = .reject reason (min 255 (count + 1)) true) ∧
  (∀ (l : Link) (k : Nat), l.spiOut = [] → l.spiByte k = 0) ∧
  ∀ (s : State) (data : List Byte) (reason : RejectReason), s.resetHeld = false →
    ((reason = .marker ∧ ∃ b rest, data = b :: rest ∧ b ≠ 0xC3) ∨
     (reason = .length ∧ ∃ rest, data = 0xC3 :: rest ∧ data.length < 4) ∨
     (∃ kind tag len rest, data = 0xC3 :: kind :: tag :: len :: rest ∧
       ((reason = .length ∧ (248 < len.toNat ∨ data.length < len.toNat + 5)) ∨
        (reason = .check ∧ len.toNat ≤ 248 ∧ len.toNat + 5 ≤ data.length
          ∧ sumBytes ((kind :: tag :: len :: rest).take (len.toNat + 4)) ≠ 0) ∨
        (reason = .full ∧ len.toNat ≤ 248 ∧ len.toNat + 5 ≤ data.length
          ∧ sumBytes ((kind :: tag :: len :: rest).take (len.toNat + 4)) = 0 ∧ 8 ≤ s.link.claims)))) →
    exec (.writeTransaction 0x01 data) s = .next { s with
      link := { s.link with
        reading := .idle
        spiOut := []
        holder := true
        outbound := if s.link.holder then
            s.link.outbound.map (againRejected reason)
          else s.link.outbound ++ [.reject reason 1 false] } }

/-- R178, R180, R187, Tables 31, 33 and 34: the write transaction of a request's frame, whatever bytes follow its check
byte, runs that request with every field as it was sent. That it is handled in the same step as its acceptance is the
model's reading (entry 1). -/
def Obligations.RequestFrameRunsRequest : Prop :=
  ∀ (i : Instr) (s : State) (f junk : List Byte), i.wf = true → requestFrame i = some f → s.resetHeld = false →
    exec (.writeTransaction 0x01 (f ++ junk)) s = exec i s

/-- R185: HELLO is taken in every mode; the reply has status OK and carries vendor code 0x4E5A, part code 0x4D40, revision
1, the capacities 4, 4, 8 and 8, and the mode; no other state changes. -/
def Obligations.HelloAnswersInEveryMode : Prop :=
  ∀ (s : State) (tag : Byte), s.canAccept →
    exec (.hello tag) s = .next (s.answered 0x01 tag .ok
      [0x5A, 0x4E, 0x40, 0x4D, 1, 4, 4, 8, 8, match s.mode with | .booting => 0 | .config => 1 | .run => 2])

/-- R184: RESET_PART answers every other open request with FLUSHED in the order of acceptance, then itself with OK;
every block returns to its reset values and the part enters BOOTING, while the outbound queue, the claims, the reject
holder, the loss mark and the Timebase stand. -/
def Obligations.ResetPartFlushesAndKeepsQueue : Prop :=
  ∀ (s : State) (tag : Byte), s.canAccept → s.mode ≠ .booting →
    exec (.resetPart tag) s = .next { State.reset with
      bootCause := .resetPart, timebase := s.timebase, freeSeed := s.freeSeed, pending := s.pending
      link := { s.link with
        claims := s.link.claims + 1, reading := .idle, spiOut := [], opened := [], mask := 0x7F
        outbound := s.link.outbound ++ s.link.opened.map (fun o => .reply o.kind o.tag .flushed [])
          ++ [.reply 0x02 tag .ok []] } }

/-- R182: SET_NOTICES replaces the mask with the byte sent, READY's bit set, and returns it; queued notices stay; a notice
the new mask disables changes nothing; the default mask enables every kind except FRAME_DONE. -/
def Obligations.SetNoticesReplacesMask : Prop :=
  (∀ (s : State) (tag mask : Byte), s.canAccept → s.mode ≠ .booting →
    exec (.setNotices tag mask) s =
      .next (({ s with link := { s.link with mask := mask ||| 1 } }).answered 0x0A tag .ok [mask ||| 1])) ∧
  (∀ (s : State) (tag mask : Byte), s.canAccept → s.mode = .booting →
    exec (.setNotices tag mask) s = .next (s.answered 0x0A tag .wrongMode)) ∧
  (∀ mask : Byte, (mask ||| 1).getLsbD 0 = true ∧ ∀ k, 0 < k → (mask ||| 1).getLsbD k = mask.getLsbD k) ∧
  (∀ (l : Link) (n : Notice), l.mask.getLsbD n.bit = false → l.raise n = l) ∧
  (∀ n : Notice, Link.defaultMask.getLsbD n.bit = (match n with | .frameDone _ _ => false | _ => true))

/-- R181: how an enabled notice reaches the queue; `front` is the head frame while a read is shifting it out, which is
passed over, and empty otherwise. Table 32: the mask bit of each kind, and which two notices coalesce: those of one kind
with the same subject, which is the camera, the event, the ZOOM_LIMIT kind, the camera and selector, or the kind alone. -/
def Obligations.NoticeReachesQueue : Prop :=
  (∀ n : Notice, n.bit = match n with
    | .ready _ => 0 | .cameraState _ _ _ _ => 1 | .prepareNeeded _ => 2 | .handoff _ _ _ _ => 3 | .zoomLimit _ _ _ => 4
    | .underrun _ _ => 5 | .scriptDone _ _ _ _ _ => 6 | .frameDone _ _ => 7) ∧
  (∀ m n : Notice, m.same n = true ↔
    (∃ x y, m = .ready x ∧ n = .ready y) ∨
    (∃ c x y z x' y' z', m = .cameraState c x y z ∧ n = .cameraState c x' y' z') ∨
    (∃ c, m = .prepareNeeded c ∧ n = .prepareNeeded c) ∨
    (∃ e x y z x' y' z', m = .handoff e x y z ∧ n = .handoff e x' y' z') ∨
    (∃ k x y x' y', m = .zoomLimit k x y ∧ n = .zoomLimit k x' y') ∨
    (∃ x y x' y', m = .underrun x y ∧ n = .underrun x' y') ∨
    (∃ c sel x y z x' y' z', m = .scriptDone c sel x y z ∧ n = .scriptDone c sel x' y' z') ∨
    (∃ x y x' y', m = .frameDone x y ∧ n = .frameDone x' y')) ∧
  ∀ (l : Link) (n : Notice) (front back : List OutFrame), l.mask.getLsbD n.bit = true →
    l.outbound = front ++ back → front.length = (if l.reading.holdsHead then min 1 l.outbound.length else 0) →
    (noticeCount l.outbound < 15 →
      l.raise n = { l with outbound := l.outbound ++ [.notice n 1 l.loss], loss := false }) ∧
    (∀ pre m k lost post, 15 ≤ noticeCount l.outbound → back = pre ++ .notice m k lost :: post → m.same n = true →
      (∀ m' k' lost', .notice m' k' lost' ∈ pre → m'.same n = false) →
      l.raise n = { l with
        outbound := front ++ (pre ++ .notice n (min 255 (k + 1)) (lost || l.loss) :: post), loss := false }) ∧
    (∀ pre frame stamp k lost post, 15 ≤ noticeCount l.outbound →
      back = pre ++ .notice (.frameDone frame stamp) k lost :: post →
      (∀ m' k' lost', .notice m' k' lost' ∈ back → m'.same n = false) →
      (∀ frame' stamp' k' lost', .notice (.frameDone frame' stamp') k' lost' ∉ pre) →
      l.raise n = { l with outbound := front ++ (pre ++ post) ++ [.notice n 1 l.loss], loss := false }) ∧
    (15 ≤ noticeCount l.outbound →
      (∀ m' k' lost', .notice m' k' lost' ∈ back → m'.same n = false) →
      (∀ frame' stamp' k' lost', .notice (.frameDone frame' stamp') k' lost' ∉ back) →
      l.raise n = { l with loss := true })

/-- R186, R25, R26, R130, R131, R136, Tables 31 and 35 to 37: the four requests that report answer OK with every field at
its offset after the status, and change nothing but the link and, for GET_STATS with clear set, the six counters; what they
cannot report is refused with BAD_FIELD. GET_STATUS reports the claims with its own and without its reply (DEDUCED, entry
21). An absent four-byte field is open (entry 12); that an absent part still takes its bytes is the model's reading (entry
29). R26 has GET_STATS report the newest READY slot: that of slots with equal start timestamps the newest is the one with
the later sequence number is the model's reading too (DEDUCED, entry 18). A freed slot's fields are entry 11. The metadata
line of a frame carries the same 96 bytes of its record from column 0, 0 in every other luma column and 128 in its chroma.
-/
def Obligations.QueriesChangeNothingElse : Prop :=
  let flag := fun b : Bool => if b then 1 else 0
  let opt := fun (absent : Nat) (o : Option Nat) => o.getD absent
  let signed := fun (width : Nat) (x : Int) => (BitVec.ofInt width x).toNat
  let entryAt := fun (xs : List Byte) (k : Nat) (o : Option SourceEntry) => match o with
    | none => ∀ j, j < 32 → field8 xs (k + j) 0
    | some e => field8 xs k 1 ∧ field8 xs (k + 1) e.camera.idx ∧ field8 xs (k + 2) e.slot ∧ field32 xs (k + 3) e.seq.toNat
      ∧ field32 xs (k + 7) e.start.toNat ∧ field16 xs (k + 11) e.geometry.x0 ∧ field16 xs (k + 13) e.geometry.y0
      ∧ field16 xs (k + 15) e.geometry.wc ∧ field16 xs (k + 17) e.geometry.hc ∧ field32 xs (k + 19) e.geometry.sx
      ∧ field32 xs (k + 23) e.geometry.sy ∧ field16 xs (k + 27) e.corr.g ∧ field8 xs (k + 29) (signed 8 e.corr.oU)
      ∧ field8 xs (k + 30) (signed 8 e.corr.oV)
      ∧ field8 xs (k + 31)
        (flag e.stale + 2 * flag e.geometry.edgeX + 4 * flag e.geometry.edgeY + 8 * flag e.corr.approx)
  let engineCode := fun e : Engine => match e with
    | .stopped => 0 | .steady _ => 1 | .prepare _ _ _ _ => 2 | .blend _ _ _ _ _ => 3 | .frozen => 4 | .compare _ _ _ => 5
  let viewAt := fun (xs : List Byte) (k : Nat) (v : View) => match v with
    | .normal => field8 xs k 0 ∧ field8 xs (k + 1) 255 ∧ field8 xs (k + 2) 255 ∧ field16 xs (k + 3) 65535
    | .locked c => field8 xs k 1 ∧ field8 xs (k + 1) c.idx ∧ field8 xs (k + 2) 255 ∧ field16 xs (k + 3) 65535
    | .compare a b split => field8 xs k 2 ∧ field8 xs (k + 1) a.idx ∧ field8 xs (k + 2) b.idx ∧ field16 xs (k + 3) split
  let blendAt := fun (xs : List Byte) (k n d : Nat) (e : Engine) => match e with
    | .blend _ _ i m dir => field8 xs k i ∧ field8 xs n m ∧ field8 xs d (match dir with | .forward => 1 | .back => 2)
    | _ => field8 xs k 255 ∧ field8 xs n 255 ∧ field8 xs d 255
  let recordAt := fun (xs : List Byte) (o : Option Record) => xs.length = 96 ∧ match o with
    | none => ∀ j, j < 96 → field8 xs j 0
    | some r => field8 xs 0 1 ∧ field32 xs 1 r.frame.toNat ∧ field32 xs 5 r.timestamp.toNat ∧ field32 xs 9 r.target.toNat
      ∧ field16 xs 13 r.candidate ∧ field16 xs 15 r.applied ∧ field8 xs 17 (engineCode r.engine)
      ∧ field8 xs 18 (match r.engine with | .prepare _ i _ _ => i.idx | _ => 255) ∧ blendAt xs 20 21 19 r.engine
      ∧ field16 xs 22 r.weight ∧ viewAt xs 24 r.view
      ∧ field8 xs 29 (flag r.held + 2 * flag r.forced + 4 * flag r.frozen + 8 * flag r.approx)
      ∧ field16 xs 30 r.underruns ∧ entryAt xs 32 r.primary ∧ entryAt xs 64 r.secondary
  let handoffAt := fun (xs : List Byte) (k : Nat) (h : HandoffSettings) => field16 xs k h.up ∧ field8 xs (k + 2) h.down
    ∧ field8 xs (k + 3) h.blend ∧ field8 xs (k + 4) h.prepare ∧ field32 xs (k + 5) h.latency
  let entriesAt := fun (xs : List Byte) (k n : Nat) (es : List ArbEntry) =>
    (∀ j e, es[j]? = some e → field8 xs (k + j)
      ((match e.client with | .w c => c.idx | .rp => 4 | .rs => 5) + (match e.qualifier with | .any => 0 | .urgent => 16)))
    ∧ ∀ j, es.length ≤ j → j < n → field8 xs (k + j) 255
  let tableAt := fun (xs : List Byte) (k : Nat) (t : ArbTable) => field8 xs k t.wheel.length
    ∧ field8 xs (k + 1) t.priority.length ∧ field8 xs (k + 2) t.robin.length
    ∧ entriesAt xs (k + 3) 32 t.wheel ∧ entriesAt xs (k + 35) 6 t.priority ∧ entriesAt xs (k + 41) 6 t.robin
  let selCode := fun x : Selector => match x with | .start => 0 | .stop => 1
  let busAt := fun (xs : List Byte) (k : Nat) (b : BusState) =>
    (match b.engine with
      | none => field8 xs k 0 ∧ field8 xs (k + 1) 0
      | some e => field8 xs k 1 ∧ field8 xs (k + 1) (match e.owner with | .pass => 1 | .script => 2))
    ∧ field8 xs (k + 2) b.passQueue.length
    ∧ (match b.running with
      | none => ∀ j, j < 4 → field8 xs (k + 3 + j) 255
      | some r => field8 xs (k + 3) r.run.camera.idx ∧ field8 xs (k + 4) (selCode r.run.selector) ∧ field8 xs (k + 5) r.step
        ∧ field8 xs (k + 6) (match r.phase with | .ready => 0 | .onBus => 1 | .waiting _ => 2 | .retry _ => 3))
    ∧ field8 xs (k + 7) b.waiting.length
    ∧ (∀ j r, b.waiting[j]? = some r →
      field8 xs (k + 8 + 2 * j) r.camera.idx ∧ field8 xs (k + 9 + 2 * j) (selCode r.selector))
    ∧ ∀ j, 2 * b.waiting.length ≤ j → j < 8 → field8 xs (k + 8 + j) 255
  let meansAt := fun (xs : List Byte) (k : Nat) (o : Option Means) =>
    field8 xs k (opt 255 (o.map Means.y)) ∧ field8 xs (k + 1) (opt 255 (o.map Means.u)) ∧ field8 xs (k + 2) (opt 255 (o.map Means.v))
  (∀ (wo : Nat) (o : Option Record), 640 ≤ wo → ∃ luma : List Byte,
    metadataLine wo o = .metadata luma (List.replicate (wo / 2) 128) (List.replicate (wo / 2) 128) ∧ luma.length = wo
      ∧ recordAt (luma.take 96) o ∧ ∀ j, 96 ≤ j → j < wo → field8 luma j 0) ∧
  ∀ (s : State) (tag b clear : Byte), s.canAccept → s.mode ≠ .booting →
    let o := s.otg
    let status := fun fields : List Byte → Prop => ∃ xs : List Byte,
      exec (.getStatus tag b) s = .next (s.answered 0x16 tag .ok xs) ∧ field8 xs 0 b.toNat ∧ fields xs
    (b = 0 → status fun xs => xs.length = 63 ∧ field8 xs 1 (match s.mode with | .booting => 0 | .config => 1 | .run => 2)
      ∧ field8 xs 2 (flag o.stopPending.isSome) ∧ field8 xs 3 (engineCode s.zoom.engine)
      ∧ field8 xs 4 (opt 255 (s.zoom.engine.cams.head?.map Cam.idx)) ∧ field8 xs 5 (opt 255 (s.zoom.engine.cams[1]?.map Cam.idx))
      ∧ blendAt xs 6 7 8 s.zoom.engine ∧ viewAt xs 9 s.zoom.view ∧ handoffAt xs 14 s.zoom.settings
      ∧ (match s.zoom.pendingSettings with
        | some h => field8 xs 23 1 ∧ handoffAt xs 24 h
        | none => field8 xs 23 0 ∧ field16 xs 24 65535 ∧ field8 xs 26 255 ∧ field8 xs 27 255 ∧ field8 xs 28 255)
      ∧ field16 xs 33 s.zoom.distance ∧ field8 xs 35 (flag o.format.isSome) ∧ field16 xs 36 (opt 65535 (o.format.map OutFormat.wo))
      ∧ field16 xs 38 (opt 65535 (o.format.map OutFormat.ho)) ∧ (∀ f, o.format = some f → field32 xs 40 f.rate)
      ∧ field16 xs 44 (opt 65535 (o.blanking.map Blanking.hb)) ∧ field16 xs 46 (opt 65535 (o.blanking.map Blanking.vb))
      ∧ field8 xs 48 (flag o.shadow.isSome) ∧ field16 xs 49 (opt 65535 (o.shadow.map Blanking.hb))
      ∧ field16 xs 51 (opt 65535 (o.shadow.map Blanking.vb)) ∧ field8 xs 53 s.link.mask.toNat
      ∧ field8 xs 54 (s.link.claims + 1) ∧ field8 xs 55 s.link.outbound.length
      ∧ field8 xs 56 (s.link.outbound.filter OutFrame.isNotice).length ∧ field8 xs 57 (flag s.link.loss)
      ∧ field8 xs 58 (flag s.link.holder) ∧ field32 xs 59 s.timebase.toNat) ∧
    (b = 1 → status fun xs => field8 xs 1 s.zoom.queue.length ∧ field16 xs 2 s.zoom.rest
      ∧ ∀ (j : Nat) (g : Segment), s.zoom.queue[j]? = some g → let k := 4 + 10 * j
        field16 xs k g.target ∧ field16 xs (k + 2) g.frames ∧ field8 xs (k + 4) (match g.mode with | .append => 0 | .replace => 1)
          ∧ field8 xs (k + 5) (flag g.progress.isSome) ∧ field16 xs (k + 6) (opt 65535 (g.progress.map Progress.zs))
          ∧ field16 xs (k + 8) (opt 65535 (g.progress.map Progress.i))) ∧
    (b = 2 → s.arbiter.Law → status fun xs => xs.length = 98 ∧ tableAt xs 1 s.arbiter.table
      ∧ field8 xs 48 s.arbiter.wheelPtr ∧ field8 xs 49 s.arbiter.robinPtr
      ∧ (match s.arbiter.pendingTable with
        | some t => field8 xs 50 1 ∧ tableAt xs 51 t
        | none => field8 xs 50 0 ∧ ∀ j, j < 47 → field8 xs (51 + j) 255)) ∧
    (b = 3 → (∀ x, (s.bus x).waiting.length ≤ 4) →
      status fun xs => xs.length = 33 ∧ busAt xs 1 (s.bus .a) ∧ busAt xs 17 (s.bus .b)) ∧
    (3 < b.toNat → exec (.getStatus tag b) s = .next (s.answered 0x16 tag .badField)) ∧
    (∀ c, camOf b = some c →
      let p := s.port c
      (∃ xs : List Byte, exec (.getCamera tag b) s = .next (s.answered 0x17 tag .ok xs)
        ∧ xs.length = 42 + 19 * p.ring.length ∧ field8 xs 0 (flag p.format.isSome + 2 * flag p.cal.isSome)
        ∧ field16 xs 1 (opt 65535 (p.format.map Format.ws)) ∧ field16 xs 3 (opt 65535 (p.format.map Format.hs))
        ∧ field8 xs 5 (opt 255 (p.format.map Format.slots))
        ∧ (match p.cal with
          | some k => field16 xs 6 k.m ∧ field16 xs 8 k.zmax ∧ field16 xs 10 (signed 16 k.cx) ∧ field16 xs 12 (signed 16 k.cy)
            ∧ field16 xs 14 (signed 16 k.px) ∧ field16 xs 16 (signed 16 k.py) ∧ field32 xs 18 k.interval
            ∧ field32 xs 22 k.arrival ∧ field32 xs 26 k.first
            ∧ field8 xs 30 (flag k.autoStart + 2 * (match k.bus with | .a => 0 | .b => 1)) ∧ field8 xs 31 k.address
          | none => (∀ j, j < 6 → field16 xs (6 + 2 * j) 65535) ∧ field8 xs 30 255 ∧ field8 xs 31 255)
        ∧ field8 xs 32 (match p.state with
          | .off => 0 | .loading => 1 | .waiting => 2 | .streaming => 3 | .stalled => 4 | .faulted => 5 | .stopping => 6)
        ∧ field8 xs 33 (match p.startMode with | .live => 0 | .pattern => 1)
        ∧ field8 xs 34 (match p.faultReason with
          | .none => 0 | .request => 1 | .autoStart => 2 | .started => 3 | .script => 4 | .frame => 5 | .noFirstFrame => 6
          | .stall => 7 | .stalledOut => 8 | .stopped => 9)
        ∧ field32 xs 35 p.seq.toNat ∧ field8 xs 39 (s.monitor c).stallCount ∧ field8 xs 40 p.buffer.length
        ∧ field8 xs 41 p.ring.length
        ∧ ∀ (j : Nat) (x : Slot), p.ring[j]? = some x → let k := 42 + 19 * j
          field8 xs k (match x.state with | .free => 0 | .filling => 1 | .draining => 2 | .ready => 3)
            ∧ field8 xs (k + 1) (match x.pin with | .none => 0 | .primary => 1 | .secondary => 2)
            ∧ field8 xs (k + 2) (flag x.release) ∧ field32 xs (k + 3) x.seq.toNat ∧ field32 xs (k + 7) x.start.toNat
            ∧ field8 xs (k + 11) (flag x.stop.isSome) ∧ (∀ y, x.stop = some y → field32 xs (k + 12) y.toNat)
            ∧ field16 xs (k + 16) x.lines ∧ field8 xs (k + 18) (flag x.narrow + 2 * flag x.long)) ∧
      (∃ xs : List Byte, exec (.getStats tag b 0) s = .next (s.answered 0x18 tag .ok xs)
        ∧ (clear ≠ 0 → exec (.getStats tag b clear) s =
          .next ((s.setPort c { p with counters := ⟨0, 0, 0, 0, 0, 0⟩ }).answered 0x18 tag .ok xs))
        ∧ xs.length = 37 ∧ field32 xs 0 p.counters.complete ∧ field32 xs 4 p.counters.short ∧ field32 xs 8 p.counters.long
        ∧ field32 xs 12 p.counters.damaged ∧ field32 xs 16 p.counters.truncated ∧ field32 xs 20 p.counters.stalls
        ∧ ((∀ y ∈ p.ring, y.state ≠ .ready) → field8 xs 24 0 ∧ meansAt xs 29 none ∧ field8 xs 32 0 ∧ meansAt xs 33 none
          ∧ field8 xs 36 255)
        ∧ ∀ (j : Nat) (x : Slot), p.ring[j]? = some x → x.state = .ready →
          (∀ i y, i ≠ j → p.ring[i]? = some y → y.state = .ready →
            (x.start ≠ y.start ∧ notLater y.start x.start = true ∧ notLater x.start y.start = false) ∨
            (x.start = y.start ∧ notLater y.seq x.seq = true ∧ notLater x.seq y.seq = false)) →
          field8 xs 24 1 ∧ field32 xs 25 x.seq.toNat ∧ meansAt xs 29 x.full ∧ field8 xs 32 (flag x.region.isSome)
            ∧ meansAt xs 33 x.region ∧ field8 xs 36 (flag x.narrow + 2 * flag x.long))) ∧
    (3 < b.toNat →
      exec (.getCamera tag b) s = .next (s.answered 0x17 tag .badField) ∧
      exec (.getStats tag b clear) s = .next (s.answered 0x18 tag .badField)) ∧
    (∃ xs, exec (.getComposition tag 0) s = .next (s.answered 0x19 tag .ok xs) ∧ recordAt xs s.zoom.current) ∧
    (∃ xs, exec (.getComposition tag 1) s = .next (s.answered 0x19 tag .ok xs) ∧ recordAt xs s.zoom.previous) ∧
    (1 < b.toNat → exec (.getComposition tag b) s = .next (s.answered 0x19 tag .badField))

/-- R183, R133, R1, R137, R138, R42, R45, R76: a request in a mode that does not take it is answered with WRONG_MODE
and changes nothing else: every request but HELLO in BOOTING, the requests of CONFIG in RUN, and those of RUN in
CONFIG. R180, step 1: a request of an unknown kind is answered with BAD_KIND and the kind, in every mode; the reply's
kind is 0xFF. R180, steps 1 and 2, for the write transaction of a frame, whatever follows its check byte: an unknown kind with
any body, and a known kind with a body that has not the length of its kind (Table 31), which is answered with BAD_LENGTH; a
LOAD_SCRIPT has 3 + 8 n bytes with n its byte 2. That the length goes before the mode in BOOTING too is the model's reading
(DEDUCED, entry 33), and so is that the frame is handled in the step of its acceptance (entry 1). -/
def Obligations.KindOrModeRefused : Prop :=
  (∀ (i : Instr) (s : State) (kind tag : Byte) (body : List Byte), s.canAccept → i.wf = true →
    encodeRequest i = some (kind, tag, body) → isRequestKind kind = true →
    (s.mode = .booting → kind ≠ 0x01 → exec i s = .next (s.answered kind tag .wrongMode)) ∧
    (s.mode = .run → kind = 0x03 ∨ kind = 0x05 ∨ kind = 0x0E → exec i s = .next (s.answered kind tag .wrongMode)) ∧
    (s.mode = .config → kind = 0x0F ∨ kind = 0x10 ∨ kind = 0x11 ∨ kind = 0x13 →
      exec i s = .next (s.answered kind tag .wrongMode))) ∧
  (∀ (s : State) (tag kind : Byte), s.canAccept → (kind.toNat = 0 ∨ 0x19 < kind.toNat) →
    exec (.unknownKind tag kind) s = .next (s.answered kind tag .badKind [kind])
      ∧ (OutFrame.reply kind tag .badKind [kind]).bytes = frameBytes 0x3C 0xFF tag [0x03, kind]) ∧
  (∀ (s : State) (tag kind : Byte) (body rest : List Byte), s.canAccept → body.length ≤ 248 →
    let sent := exec (.writeTransaction 1 (frameBytes 0xC3 kind tag body ++ rest)) s
    let lengths : List Nat := [0, 0, 12, 4, 6, 27, 9, 47, 9, 1, 3, 2, 1, 2, 0, 5, 0, 2, 5, 6, 10, 1, 1, 2, 1]
    let fits := if kind = 0x0B then ∃ n, body[2]? = some n ∧ body.length = 3 + 8 * n.toNat
      else lengths[kind.toNat - 1]? = some body.length
    (kind.toNat = 0 ∨ 0x19 < kind.toNat → sent = .next (s.answered kind tag .badKind [kind])) ∧
    (1 ≤ kind.toNat → kind.toNat ≤ 0x19 → ¬ fits → sent = .next (s.answered kind tag .badLength)
      ∧ (OutFrame.reply kind tag .badLength []).bytes = frameBytes 0x3C (kind + 0x80) tag [0x04]))

/-! ### Camera Ports: the record (chapter 01, section 1.1) -/

/-- R1, R2: an accepted SET_CAMERA_FORMAT replaces the format part and allocates a ring of FREE slots without a pin,
every optional field absent; everything else stands, a calibration part and the frame sequence counter among it. That
the new slots' areas are numbered on from `freeSeed` is the model's (entry 10). R1, R2: the refusals of
SET_CAMERA_FORMAT in CONFIG, in the order of the checks; a refused request changes nothing but the link. -/
def Obligations.SetCameraFormatReplaces : Prop :=
  ((∀ n seed, (freshRing n seed).length = n ∧ ∀ x ∈ freshRing n seed, x.state = .free ∧ x.pin = .none ∧ x.release = false
    ∧ x.stop = none ∧ x.full = none ∧ x.region = none ∧ x.area = []) ∧
  ∀ (s : State) (tag camera : Byte) (c : Cam) (ws hs : Half) (slots : Byte), s.canAccept → s.mode = .config →
    camera.toNat = c.idx → slots = 3 ∨ slots = 4 → 64 ≤ ws.toNat ∧ ws.toNat ≤ 4096 ∧ ws.toNat % 2 = 0 →
    64 ≤ hs.toNat ∧ hs.toNat ≤ 3072 ∧ hs.toNat % 2 = 0 → (s.port c).state = .off →
    (Cam.all.map fun d => if d = c then slots.toNat * (ws.toNat * hs.toNat * 3 / 2) else
      match (s.port d).format with
      | some f => f.slots * (f.ws * f.hs * 3 / 2)
      | none => 0).sum ≤ 268435456 →
    exec (.setCameraFormat tag camera ws hs slots) s = .next
      (({ s.setPort c { s.port c with
            format := some ⟨ws.toNat, hs.toNat, slots.toNat⟩, ring := freshRing slots.toNat s.freeSeed } with
          freeSeed := s.freeSeed + slots.toNat }).answered 0x05 tag .ok)) ∧
  (∀ (s : State) (tag camera : Byte) (ws hs : Half) (slots : Byte), s.canAccept → s.mode = .config → slots ≠ 0 →
    let fields := (slots = 3 ∨ slots = 4) ∧ (64 ≤ ws.toNat ∧ ws.toNat ≤ 4096 ∧ ws.toNat % 2 = 0)
      ∧ (64 ≤ hs.toNat ∧ hs.toNat ≤ 3072 ∧ hs.toNat % 2 = 0)
    let refusedWith := fun status =>
      exec (.setCameraFormat tag camera ws hs slots) s = .next (s.answered 0x05 tag status)
    (3 < camera.toNat → refusedWith .badField) ∧
    (∀ c : Cam, camera.toNat = c.idx →
      (¬ fields → refusedWith .badField) ∧
      (fields → (s.port c).state ≠ .off → refusedWith .busy) ∧
      (fields → (s.port c).state = .off →
        268435456 < (Cam.all.map fun d => if d = c then slots.toNat * (ws.toNat * hs.toNat * 3 / 2) else
          match (s.port d).format with
          | some f => f.slots * (f.ws * f.hs * 3 / 2)
          | none => 0).sum → refusedWith .noSpace)))

/-- R3: REMOVE_CAMERA, and SET_CAMERA_FORMAT with slot count 0, make both parts of an OFF camera absent and take its ring;
counters and frame sequence counter stand. A camera without a format part is answered OK and changes nothing; one that is
not OFF is refused with BUSY. Ws and Hs are not looked at. -/
def Obligations.RemoveCameraEmptiesRecord : Prop :=
  ∀ (s : State) (tag camera : Byte) (ws hs : Half), s.canAccept → s.mode = .config →
    let both := fun t : State =>
      exec (.removeCamera tag camera ws hs) s = .next t ∧ exec (.setCameraFormat tag camera ws hs 0) s = .next t
    (3 < camera.toNat → both (s.answered 0x05 tag .badField)) ∧
    (∀ c : Cam, camera.toNat = c.idx →
      ((s.port c).state ≠ .off → both (s.answered 0x05 tag .busy)) ∧
      ((s.port c).state = .off → (s.port c).format ≠ none →
        both ((s.setPort c { s.port c with format := none, cal := none, ring := [] }).answered 0x05 tag .ok)) ∧
      ((s.port c).state = .off → (s.port c).format = none → both (s.answered 0x05 tag .ok)))

/-- R4, R5, R54, R74, R104: SET_CAMERA_CAL, its checks in order: the camera, its format part, the fields, in RUN a camera the
engine state names (in FROZEN, the repeated record) and an effective service maximum below M, then the order and the
coverage over the configured cameras with the new calibration in place, with the effective maxima in RUN and the configured
ones in CONFIG. Accepted, it replaces the whole calibration part and in RUN the camera's effective service maximum, while the
M the Zoom Controller uses for the camera, `mOf`, stays the one from before; every boundary, the one that ends the output
included, makes it the calibration part's (R4). Refused, it changes nothing but the link. That a camera calibrated for the
first time in RUN, which has no M from before, is served with its new M at once is DEDUCED (entry 39). -/
def Obligations.SetCameraCalReplaces : Prop :=
  ∀ (s : State) (tag camera : Byte) (b : CalBody), s.canAccept → s.mode ≠ .booting →
    let fields := 256 ≤ b.m.toNat ∧ b.m.toNat ≤ b.zmax.toNat ∧ b.zmax.toNat ≤ 40960
      ∧ (-4096 ≤ b.cx.toInt ∧ b.cx.toInt ≤ 4096) ∧ (-4096 ≤ b.cy.toInt ∧ b.cy.toInt ≤ 4096)
      ∧ (8000 ≤ b.interval.toNat ∧ b.interval.toNat ≤ 200000)
      ∧ (1000 ≤ b.arrival.toNat ∧ b.arrival.toNat ≤ 1000000)
      ∧ (10000 ≤ b.first.toNat ∧ b.first.toNat ≤ 4000000) ∧ b.address.toNat ≤ 0x7F
    let k : Cal := {
      m := b.m.toNat, zmax := b.zmax.toNat, cx := b.cx.toInt, cy := b.cy.toInt, px := b.px.toInt, py := b.py.toInt
      interval := b.interval.toNat, arrival := b.arrival.toNat, first := b.first.toNat
      autoStart := b.flags.getLsbD 0, bus := if b.flags.getLsbD 1 then .b else .a, address := b.address.toNat }
    let fits := fun (u : State) (zmax : Cam → Cal → Nat) => ∀ i j x y, u.configured i = true → u.configured j = true →
      i.idx < j.idx → (u.port i).cal = some x → (u.port j).cal = some y →
      x.m < y.m ∧ ((∀ d, i.idx < d.idx → d.idx < j.idx → u.configured d = false) → y.m ≤ zmax i x)
    let refusedWith := fun status => exec (.setCameraCal tag camera b) s = .next (s.answered 0x06 tag status)
    let taken := fun u : State => exec (.setCameraCal tag camera b) s = .next (u.answered 0x06 tag .ok)
    (3 < camera.toNat → refusedWith .badField) ∧
    (∀ c : Cam, camera.toNat = c.idx → ((s.port c).format = none → refusedWith .notConfigured) ∧
      (∀ f, (s.port c).format = some f → (¬ fields → refusedWith .badField) ∧ (fields →
        let v := s.setPort c { s.port c with cal := some k }
        let named := c ∈ s.zoom.engine.cams ∨ (s.zoom.engine = .frozen ∧ ∃ r e, s.zoom.current = some r
          ∧ (r.primary = some e ∨ r.secondary = some e) ∧ e.camera = c)
        (s.mode = .config → (fits v (fun _ x => x.zmax) → taken v) ∧ (¬ fits v (fun _ x => x.zmax) → refusedWith .badField)) ∧
        (s.mode = .run → named → refusedWith .busy) ∧
        (∀ o, s.mode = .run → ¬ named → s.otg.format = some o →
          let z := min k.zmax (k.m * f.ws * 8 / o.wo)
          let prior := match (s.port c).cal with
            | some x => s.zoom.priorM.set c (some ((s.zoom.priorM.get c).getD x.m))
            | none => s.zoom.priorM
          let u := { v with zoom := { v.zoom with zmax := v.zoom.zmax.set c (some z), priorM := prior } }
          (z < k.m → refusedWith .badField) ∧
          ((s.port c).cal ≠ none → u.mOf c = s.mOf c) ∧
          ((s.port c).cal = none → s.zoom.priorM.get c = none → u.mOf c = k.m) ∧
          (∀ phase id d x, (u.port d).cal = some x →
            ((u.answered 0x06 tag .ok).beginFrame phase).mOf d = x.m ∧ ((u.answered 0x06 tag .ok).endOutput id).mOf d = x.m) ∧
          (k.m ≤ z → fits u (fun i _ => u.zmaxOf i) → taken u) ∧
          (k.m ≤ z → ¬ fits u (fun i _ => u.zmaxOf i) → refusedWith .badField)))))

/-! ### Camera Ports: start and stop (chapter 01, sections 1.3 and 1.4; chapter 02) -/

/-- R7, R29, R168, R170 to R172: an accepted START_CAMERA LIVE. With an empty START script the camera enters WAITING at once
and its countdown is armed; with steps it enters LOADING and the run joins the waiting-script list of a bus whose runner is
taken, or starts: a WAIT waits, a WRITE and a POLL take an idle engine with their transaction or are READY behind a busy one.
That the reply is queued before the CAMERA_STATE notice is the model's reading (DEDUCED, entry 16). -/
def Obligations.StartCameraLive : Prop :=
  ∀ (s : State) (tag camera : Byte) (c : Cam) (k : Cal), s.canAccept → s.mode ≠ .booting → camera.toNat = c.idx →
    (s.port c).format ≠ none → (s.port c).cal = some k → (s.port c).state = .off →
    let steps := (s.relay.scripts.get c).start
    let bus := s.bus k.bus
    let started := fun state countdown =>
      (((s.setPort c { s.port c with state := state, startMode := .live, faultReason := .none }).setMonitor c
        { s.monitor c with countdown := countdown, stallCount := 0 }).answered 0x0C tag .ok).raise
          (.cameraState c .off state .request)
    let loads := fun b : BusState => exec (.startCamera tag camera 0) s = .next
      ((started .loading (s.monitor c).countdown).setBus k.bus b)
    (steps = [] → exec (.startCamera tag camera 0) s = .next (started .waiting (some k.first))) ∧
    (∀ r, steps ≠ [] → bus.running = some r → loads { bus with waiting := bus.waiting ++ [⟨c, .start, k.address⟩] }) ∧
    (∀ st rest, steps = st :: rest → bus.running = none →
      let began := fun (phase : Phase) (engine : Option Busy) => loads { bus with
        running := some ⟨⟨c, .start, k.address⟩, 0, phase, s.timebase, false⟩, engine := engine }
      (bus.engine ≠ none → began (match st with | .wait d => .waiting d | _ => .ready) bus.engine) ∧
      (bus.engine = none → match st with
        | .write g data => began .onBus (some ⟨.script, ⟨k.address, g, .write data⟩⟩)
        | .poll g _ _ _ => began .onBus (some ⟨.script, ⟨k.address, g, .read 1⟩⟩)
        | .wait d => began (.waiting d) (bus.passQueue.head?.map fun p => ⟨.pass, p.transaction⟩)))

/-- R7: the refusals of START_CAMERA in both modes, in the order of the checks. R7, R12: the refusals of STOP_CAMERA
in the order of the checks. -/
def Obligations.StartStopCameraRefused : Prop :=
  (∀ (s : State) (tag camera mode : Byte), s.canAccept → s.mode ≠ .booting →
    let refusedWith := fun status =>
      exec (.startCamera tag camera mode) s = .next (s.answered 0x0C tag status)
    (3 < camera.toNat ∨ 1 < mode.toNat → refusedWith .badField) ∧
    (∀ c : Cam, camera.toNat = c.idx → mode.toNat ≤ 1 →
      (s.configured c = false → refusedWith .notConfigured) ∧
      (s.configured c = true → (s.port c).state ≠ .off → refusedWith .busy)) ∧
    exec (.startCamera tag camera 1) s = exec (.startCameraPattern tag camera) s) ∧
  (∀ (s : State) (tag camera : Byte), s.canAccept → s.mode ≠ .booting →
    let refusedWith := fun status => exec (.stopCamera tag camera) s = .next (s.answered 0x0D tag status)
    (3 < camera.toNat → refusedWith .badField) ∧
    (∀ c : Cam, camera.toNat = c.idx →
      (s.configured c = false → refusedWith .notConfigured) ∧
      (s.configured c = true → (s.port c).state = .off ∨ (s.port c).state = .stopping → refusedWith .busy)))

/-- R12, R13, R35, R168, R170: an accepted STOP_CAMERA outside LOADING withdraws the waiting lines, frees every slot without a
pin and marks a pinned one, discards the sums, stops generator and countdown, keeps stall count and counters, and passes to
OFF when no STOP script is to run, or to STOPPING with the run in the waiting-script list or, on a free runner, started. What
a freed slot keeps is the model's choice (entry 11), the reply before the notice its reading (entry 16). -/
def Obligations.StopCameraClearsWork : Prop :=
  ∀ (s : State) (tag camera : Byte) (c : Cam) (k : Cal), s.canAccept → s.mode ≠ .booting → camera.toNat = c.idx →
    (s.port c).format ≠ none → (s.port c).cal = some k →
    (s.port c).state = .waiting ∨ (s.port c).state = .streaming ∨ (s.port c).state = .stalled
      ∨ (s.port c).state = .faulted →
    let p := s.port c
    let steps := (s.relay.scripts.get c).stop
    let bus := s.bus k.bus
    let ring := p.ring.map fun x => if x.pin = .none then
        { x with state := .free, release := false, outstanding := 0, full := none, region := none }
      else { x with release := true }
    let stopped := fun state =>
      (((s.setPort c { p with
            state := state, buffer := if p.inFlight then p.buffer.take 1 else [], ring := ring, sums := .zero
            region := none, pattern := none }).setMonitor c { s.monitor c with countdown := none }).answered
        0x0D tag .ok).raise (.cameraState c p.state state .request)
    let stopping := fun b : BusState => exec (.stopCamera tag camera) s = .next ((stopped .stopping).setBus k.bus b)
    (p.startMode = .pattern ∨ steps = [] → exec (.stopCamera tag camera) s = .next (stopped .off)) ∧
    (∀ r, p.startMode = .live → steps ≠ [] → bus.running = some r →
      stopping { bus with waiting := bus.waiting ++ [⟨c, .stop, k.address⟩] }) ∧
    (∀ st rest, p.startMode = .live → steps = st :: rest → bus.running = none →
      let began := fun (phase : Phase) (engine : Option Busy) => stopping { bus with
        running := some ⟨⟨c, .stop, k.address⟩, 0, phase, s.timebase, false⟩, engine := engine }
      (bus.engine ≠ none → began (match st with | .wait d => .waiting d | _ => .ready) bus.engine) ∧
      (bus.engine = none → match st with
        | .write g data => began .onBus (some ⟨.script, ⟨k.address, g, .write data⟩⟩)
        | .poll g _ _ _ => began .onBus (some ⟨.script, ⟨k.address, g, .read 1⟩⟩)
        | .wait d => began (.waiting d) (bus.passQueue.head?.map fun p => ⟨.pass, p.transaction⟩)))

/-- R12 (step 1), R13, R168, R170, R173, R174: STOP_CAMERA of a LOADING camera aborts its START run: a waiting run is
withdrawn, a running one that is not on the bus ends at once, both with SCRIPT_DONE ABORTED, and one on the bus is marked and
completes its transaction; where no START run is found nothing is aborted. A script's end hands the runner to the next waiting
run and the bus by rule. The port's work is then cleared and the camera passes to OFF, or to STOPPING with its STOP run placed
as any other run: behind those that hold its runner, a marked START run among them, or started on a free one. On the other
bus no START run of the camera stands but one that was marked before. What a freed slot keeps is the model's choice (entry
11), the reply before the notices its reading (entry 16). -/
def Obligations.StopCameraAbortsStart : Prop :=
  ∀ (s : State) (tag camera : Byte) (c : Cam) (k : Cal) (x : Bus), s.canAccept → s.mode ≠ .booting →
    camera.toNat = c.idx → (s.port c).format ≠ none → (s.port c).cal = some k → (s.port c).state = .loading →
    let p := s.port c
    let steps := (s.relay.scripts.get c).stop
    let isStart := fun r : Run => r.camera = c ∧ r.selector = .start
    let quiet := fun b : BusState => (∀ q ∈ b.waiting, ¬ isStart q) ∧
      (∀ r, b.running = some r → isStart r.run → r.abort = true ∧ r.phase = .onBus)
    let first := fun w : Run => match w.selector with
      | .start => (s.relay.scripts.get w.camera).start.head?
      | .stop => (s.relay.scripts.get w.camera).stop.head?
    let pass := fun b : BusState => b.passQueue.head?.map fun q => (⟨.pass, q.transaction⟩ : Busy)
    let begins := fun (b : BusState) (w : Run) =>
      let started := fun (phase : Phase) (engine : Option Busy) =>
        { b with running := some ⟨w, 0, phase, s.timebase, false⟩, engine := engine }
      match first w, b.engine with
      | some (.wait d), some e => started (.waiting d) (some e)
      | some (.wait d), none => started (.waiting d) (pass b)
      | some (.write g data), none => started .onBus (some ⟨.script, ⟨w.address, g, .write data⟩⟩)
      | some (.poll g _ _ _), none => started .onBus (some ⟨.script, ⟨w.address, g, .read 1⟩⟩)
      | none, none => started .ready (pass b)
      | _, some e => started .ready (some e)
    let ended := fun b : BusState => match b.waiting with
      | w :: rest => begins { b with waiting := rest } w
      | [] => { b with running := none, engine := if b.engine = none then pass b else b.engine }
    let placed := fun b : BusState => match b.running with
      | some _ => { b with waiting := b.waiting ++ [⟨c, .stop, k.address⟩] }
      | none => begins b ⟨c, .stop, k.address⟩
    let stopped := fun (state : CamState) (notice : Option Notice) =>
      ((((s.answered 0x0D tag .ok).raiseAll notice.toList).setPort c { p with
          state := state, buffer := if p.inFlight then p.buffer.take 1 else []
          ring := p.ring.map fun y => if y.pin = .none then
              { y with state := .free, release := false, outstanding := 0, full := none, region := none }
            else { y with release := true }
          sums := .zero, region := none, pattern := none }).setMonitor c
        { s.monitor c with countdown := none }).raise (.cameraState c .loading state .request)
    let leaves := fun (notice : Option Notice) (b : BusState) =>
      (p.startMode = .pattern ∨ steps = [] →
        exec (.stopCamera tag camera) s = .next ((stopped .off notice).setBus x b)) ∧
      (p.startMode = .live → steps ≠ [] →
        exec (.stopCamera tag camera) s = .next
          (((stopped .stopping notice).setBus x b).setBus k.bus (placed ((s.setBus x b).bus k.bus))))
    (∀ y, y ≠ x → quiet (s.bus y)) →
    (quiet (s.bus x) → leaves none (s.bus x)) ∧
    (∀ pre run post, (s.bus x).waiting = pre ++ run :: post → isStart run → (∀ q ∈ pre, ¬ isStart q) →
      leaves (some (.scriptDone c .start .aborted 0 .none)) { s.bus x with waiting := pre ++ post }) ∧
    (∀ r, (s.bus x).running = some r → isStart r.run → (∀ q ∈ (s.bus x).waiting, ¬ isStart q) →
      (r.phase = .onBus → leaves none { s.bus x with running := some { r with abort := true } }) ∧
      (r.phase ≠ .onBus → leaves (some (.scriptDone c .start .aborted r.step .none)) (ended (s.bus x))))

/-! ### Camera Ports: frames (chapter 01, sections 1.5 and 1.6; chapter 02) -/

/-- R15, R16, R19, R30: a taken frame start. A FILLING slot is truncated: freed, counted, its waiting lines withdrawn, but for
one whose write is in flight. The counter rises, the sums are cleared, the rectangle is latched, the countdown is re-armed,
and the FREE slot of lowest number, or with none the oldest READY slot without a pin, is filled. R9, R15, R17, R20, Table 7:
packets of the camera module are ignored outside WAITING, STREAMING and STALLED and in PATTERN mode; a line packet and a
frame end are ignored while no slot is FILLING. What a freed slot keeps is the model's choice (entry 11), and how READY
slots compare in age its reading (entry 18). -/
def Obligations.FrameStartFillsSlot : Prop :=
  (∀ (s : State) (c : Cam) (cal : Cal), (s.port c).startMode = .live → (s.port c).state.takes = true →
    (s.port c).cal = some cal →
    let p := s.port c
    let filled := fun x : Slot => { x with
      state := .filling, pin := .none, release := false, seq := p.seq + 1, start := s.timebase, stop := none, lines := 0
      dropped := false, outstanding := 0, narrow := false, long := false, full := none, region := none }
    let freed := fun x : Slot => { x with
      state := .free, pin := .none, release := false, outstanding := 0, full := none, region := none }
    let started := fun (ring : List Slot) (buffer : List BufferedLine) (counters : Counters) =>
      (s.setPort c { p with
        seq := p.seq + 1, sums := .zero, region := s.regionNow c, ring := ring, buffer := buffer
        counters := counters }).setMonitor c { s.monitor c with countdown := some cal.arrival }
    (∀ k x, (∀ y ∈ p.ring, y.state ≠ .filling) → p.ring[k]? = some x → x.state = .free →
      (∀ j y, j < k → p.ring[j]? = some y → y.state ≠ .free) →
      exec (.frameStart c) s = .next (started (p.ring.set k (filled x)) p.buffer p.counters)) ∧
    (∀ k x, (∀ y ∈ p.ring, y.state ≠ .filling ∧ y.state ≠ .free) → p.ring[k]? = some x → x.state = .ready →
      x.pin = .none →
      (∀ j y, j ≠ k → p.ring[j]? = some y → y.state = .ready → y.pin = .none →
        (x.start ≠ y.start ∧ notLater x.start y.start = true ∧ notLater y.start x.start = false) ∨
        (x.start = y.start ∧ notLater x.seq y.seq = true ∧ notLater y.seq x.seq = false)) →
      exec (.frameStart c) s = .next (started (p.ring.set k (filled x)) p.buffer p.counters)) ∧
    (∀ j y, p.ring[j]? = some y → y.state = .filling → (∀ i z, i < j → p.ring[i]? = some z → z.state ≠ .filling) →
      let keep := fun l : BufferedLine => !(l.slot == j && l.seq == y.seq)
      let truncated := fun ring : List Slot => exec (.frameStart c) s = .next (started ring
        (if p.inFlight then p.buffer.take 1 ++ (p.buffer.drop 1).filter keep else p.buffer.filter keep)
        { p.counters with truncated := min 4294967295 (p.counters.truncated + 1) })
      ((∀ i z, i < j → p.ring[i]? = some z → z.state ≠ .free) → truncated (p.ring.set j (filled y))) ∧
      (∀ k x, k < j → p.ring[k]? = some x → x.state = .free →
        (∀ i z, i < k → p.ring[i]? = some z → z.state ≠ .free) →
        truncated ((p.ring.set j (freed y)).set k (filled x))))) ∧
  (∀ (s : State) (c : Cam) (luma u v : List Byte),
    ((s.port c).startMode = .pattern ∨ (s.port c).state.takes = false →
      exec (.frameStart c) s = .next s ∧ exec (.linePacket c luma u v) s = .next s ∧ exec (.frameEnd c) s = .next s) ∧
    ((∀ x ∈ (s.port c).ring, x.state ≠ .filling) →
      exec (.linePacket c luma u v) s = .next s ∧ exec (.frameEnd c) s = .next s))

/-- R17, R18: a line packet while slot `k` is FILLING: an excess line sets LONG; any other becomes the next row, is
summed, and joins the line buffer, or is dropped when four lines are held. R17: a row is brought to its width by
repeating the last sample or cutting; luma without samples is 16 and missing chroma 128; an odd row carries no chroma.
-/
def Obligations.LinePacketOffersRow : Prop :=
  (∀ (s : State) (c : Cam) (luma u v : List Byte) (f : Format) (k : Nat) (x : Slot),
    (s.port c).startMode = .live → (s.port c).state.takes = true → (s.port c).format = some f →
    (s.port c).ring[k]? = some x → x.state = .filling →
    (∀ j y, j < k → (s.port c).ring[j]? = some y → y.state ≠ .filling) →
    let p := s.port c
    let d := normaliseRow f.ws x.lines luma u v
    let narrow := x.narrow || decide (luma.length ≠ f.ws)
      || decide (x.lines % 2 = 0 ∧ (u.length ≠ f.ws / 2 ∨ v.length ≠ f.ws / 2))
    (f.hs ≤ x.lines →
      exec (.linePacket c luma u v) s = .next (s.setPort c { p with ring := p.ring.set k { x with long := true } })) ∧
    (x.lines < f.hs → p.buffer.length < 4 →
      exec (.linePacket c luma u v) s = .next (s.setPort c { p with
        ring := p.ring.set k { x with lines := x.lines + 1, narrow := narrow, outstanding := x.outstanding + 1 }
        sums := p.sums.add p.region x.lines d
        buffer := p.buffer ++ [⟨k, x.lines, x.seq, x.seed, d⟩] })) ∧
    (x.lines < f.hs → 4 ≤ p.buffer.length →
      exec (.linePacket c luma u v) s = .next (s.setPort c { p with
        ring := p.ring.set k { x with lines := x.lines + 1, narrow := narrow, dropped := true }
        sums := p.sums.add p.region x.lines d }))) ∧
  (∀ (ws r : Nat) (luma u v : List Byte),
    let d := normaliseRow ws r luma u v
    let fits := fun (n : Nat) (fill : Byte) (xs ys : List Byte) => ys.length = n ∧ ∀ j, j < n →
      ys[j]? = some (if h : j < xs.length then xs[j] else if h : xs ≠ [] then xs.getLast h else fill)
    fits ws 16 luma d.luma ∧
    (r % 2 = 0 → fits (ws / 2) 128 u d.u ∧ fits (ws / 2) 128 v d.v) ∧
    (r % 2 = 1 → d.u = [] ∧ d.v = []))

/-- R20, R21, R23, R34, R19, R37, R107: a frame end while slot `k` is FILLING: damaged or short, freed with its sums discarded
and its lines withdrawn but for one whose write is in flight; DRAINING with writes outstanding; or READY with the means of the
sums, the counters and the change to STREAMING. The region rectangle is then held no longer (R107). A READY at the instant of
the expiry that stalled a STREAMING camera leaves it STALLED (R37; DEDUCED, entry 38). What a freed slot keeps is the model's
choice (entry 11). -/
def Obligations.FrameEndJudgesFrame : Prop :=
  ∀ (s : State) (c : Cam) (f : Format) (k : Nat) (x : Slot),
    (s.port c).startMode = .live → (s.port c).state.takes = true → (s.port c).format = some f →
    (s.port c).ring[k]? = some x → x.state = .filling →
    (∀ j y, j < k → (s.port c).ring[j]? = some y → y.state ≠ .filling) →
    let p := s.port c
    let freed := { x with
      state := .free, pin := .none, release := false, stop := some s.timebase, outstanding := 0, full := none
      region := none }
    let keep := fun l : BufferedLine => !(l.slot == k && l.seq == x.seq)
    let discarded := fun counters : Counters => { p with
      ring := p.ring.set k freed
      buffer := if p.inFlight then p.buffer.take 1 ++ (p.buffer.drop 1).filter keep else p.buffer.filter keep
      counters := counters, sums := ⟨⟨⟨0, 0⟩, ⟨0, 0⟩, ⟨0, 0⟩⟩, ⟨⟨0, 0⟩, ⟨0, 0⟩, ⟨0, 0⟩⟩⟩, region := none }
    let ended := fun state : SlotState => { x with
      state := state, stop := some s.timebase, full := some p.sums.full.means
      region := p.region.map fun _ => p.sums.region.means }
    let counted := { p.counters with
      complete := min 4294967295 (p.counters.complete + 1)
      long := if x.long then min 4294967295 (p.counters.long + 1) else p.counters.long }
    (x.dropped = true → exec (.frameEnd c) s = .next
      (s.setPort c (discarded { p.counters with damaged := min 4294967295 (p.counters.damaged + 1) }))) ∧
    (x.dropped = false → x.lines < f.hs → exec (.frameEnd c) s = .next
      (s.setPort c (discarded { p.counters with short := min 4294967295 (p.counters.short + 1) }))) ∧
    (x.dropped = false → f.hs ≤ x.lines → 0 < x.outstanding →
      exec (.frameEnd c) s = .next (s.setPort c { p with ring := p.ring.set k (ended .draining), region := none })) ∧
    (x.dropped = false → f.hs ≤ x.lines → x.outstanding = 0 →
      let q := { p with ring := p.ring.set k (ended .ready), counters := counted, region := none }
      (p.state = .streaming ∨ (p.state = .stalled ∧ (s.monitor c).stalledNow = true) →
        exec (.frameEnd c) s = .next (s.setPort c q)) ∧
      (p.state = .waiting → exec (.frameEnd c) s = .next
        ((s.setPort c { q with state := .streaming }).raise (.cameraState c .waiting .streaming .frame))) ∧
      (p.state = .stalled → (s.monitor c).stalledNow = false → exec (.frameEnd c) s = .next
        (((s.setPort c { q with state := .streaming }).setMonitor c { s.monitor c with stallCount := 0 }).raise
          (.cameraState c .stalled .streaming .frame))))

/-- R9, R15, R30: an accepted START_CAMERA PATTERN: WAITING, no script, and the generator's first frame start at once,
which re-arms the countdown with the arrival timeout. R9, R10: the running generator's packets: a frame start with the
interval of the calibration now, the rows with six bars and the sequence number in the first samples of row 0, and the
frame end after the last row, each at the instant R9 gives it, as the microseconds counted since the frame start have it, and
handled as a packet of a camera module is. A packet that is not the next one or whose instant has not come leaves the state
as it is, which is the model's choice (entry 4); the count is its own (entry 35), and that the reply is queued before the
notice is its reading (entry 16). -/
def Obligations.PatternGeneratorOffers : Prop :=
  (∀ (s : State) (tag camera : Byte) (c : Cam) (k : Cal), s.canAccept → s.mode ≠ .booting → camera.toNat = c.idx →
    (s.port c).format ≠ none → (s.port c).cal = some k → (s.port c).state = .off →
    let p := { s.port c with
      state := .waiting, startMode := .pattern, faultReason := .none, pattern := some ⟨k.interval, 0, 0⟩ }
    exec (.startCameraPattern tag camera) s = .next
      ((((s.setPort c (p.beginFrame s.timebase (s.regionNow c))).setMonitor c
        { s.monitor c with countdown := some k.arrival, stallCount := 0 }).answered 0x0C tag .ok).raise
          (.cameraState c .off .waiting .request))) ∧
  (∀ (s : State) (c : Cam) (f : Format) (g : PatternGen) (k : Cal), (s.port c).pattern = some g →
    (s.port c).format = some f → (s.port c).cal = some k →
    let goesTo := fun row => s.setPort c { s.port c with pattern := some { g with nextRow := row } }
    (f.hs < g.nextRow → g.interval ≤ g.elapsed → exec (.patternFrameStart c) s = .next
      ((s.setPort c { s.port c with pattern := some ⟨k.interval, 0, 0⟩ }).frameStart c)) ∧
    (g.nextRow ≤ f.hs ∨ g.elapsed < g.interval → exec (.patternFrameStart c) s = .next s) ∧
    (g.nextRow < f.hs → 3 * g.interval * g.nextRow / (4 * f.hs) ≤ g.elapsed → ∃ luma u : List Byte, luma.length = f.ws
      ∧ (∀ j, j < f.ws → luma[j]? = some
        (if g.nextRow = 0 ∧ j < 8 then (s.port c).seq.setWidth 8 else
          match 6 * j / f.ws with | 0 => 16 | 1 => 64 | 2 => 112 | 3 => 160 | 4 => 208 | _ => 235))
      ∧ u = (if g.nextRow % 2 = 0 then List.replicate (f.ws / 2) 128 else [])
      ∧ exec (.patternRow c) s = .next ((goesTo (g.nextRow + 1)).linePacket c luma u u)) ∧
    (f.hs ≤ g.nextRow ∨ g.elapsed < 3 * g.interval * g.nextRow / (4 * f.hs) → exec (.patternRow c) s = .next s) ∧
    (g.nextRow = f.hs → 3 * g.interval / 4 ≤ g.elapsed →
      exec (.patternFrameEnd c) s = .next ((goesTo (g.nextRow + 1)).frameEnd c)) ∧
    (g.nextRow ≠ f.hs ∨ g.elapsed < 3 * g.interval / 4 → exec (.patternFrameEnd c) s = .next s)) ∧
  (∀ (s : State) (c : Cam) (luma u v : List Byte),
    ((s.port c).pattern = none → exec (.patternFrameStart c) s = .next s ∧ exec (.patternRow c) s = .next s
      ∧ exec (.patternFrameEnd c) s = .next s) ∧
    ((s.port c).startMode = .live → exec (.frameStart c) s = .next (s.frameStart c)
      ∧ exec (.linePacket c luma u v) s = .next (s.linePacket c luma u v) ∧ exec (.frameEnd c) s = .next (s.frameEnd c)))

/-- R28, R31, R32, R33, R36, R14, Table 12: an expiry of a countdown at remaining time 0, by the camera's state as it stands;
a countdown that is stopped, or has been re-armed, does not expire. What a slot freed at the entry to FAULTED keeps is the
model's choice (entry 11), and the mark of the instant of a stall its own (entry 38). -/
def Obligations.ExpiryByState : Prop :=
  (∀ (s : State) (c : Cam), (s.monitor c).countdown ≠ some 0 → exec (.expiry c) s = .next s) ∧
  (∀ (s : State) (c : Cam) (k : Cal), (s.monitor c).countdown = some 0 → (s.port c).cal = some k →
    let p := s.port c
    let m := s.monitor c
    let faulted := fun reason => { p with
      state := .faulted, faultReason := reason, buffer := if p.inFlight then p.buffer.take 1 else []
      ring := p.ring.map fun x => if x.state = .filling ∨ x.state = .draining then { x with
        state := .free, pin := .none, release := false, outstanding := 0, full := none, region := none } else x
      counters := { p.counters with
        truncated := if p.ring.any (·.state == .filling) then min 4294967295 (p.counters.truncated + 1)
          else p.counters.truncated
        damaged := if p.ring.any (·.state == .draining) then min 4294967295 (p.counters.damaged + 1)
          else p.counters.damaged }
      sums := .zero, region := none, pattern := none }
    (p.state = .waiting → exec (.expiry c) s = .next
      (((s.setPort c (faulted .noFirstFrame)).setMonitor c { m with countdown := none }).raise
        (.cameraState c .waiting .faulted .noFirstFrame))) ∧
    (p.state = .streaming → exec (.expiry c) s = .next
      (((s.setPort c { p with
        state := .stalled, counters := { p.counters with stalls := min 4294967295 (p.counters.stalls + 1) } }).setMonitor
          c ⟨some k.arrival, 1, true⟩).raise (.cameraState c .streaming .stalled .stall))) ∧
    (p.state = .stalled → m.stallCount ≤ 1 →
      exec (.expiry c) s = .next (s.setMonitor c { m with countdown := some k.arrival, stallCount := m.stallCount + 1 })) ∧
    (p.state = .stalled → 2 ≤ m.stallCount → exec (.expiry c) s = .next
      (((s.setPort c (faulted .stalledOut)).setMonitor c { m with countdown := none, stallCount := m.stallCount + 1 }).raise
        (.cameraState c .stalled .faulted .stalledOut))))

/-- R19, R21, R34, R37, R150: the completion of a write puts the row into its slot's area, takes the line out of the buffer
and counts toward the slot of its tag: the last write of a DRAINING slot makes it READY, which brings a WAITING and a STALLED
camera to STREAMING, but not at the instant of its stall (DEDUCED, entry 38); a completion for another frame is
disregarded. A sample of the slot then reads as the row stored, at every place of that row, and as before at every other row;
row c of a chroma plane is the one carried with luma row 2 c (R17, R96). That a slot's area is a list of rows is the model's
(entry 10). -/
def Obligations.WriteCompletionCounts : Prop :=
  (∀ (x : Slot) (r : Nat) (d : RowData) (p : Plane) (row column : Nat),
    let y := { x with area := storeRow r d x.area }
    let carried := match p with | .y => row | .u => 2 * row | .v => 2 * row
    let stored := match p with | .y => d.luma | .u => d.u | .v => d.v
    (∀ b, carried = r → stored[column]? = some b → y.sample p row column = b) ∧
    (carried ≠ r → y.sample p row column = x.sample p row column)) ∧
  ∀ (s : State) (c : Cam) (l : BufferedLine) (rest : List BufferedLine) (x : Slot),
    s.arbiter.channel = .busy (.write c) → (s.port c).buffer = l :: rest → (s.port c).ring[l.slot]? = some x →
    x.seed = l.seed →
    let p := s.port c
    let area := storeRow l.row l.data x.area
    let done := fun (y : Slot) (counters : Counters) (state : CamState) =>
      ({ s with arbiter := { s.arbiter with channel := .free } }).setPort c { p with
        buffer := rest, inFlight := false, ring := p.ring.set l.slot y, counters := counters, state := state }
    let last := done { x with area := area, outstanding := 0, state := .ready }
      { p.counters with
        complete := min 4294967295 (p.counters.complete + 1)
        long := if x.long then min 4294967295 (p.counters.long + 1) else p.counters.long }
    (x.seq ≠ l.seq ∨ x.state = .free ∨ x.state = .ready →
      exec .transferCompletion s = .next (done { x with area := area } p.counters p.state)) ∧
    (x.seq = l.seq → x.state = .filling ∨ (x.state = .draining ∧ 2 ≤ x.outstanding) →
      exec .transferCompletion s = .next
        (done { x with area := area, outstanding := x.outstanding - 1 } p.counters p.state)) ∧
    (x.seq = l.seq → x.state = .draining → x.outstanding = 1 →
      (p.state = .streaming ∨ (p.state = .stalled ∧ (s.monitor c).stalledNow = true) →
        exec .transferCompletion s = .next (last p.state)) ∧
      (p.state = .waiting → exec .transferCompletion s = .next
        ((last .streaming).raise (.cameraState c .waiting .streaming .frame))) ∧
      (p.state = .stalled → (s.monitor c).stalledNow = false → exec .transferCompletion s = .next
        (((last .streaming).setMonitor c { s.monitor c with stallCount := 0 }).raise
          (.cameraState c .stalled .streaming .frame))))

/-! ### Frame Store Arbiter (chapter 09) -/

/-- R18, R142, R151, R152: what a client presents: a port the write of its oldest line, not while that write is in flight,
urgent with two lines held; the composer's client the waiting read of its window's first such line, urgent from the line
start of the line before, line 0 from the frame start. -/
def Obligations.PresentedRequests : Prop :=
  (∀ (s : State) (c : Cam), s.presented (.w c) =
    if (s.port c).state.takes = true ∧ (s.port c).buffer ≠ [] ∧ (s.port c).inFlight = false then
      some ⟨decide (2 ≤ (s.port c).buffer.length), .write c⟩ else none) ∧
  (∀ (s : State) (secondary : Bool) (pre post : List WindowLine) (l : WindowLine),
    (if secondary then s.composer.rs.lines else s.composer.rp.lines) = pre ++ l :: post → l.fetch = .waiting →
    (∀ m ∈ pre, m.fetch ≠ .waiting) →
    let urgent := match s.otg.raster with
      | .stopped => false
      | .blanking _ begun => decide (l.line = 0) && begun
      | .active p _ => decide (l.line ≤ p + 1)
    s.presented (if secondary then .rs else .rp) = some ⟨urgent, .read secondary l.frame l.line⟩) ∧
  (∀ (s : State) (secondary : Bool),
    (∀ m ∈ (if secondary then s.composer.rs.lines else s.composer.rp.lines), m.fetch ≠ .waiting) →
    s.presented (if secondary then .rs else .rp) = none)

/-- R153 to R156: a grant opportunity. The wheel entry at the pointer goes first, then the priority list in order, then the
round-robin list from its pointer on; the wheel pointer always advances, the round-robin pointer goes past its winner. The
winner takes the channel, and its request is in flight: of a port the write of its oldest line, of a composer's client the
read of that line and frame in its window, which was waiting. With no winner nothing else changes. -/
def Obligations.GrantDecidedByTable : Prop :=
  ∀ (s : State) (client : Client) (req : Presented), s.arbiter.channel = .free → s.presented client = some req →
    let a := s.arbiter
    let matching := fun (e : ArbEntry) (r : Presented) =>
      s.presented e.client = some r ∧ (e.qualifier = .urgent → r.urgent = true)
    let next := fun k n : Nat => if k + 1 < n then k + 1 else 0
    let wheelPtr := if a.table.wheel = [] then a.wheelPtr else next a.wheelPtr a.table.wheel.length
    let marked := fun (w : Window) (frame : Word) (line : Nat) => { w with lines := w.lines.map fun l =>
      if l.frame = frame ∧ l.line = line ∧ l.fetch = .waiting then { l with fetch := .inFlight } else l }
    let grants := fun (r : Presented) (robinPtr : Nat) =>
      let t := { s with arbiter := { a with channel := .busy r.grant, wheelPtr := wheelPtr, robinPtr := robinPtr } }
      exec .grantOpportunity s = .next (match r.grant with
        | .write c => t.setPort c { s.port c with inFlight := true }
        | .read false frame line => { t with composer := { s.composer with rp := marked s.composer.rp frame line } }
        | .read true frame line => { t with composer := { s.composer with rs := marked s.composer.rs frame line } })
    let before := fun j k : Nat => if a.robinPtr ≤ k then a.robinPtr ≤ j ∧ j < k else a.robinPtr ≤ j ∨ j < k
    (∀ e r, a.table.wheel[a.wheelPtr]? = some e → matching e r → grants r a.robinPtr) ∧
    ((∀ e r, a.table.wheel[a.wheelPtr]? = some e → ¬ matching e r) →
      (∀ pre e post r, a.table.priority = pre ++ e :: post → (∀ d ∈ pre, ∀ q, ¬ matching d q) → matching e r →
        grants r a.robinPtr) ∧
      ((∀ d ∈ a.table.priority, ∀ q, ¬ matching d q) →
        (∀ k e r, a.table.robin[k]? = some e → matching e r →
          (∀ j d q, before j k → a.table.robin[j]? = some d → ¬ matching d q) →
          grants r (next k a.table.robin.length)) ∧
        ((∀ d ∈ a.table.robin, ∀ q, ¬ matching d q) →
          exec .grantOpportunity s = .next { s with arbiter := { a with wheelPtr := wheelPtr } })))

/-- R155: over one turn of the wheel, a client with an ANY entry in the wheel that presents a request at every opportunity
is granted at one of them, whatever the other clients present. The states between opportunities may change in any way that
leaves the table and the wheel pointer. -/
def Obligations.WheelTurnGrantsClient : Prop :=
  ∀ (seq : Nat → State) (client : Client) (table : ArbTable),
    ⟨client, .any⟩ ∈ table.wheel → (seq 0).arbiter.wheelPtr < table.wheel.length →
    (∀ i, (seq i).arbiter.table = table ∧ (seq i).arbiter.channel = .free ∧ ((seq i).presented client).isSome = true) →
    (∀ i t, exec .grantOpportunity (seq i) = .next t → (seq (i + 1)).arbiter.wheelPtr = t.arbiter.wheelPtr) →
    ∃ i r t, i < table.wheel.length ∧ (seq i).presented client = some r
      ∧ exec .grantOpportunity (seq i) = .next t ∧ t.arbiter.channel = .busy r.grant

/-- R160, R161: SET_ARBITER keeps the counted entries of counts cut to 32, 6 and 6, refuses a counted entry that names no
client or qualifier and a table that serves some client nowhere with ANY, and applies an accepted table at once in CONFIG
with both pointers 0, and at the next boundary in RUN. -/
def Obligations.SetArbiterTakesTable : Prop :=
  ∀ (s : State) (tag : Byte) (b : ArbiterBody) (nw np nr : Nat), s.canAccept → s.mode ≠ .booting →
    nw = min 32 b.wheelCount.toNat → np = min 6 b.priorityCount.toNat → nr = min 6 b.robinCount.toNat →
    let clamped := decide (32 < b.wheelCount.toNat ∨ 6 < b.priorityCount.toNat ∨ 6 < b.robinCount.toNat)
    let counted := b.wheel.take nw ++ b.priority.take np ++ b.robin.take nr
    let refused := exec (.setArbiter tag b) s = .next (s.answered 0x08 tag .badField)
    (∀ e ∈ counted, 5 < e.toNat % 16 ∨ 1 < e.toNat / 16 → refused) ∧
    (∀ k : Nat, k ≤ 5 → (∀ e ∈ counted, e.toNat ≠ k) → refused) ∧
    (∀ table : ArbTable, table.wheel.map ArbEntry.code = b.wheel.take nw →
      table.priority.map ArbEntry.code = b.priority.take np → table.robin.map ArbEntry.code = b.robin.take nr →
      (∀ client : Client, ⟨client, .any⟩ ∈ table.wheel ++ table.priority ++ table.robin) →
      let answered := s.answered 0x08 tag .ok [byteOf nw, byteOf np, byteOf nr, if clamped then 1 else 0]
      (s.mode = .config → exec (.setArbiter tag b) s = .next { answered with
        arbiter := { s.arbiter with table := table, pendingTable := none, wheelPtr := 0, robinPtr := 0 } }) ∧
      (s.mode = .run → exec (.setArbiter tag b) s = .next { answered with
        arbiter := { s.arbiter with pendingTable := some table } }))

/-- R98, R143, R150: a read's completion frees the channel; its rows are kept against its line of the window while that
line is there and in flight, and are disregarded otherwise. R98: the rows and columns a read returns are all that its line
reads: the source's share of the line formed from them is the one formed from the samples stored in the slot. -/
def Obligations.ReadCompletionKeepsRows : Prop :=
  (∀ (x : Slot) (g : Geometry) (k : Corr) (f : Format) (wo r : Nat),
    (lumaColumns g f).index 0 ≤ f.ws - 1 → (chromaColumns g f).index 0 ≤ f.ws / 2 - 1 →
    let stored := fun (p : Plane) (row column : Nat) => (x.sample p row column).toNat
    let line := sourceLine (x.readLine g f wo r) g k f wo r
    line.luma = (List.range wo).map (fun j =>
      corrLuma k.g (resample (lumaColumns g f) (lumaRows g f) (stored .y) j r)) ∧
    (r % 2 = 0 →
      line.u = (List.range (wo / 2)).map (fun j =>
        corrChroma k.oU (resample (chromaColumns g f) (chromaRows g f) (stored .u) j (r / 2))) ∧
      line.v = (List.range (wo / 2)).map (fun j =>
        corrChroma k.oV (resample (chromaColumns g f) (chromaRows g f) (stored .v) j (r / 2)))) ∧
    (r % 2 = 1 → line.u = [] ∧ line.v = [])) ∧
  ∀ (s : State) (secondary : Bool) (frame : Word) (line : Nat),
    s.arbiter.channel = .busy (.read secondary frame line) →
    let w := if secondary then s.composer.rs else s.composer.rp
    let freed := { s with arbiter := { s.arbiter with channel := .free } }
    ((∀ l ∈ w.lines, ¬ (l.frame = frame ∧ l.line = line)) → exec .transferCompletion s = .next freed) ∧
    (∀ pre post r e x f o, w.lines = pre ++ ⟨frame, line, .inFlight⟩ :: post →
      (∀ l ∈ pre ++ post, ¬ (l.frame = frame ∧ l.line = line)) → s.zoom.current = some r →
      (if secondary then r.secondary else r.primary) = some e → (s.port e.camera).ring[e.slot]? = some x →
      (s.port e.camera).format = some f → s.otg.format = some o →
      let kept := { w with lines := pre ++ ⟨frame, line, .complete (x.readLine e.geometry f o.wo line)⟩ :: post }
      exec .transferCompletion s = .next { freed with
        composer := if secondary then { s.composer with rs := kept } else { s.composer with rp := kept } })

/-! ### Sensor Control Relay (chapter 10) -/

/-- R168: an IDLE bus goes to the running script's ready step, or else to the head of the pass-through queue. R164, R165,
R177: what a transaction puts on the wire: the write direction and the register address high byte first, a read with a
repeated start and the read direction, every received byte but the last acknowledged, and a stop condition; a byte that is
not acknowledged is the last one sent, with a stop condition after it; a held clock line or a reset cuts it off anywhere, the
lines released and no stop condition given. -/
def Obligations.BusGivenByRule : Prop :=
  (∀ (s : State) (x : Bus),
    let b := s.bus x
    (b.engine ≠ none → s.giveBus x = s) ∧
    (b.engine = none → b.passQueue = [] → (∀ r, b.running = some r → r.phase ≠ .ready) → s.giveBus x = s) ∧
    (∀ p rest, b.engine = none → b.passQueue = p :: rest → (∀ r, b.running = some r → r.phase ≠ .ready) →
      s.giveBus x = s.setBus x { b with engine := some ⟨.pass, p.transaction⟩ }) ∧
    (∀ r st t, b.engine = none → b.running = some r → r.phase = .ready → s.stepOf r = some st →
      st.transaction r.run.address = some t →
      s.giveBus x = s.setBus x
        { b with engine := some ⟨.script, t⟩, running := some { r with phase := .onBus } })) ∧
  (∀ (address : Nat) (register : Half), address ≤ 0x7F →
    let hi := BitVec.ofNat 8 (register.toNat / 256)
    let lo := BitVec.ofNat 8 register.toNat
    let out := BitVec.ofNat 8 (2 * address)
    let head : List Wire := [.start, .send out, .send hi, .send lo]
    (∀ data, let wire := Transaction.wire ⟨address, register, .write data⟩
      wire .whole = head ++ data.map Wire.send ++ [.stop] ∧ wire (.refused 0) = [.start, .send out, .stop]
        ∧ wire (.refused 1) = [.start, .send out, .send hi, .stop] ∧ wire (.refused 2) = head ++ [.stop]
        ∧ ∀ k, k < data.length → wire (.refused (3 + k)) = head ++ (data.take (k + 1)).map Wire.send ++ [.stop]) ∧
    (∀ n, let wire := Transaction.wire ⟨address, register, .read (n + 1)⟩
      let again : List Wire := [.repeatedStart, .send (out ||| 1)]
      wire .whole = head ++ again ++ List.replicate n (.receive true) ++ [.receive false, .stop]
        ∧ wire (.refused 0) = [.start, .send out, .stop] ∧ wire (.refused 1) = [.start, .send out, .send hi, .stop]
        ∧ wire (.refused 2) = head ++ [.stop] ∧ wire (.refused 3) = head ++ again ++ [.stop])) ∧
  (∀ (t : Transaction) (n : Nat), t.wire (.cut n) = (t.wire .whole).dropLast.take n ++ [.release]
    ∧ Wire.stop ∉ t.wire (.cut n))

/-- R166: SENSOR_READ and SENSOR_WRITE: the refusals in order, and an accepted pass-through at the tail of the queue of its
bus, its request open and without a reply, the bus given to it when it is idle. That the address byte of a camera target is
not looked at is the model's choice (entry 28). -/
def Obligations.PassThroughQueued : Prop :=
  ∀ (s : State) (tag : Byte) (b : SensorBody) (d : Data4), s.canAccept → s.mode ≠ .booting →
    let reads := exec (.sensorRead tag b) s
    let writes := exec (.sensorWrite tag b d) s
    let refused := fun status => reads = .next (s.answered 0x14 tag status) ∧ writes = .next (s.answered 0x15 tag status)
    let queued := fun (x : Bus) (address : Nat) (kind : Byte) (action : Action) =>
      (({ s with link := s.link.kept kind tag }).setBus x { s.bus x with
        passQueue := (s.bus x).passQueue ++ [(⟨s.link.nextId, ⟨address, b.register, action⟩⟩ : PassThrough)] }).giveBus x
    let taken := fun (x : Bus) (address : Nat) =>
      (8 ≤ (s.bus x).passQueue.length → refused .queueFull) ∧
      ((s.bus x).passQueue.length < 8 →
        reads = .next (queued x address 0x14 (.read b.count.toNat)) ∧
        writes = .next (queued x address 0x15 (.write ([d.d0, d.d1, d.d2, d.d3].take b.count.toNat))))
    (b.count = 0 ∨ 4 < b.count.toNat ∨ 1 < b.form.toNat → refused .badField) ∧
    (1 ≤ b.count.toNat → b.count.toNat ≤ 4 →
      (b.form = 0 → 3 < b.which.toNat → refused .badField) ∧
      (∀ c : Cam, b.form = 0 → b.which.toNat = c.idx →
        ((s.port c).cal = none → refused .notConfigured) ∧
        (∀ k, (s.port c).cal = some k → taken k.bus k.address)) ∧
      (b.form = 1 → 1 < b.which.toNat ∨ 0x7F < b.address.toNat → refused .badField) ∧
      (b.form = 1 → b.which = 0 → b.address.toNat ≤ 0x7F → taken .a b.address.toNat) ∧
      (b.form = 1 → b.which = 1 → b.address.toNat ≤ 0x7F → taken .b b.address.toNat))

/-- R165, R167, R168: the end of a pass-through's transaction: it leaves its queue, its request is answered with the outcome
and, for a read that ended OK, the bytes in the order received, and the bus is given on. The engine has given a stop
condition, or after a held clock line released the lines without one. -/
def Obligations.PassThroughAnswered : Prop :=
  ∀ (s : State) (x : Bus) (d : Data4) (t : Transaction) (p : PassThrough) (rest : List PassThrough)
    (pre post : List OpenRequest) (kind tag : Byte),
    (s.bus x).engine = some ⟨.pass, t⟩ → (s.bus x).passQueue = p :: rest →
    s.link.opened = pre ++ ⟨p.id, kind, tag⟩ :: post → (∀ o ∈ pre, o.id ≠ p.id) →
    let ended := fun (lines : LineEnd) (status : Status) (body : List Byte) =>
      (({ s with link := { s.link with
        opened := pre ++ post, outbound := s.link.outbound ++ [OutFrame.reply kind tag status body] } }).setBus x
          { s.bus x with engine := none, lastEnd := lines, passQueue := rest }).giveBus x
    exec (.transactionEnd x true d) s = .next
      (ended .stop .ok (match t.action with | .read n => [d.d0, d.d1, d.d2, d.d3].take n | .write _ => [])) ∧
    exec (.transactionEnd x false d) s = .next (ended .stop .noAck []) ∧
    exec (.busTimeout x) s = .next (ended .released .busTimeout [])

/-- R169: LOAD_SCRIPT refuses in order and replaces the one named script; the camera need not be configured. R169,
Tables 27 and 34: the steps LOAD_SCRIPT takes and refuses, byte by byte. That bytes 3 to 7 of a WAIT step and byte 7 of a
POLL step, which Table 34 gives as 0, are not looked at is the model's choice (entry 45). -/
def Obligations.LoadScriptReplaces : Prop :=
  (∀ (s : State) (tag camera selector : Byte) (raw : List RawStep), s.canAccept → s.mode ≠ .booting →
    let answers := fun status => exec (.loadScript tag camera selector raw) s = .next (s.answered 0x0B tag status)
    (3 < camera.toNat ∨ 1 < selector.toNat ∨ 24 < raw.length ∨ (∃ r ∈ raw, stepOfRaw r = none) → answers .badField) ∧
    (∀ (c : Cam) (sel : Selector) (steps : List Step), camera.toNat = c.idx → selector.toNat = sel.code.toNat →
      raw.length ≤ 24 → raw.map stepOfRaw = steps.map some →
      ((∃ x, (∃ r, (s.bus x).running = some r ∧ r.run.camera = c ∧ r.run.selector = sel)
          ∨ ∃ r ∈ (s.bus x).waiting, r.camera = c ∧ r.selector = sel) → answers .busy) ∧
      ((∀ x, (∀ r, (s.bus x).running = some r → ¬ (r.run.camera = c ∧ r.run.selector = sel))
          ∧ ∀ r ∈ (s.bus x).waiting, ¬ (r.camera = c ∧ r.selector = sel)) →
        let old := s.relay.scripts.get c
        let new : Scripts := match sel with
          | .start => { old with start := steps }
          | .stop => { old with stop := steps }
        exec (.loadScript tag camera selector raw) s = .next
          (({ s with relay := { s.relay with scripts := s.relay.scripts.set c new } }).answered 0x0B tag .ok)))) ∧
  (∀ r : RawStep,
    (r.kind = 1 → 1 ≤ r.byte3.toNat → r.byte3.toNat ≤ 4 → stepOfRaw r = some (.write r.word1
      ([r.byte4, BitVec.ofNat 8 r.word5.toNat, BitVec.ofNat 8 (r.word5.toNat / 256), r.byte7].take r.byte3.toNat))) ∧
    (r.kind = 2 → r.word1 ≠ 0 → stepOfRaw r = some (.wait r.word1.toNat)) ∧
    (r.kind = 3 → 1 ≤ r.word5.toNat → r.word5.toNat ≤ 1000 →
      stepOfRaw r = some (.poll r.word1 r.byte3 r.byte4 r.word5.toNat)) ∧
    (r.kind = 1 → r.byte3 = 0 ∨ 4 < r.byte3.toNat → stepOfRaw r = none) ∧
    (r.kind = 2 → r.word1 = 0 → stepOfRaw r = none) ∧
    (r.kind = 3 → r.word5 = 0 ∨ 1000 < r.word5.toNat → stepOfRaw r = none) ∧
    (r.kind = 0 ∨ 3 < r.kind.toNat → stepOfRaw r = none))

/-- R165, R171, R172, R174: the end of a script step's transaction. A WRITE that ended OK and a POLL that matches go on to the
next step; a POLL that does not match retries after 1,000 microseconds while less than its timeout has passed, and fails
otherwise; NO_ACK and BUS_TIMEOUT fail the script; a marked script ends ABORTED. The lines are left with a stop condition, or
after a held clock line released without one. -/
def Obligations.ScriptTransactionEnds : Prop :=
  ∀ (s : State) (x : Bus) (d : Data4) (t : Transaction) (r : Running) (st : Step),
    (s.bus x).engine = some ⟨.script, t⟩ → (s.bus x).running = some r → s.stepOf r = some st →
    let idle := fun lines : LineEnd => s.setBus x { s.bus x with engine := none, lastEnd := lines }
    let ok := exec (.transactionEnd x true d) s
    let ends := fun (lines : LineEnd) (result : ScriptResult) (cause : ScriptCause) =>
      Host.Outcome.next (((idle lines).endScript x r.run result r.step cause).giveBus x)
    (r.abort = true → ok = ends .stop .aborted .none ∧ exec (.transactionEnd x false d) s = ends .stop .aborted .none
      ∧ exec (.busTimeout x) s = ends .released .aborted .none) ∧
    (r.abort = false →
      exec (.transactionEnd x false d) s = ends .stop .failed .noAck ∧
      exec (.busTimeout x) s = ends .released .failed .busTimeout ∧
      (∀ register data, st = .write register data → ok = .next (((idle .stop).stepDone x r).giveBus x)) ∧
      (∀ register mask value timeout, st = .poll register mask value timeout →
        (d.d0 &&& mask = value &&& mask → ok = .next (((idle .stop).stepDone x r).giveBus x)) ∧
        (d.d0 &&& mask ≠ value &&& mask → (s.timebase - r.begun).toNat < 1000 * timeout →
          ok = .next (((idle .stop).setBus x { s.bus x with
            engine := none, lastEnd := .stop, running := some { r with phase := .retry 1000 } }).giveBus x)) ∧
        (d.d0 &&& mask ≠ value &&& mask → 1000 * timeout ≤ (s.timebase - r.begun).toNat →
          ok = ends .stop .failed .pollTimeout)))

/-- R171, R172, R173, R8: the running script goes on: a retry interval that has been counted puts its step back to READY; a
WAIT that has been counted begins the next step, or ends the script with OK when it was the last, be it a START or a STOP
script; so does any step that is done (`stepDone`). For a START script of a LOADING camera with no run waiting that end is
written out: SCRIPT_DONE, then WAITING with the countdown armed. With no interval counted to its end each of the two events
leaves the state as it is, which is the model's choice (entry 4). -/
def Obligations.ScriptGoesOn : Prop :=
  (∀ (s : State) (x : Bus), ((s.bus x).running = none →
    exec (.pollRetry x) s = .next s ∧ exec (.waitEnd x) s = .next s)) ∧
  ∀ (s : State) (x : Bus) (r : Running), (s.bus x).running = some r →
    let steps := match r.run.selector with
      | .start => (s.relay.scripts.get r.run.camera).start
      | .stop => (s.relay.scripts.get r.run.camera).stop
    let goesOn := fun st : Step => s.setBus x { s.bus x with
      running := some { r with
        step := r.step + 1, begun := s.timebase
        phase := match st with | .wait m => .waiting m | .write _ _ => .ready | .poll _ _ _ _ => .ready } }
    (∀ st, steps[r.step + 1]? = some st → s.stepDone x r = goesOn st) ∧
    (steps.length ≤ r.step + 1 → s.stepDone x r = s.endScript x r.run .ok steps.length .none) ∧
    (r.phase ≠ .retry 0 → exec (.pollRetry x) s = .next s) ∧
    (r.phase ≠ .waiting 0 → exec (.waitEnd x) s = .next s) ∧
    (r.phase = .retry 0 →
      exec (.pollRetry x) s = .next ((s.setBus x { s.bus x with running := some { r with phase := .ready } }).giveBus x)) ∧
    (r.phase = .waiting 0 →
      (∀ st, steps[r.step + 1]? = some st → exec (.waitEnd x) s = .next ((goesOn st).giveBus x)) ∧
      (steps.length ≤ r.step + 1 →
        exec (.waitEnd x) s = .next ((s.endScript x r.run .ok steps.length .none).giveBus x)) ∧
      (∀ k, steps.length ≤ r.step + 1 → r.run.selector = .start → (s.port r.run.camera).state = .loading →
        (s.port r.run.camera).cal = some k → (s.bus x).waiting = [] →
        let noticed := s.raise (.scriptDone r.run.camera .start .ok steps.length .none)
        let waits := ((noticed.setPort r.run.camera { s.port r.run.camera with state := .waiting }).setMonitor r.run.camera
          { s.monitor r.run.camera with countdown := some k.first }).raise
            (.cameraState r.run.camera .loading .waiting .started)
        exec (.waitEnd x) s = .next ((waits.setBus x { s.bus x with running := none }).giveBus x)))

/-- R8, R13, R29, R170, R173: what the end of a script brings in the Camera Port: a START script of a LOADING camera that
ended OK brings it to WAITING with the countdown armed, one that failed faults it with reason SCRIPT; a STOP script brings a
STOPPING camera to OFF whatever its result; a report that finds another state is disregarded. SCRIPT_DONE comes first, and
the runner then takes the next waiting run, when there is one, at its step 0. What a freed slot keeps is the model's choice
(entry 11). -/
def Obligations.ScriptEndReported : Prop :=
  ∀ (s : State) (x : Bus) (run : Run) (result : ScriptResult) (step : Nat) (cause : ScriptCause),
    let c := run.camera
    let p := s.port c
    let noticed := s.raise (.scriptDone c run.selector result step cause)
    let next := fun t : State => match (s.bus x).waiting with
      | [] => t.setBus x { s.bus x with running := none }
      | w :: rest =>
        let first := match w.selector with
          | .start => (s.relay.scripts.get w.camera).start.head?
          | .stop => (s.relay.scripts.get w.camera).stop.head?
        t.setBus x { s.bus x with
          waiting := rest
          running := some ⟨w, 0, match first with | some (.wait m) => .waiting m | _ => .ready, s.timebase, false⟩ }
    (run.selector = .stop → p.state = .stopping → s.endScript x run result step cause =
      next ((noticed.setPort c { p with state := .off }).raise (.cameraState c .stopping .off .stopped))) ∧
    (run.selector = .stop → p.state ≠ .stopping → s.endScript x run result step cause = next noticed) ∧
    (run.selector = .start → p.state ≠ .loading ∨ result = .aborted → s.endScript x run result step cause = next noticed) ∧
    (∀ k, run.selector = .start → p.state = .loading → result = .ok → p.cal = some k →
      s.endScript x run result step cause =
        next (((noticed.setPort c { p with state := .waiting }).setMonitor c
          { s.monitor c with countdown := some k.first }).raise (.cameraState c .loading .waiting .started))) ∧
    (run.selector = .start → p.state = .loading → result = .failed → s.endScript x run result step cause =
      next ((noticed.setPort c { p with
        state := .faulted, faultReason := .script, buffer := if p.inFlight then p.buffer.take 1 else []
        ring := p.ring.map fun y => if y.state = .filling ∨ y.state = .draining then { y with
          state := .free, pin := .none, release := false, outstanding := 0, full := none, region := none } else y
        counters := { p.counters with
          truncated := if p.ring.any (·.state == .filling) then min 4294967295 (p.counters.truncated + 1)
            else p.counters.truncated
          damaged := if p.ring.any (·.state == .draining) then min 4294967295 (p.counters.damaged + 1)
            else p.counters.damaged }
        sums := .zero, region := none, pattern := none }).raise (.cameraState c .loading .faulted .script)))

/-! ### Output Timing Generator and Output Composer (chapters 08 and 10) -/

/-- R133: SET_OUTPUT_FORMAT is taken in CONFIG and refused with WRONG_MODE elsewhere; a field outside its range is refused
with BAD_FIELD; on acceptance the format and the active blanking are replaced and the shadow is absent, and nothing else
changes, the effective service maxima among it. -/
def Obligations.SetOutputFormatReplaces : Prop :=
  ∀ (s : State) (tag : Byte) (wo ho : Half) (rate : Word) (hb vb : Half), s.canAccept →
    let fields := (640 ≤ wo.toNat ∧ wo.toNat ≤ 3840 ∧ wo.toNat % 2 = 0) ∧ (360 ≤ ho.toNat ∧ ho.toNat ≤ 2160 ∧ ho.toNat % 2 = 0)
      ∧ (25000 ≤ rate.toNat ∧ rate.toNat ≤ 600000) ∧ (64 ≤ hb.toNat ∧ hb.toNat ≤ 4096) ∧ (8 ≤ vb.toNat ∧ vb.toNat ≤ 1024)
    (s.mode ≠ .config → exec (.setOutputFormat tag wo ho rate hb vb) s = .next (s.answered 0x03 tag .wrongMode)) ∧
    (s.mode = .config → ¬ fields →
      exec (.setOutputFormat tag wo ho rate hb vb) s = .next (s.answered 0x03 tag .badField)) ∧
    (s.mode = .config → fields →
      exec (.setOutputFormat tag wo ho rate hb vb) s = .next (({ s with otg := { s.otg with
        format := some ⟨wo.toNat, ho.toNat, rate.toNat⟩, blanking := some ⟨hb.toNat, vb.toNat⟩, shadow := none } }).answered
          0x03 tag .ok))

/-- R134: SET_OUTPUT_BLANKING: the checks, and the active blanking in CONFIG or the shadow in RUN. That a value out of range
goes before a missing format is the model's choice (entry 43). -/
def Obligations.SetOutputBlankingByMode : Prop :=
  ∀ (s : State) (tag : Byte) (hb vb : Half), s.canAccept → s.mode ≠ .booting →
    let fields := (64 ≤ hb.toNat ∧ hb.toNat ≤ 4096) ∧ (8 ≤ vb.toNat ∧ vb.toNat ≤ 1024)
    let gives := fun t => exec (.setOutputBlanking tag hb vb) s = .next t
    (¬ fields → gives (s.answered 0x04 tag .badField)) ∧
    (fields → s.mode = .config → s.otg.format = none → gives (s.answered 0x04 tag .notConfigured)) ∧
    (fields → s.mode = .config → s.otg.format ≠ none → gives (({ s with otg := { s.otg with
      blanking := some ⟨hb.toNat, vb.toNat⟩, shadow := none } }).answered 0x04 tag .ok)) ∧
    (fields → s.mode = .run → gives (({ s with otg := { s.otg with
      shadow := some ⟨hb.toNat, vb.toNat⟩ } }).answered 0x04 tag .ok))

/-- R137, R52, R54, R55: START_OUTPUT refuses without a format, without a configured camera, with a service range that is
empty and with a gap in the coverage; accepted, it computes the effective maxima, sets the rest value, enters RUN and takes
the first boundary at once, the reply queued before it. The rest value is Z0 in the field range, clamped to the zoom bounds
of the eligible cameras, or, with every configured camera FAULTED, to 256 to 40960 (R41). `beginFrame` is what BOUNDARY
takes; the pixel count it begins with is the model's (entry 34). -/
def Obligations.StartOutputBegins : Prop :=
  ∀ (s : State) (tag : Byte) (z0 : Half), s.canAccept → s.mode = .config →
    let refused := fun status => exec (.startOutput tag z0) s = .next (s.answered 0x0E tag status)
    (s.otg.format = none → refused .notConfigured) ∧
    (∀ o, s.otg.format = some o → (∀ c, s.configured c = false) → refused .notConfigured) ∧
    (∀ (o : OutFormat) (zmax : Cam → Nat), s.otg.format = some o →
      (∀ c k f, (s.port c).cal = some k → (s.port c).format = some f → zmax c = min k.zmax (k.m * f.ws * 8 / o.wo)) →
      let someConfigured := ∃ c, s.configured c = true
      let rangesOk := ∀ c, s.configured c = true → s.mOf c ≤ zmax c
      let covered := ∀ c d, s.configured c = true → s.configured d = true → c.idx < d.idx →
        (∀ e, c.idx < e.idx → e.idx < d.idx → s.configured e = false) → s.mOf d ≤ zmax c
      (someConfigured → ¬ rangesOk → refused .badField) ∧
      (rangesOk → ¬ covered → refused .badField) ∧
      let field := max 256 (min 40960 z0.toNat)
      let begins := fun rest : Nat => exec (.startOutput tag z0) s = .next
        ((({ s with
            mode := .run
            zoom := { s.zoom with
              zmax := Quad.tab fun c => if s.configured c = true then some (zmax c) else none, rest := rest } }).answered
          0x0E tag .ok [if rest = z0.toNat ∧ field = z0.toNat then 0 else 1]).beginFrame o.rate)
      someConfigured → rangesOk → covered → (∀ c, s.zoom.view ≠ .locked c) →
        (∀ wide narrow : Cam, s.eligible wide = true → (∀ c, c.idx < wide.idx → s.eligible c = false) →
          s.eligible narrow = true → (∀ c, narrow.idx < c.idx → s.eligible c = false) →
          begins (if field < s.mOf wide then s.mOf wide else if zmax narrow < field then zmax narrow else field)) ∧
        ((∀ c, s.eligible c = false) → begins field))

/-- R59, R60, R82, R120 to R129, R131, R134 to R136, R141, R148, R161, R175, R176: a boundary of RUN with no stop pending is
`beginFrame`, as the first boundary of START_OUTPUT is, and what that leaves, stage by stage. Before the composition: the
shadowed settings in force, the metadata line of the frame just sent at the port, FRAME_DONE. The stages use every
calibration part's M. Ramp (R47, R48): queue, rest value and candidate. Selection: each camera's frame, its freshness and
the sequence kept for the next boundary. Hand-off: engine, pending cut, view and the start asked for are the verdict of
`handoff` on the state so far. Zoom window (R49 to R51, R58): the applied zoom with its marks, and the ramp's advance.
Correction update (R80): the two records. Record and publication: number, timestamps, weight, and each source's selection,
geometry at the applied zoom and correction, repeated in FROZEN (R74); the pins of the record. At last the first lines of
its sources requested, the pulses placed, and the raster in blanking line 0. The link takes the notices of the stages and
nothing else, in their order. The order of the blocks, FRAME_DONE first, is the model's reading (DEDUCED, entry 17), as is
freshness by R123 alone (entry 46); its choices are the count of pixels, of which a frame takes its period (entry 34), and
what a slot freed with its release mark keeps (entry 11). That a FROZEN record, which repeats the sources of the one before
(R74), carries the view that stands at this boundary, as R127 has it of every record, is DEDUCED (entry 32); so is the level
of a frame-sync line over the boundary: a line that is active stays so when the frame that begins has a pulse with effective
offset 0 for it, and is inactive otherwise (entry 26). -/
def Obligations.BoundaryComposesFrame : Prop :=
  ∀ (s : State) (f : OutFormat) (b : Blanking), s.otg.format = some f →
    (match s.otg.shadow with | some x => some x | none => s.otg.blanking) = some b →
    (∀ old last, s.otg.blanking = some old → s.mode = .run → s.otg.stopPending = none →
      s.otg.raster = .active last true → f.ho ≤ last + 1 → let period := 1000 * ((f.wo + old.hb) * (f.ho + old.vb))
      period < s.otg.phase → exec .boundary s = .next (s.beginFrame (s.otg.phase - period))) ∧
    ∀ phase, ∃ r : Record,
      let t := s.beginFrame phase
      let z := s.zoom
      let settings := z.pendingSettings.getD z.settings
      let before := match z.current with | some x => x.applied | none => z.rest
      let ramp := rampStart ({ s with zoom := { z with priorM := .const none } }).zoomBounds before r.frame z.queue z.rest
      let h := { s with zoom := { z with
        settings := settings, pendingSettings := none, queue := ramp.1, rest := ramp.2.1, priorM := .const none
        selection := t.zoom.selection, prevSelected := t.zoom.prevSelected } }
      let v := h.handoff ⟨r.candidate, Quad.tab (s.freshNow r.target), r.frame⟩
      let asked := match v.autoStart with | some c => h.autoStart c | none => h
      let window := h.window r.engine
      let last := match z.current with | some x => x.applied | none => ramp.2.1
      let w := windowZoom window last r.candidate v.forcing
      let entry := fun (c : Cam) (k : Corr) => (t.zoom.selection.get c).map fun x =>
        (⟨c, x.slot, x.seq, x.start, s.geometry c r.applied, k, x.stale⟩ : SourceEntry)
      let begun := fun c : Cam => if (s.relay.scripts.get c).start = [] then CamState.waiting else .loading
      let starts : List Notice := match v.autoStart with
        | some c => if (s.port c).state = .off then [.cameraState c .off (begun c) .autoStart] else []
        | none => []
      let limits : List Notice :=
        if w.forced = true then [.zoomLimit .forced w.applied r.frame]
        else if w.held = true ∧ z.heldRun = false then [.zoomLimit .held w.applied r.frame]
        else []
      t.zoom.current = some r
      ∧ t.mode = s.mode ∧ t.timebase = s.timebase ∧ t.pending = s.pending ∧ t.zoom.previous = z.current
      ∧ t.zoom.zmax = z.zmax ∧ t.zoom.priorM = .const none ∧ t.zoom.distance = z.distance
      ∧ t.zoom.settings = settings ∧ t.zoom.pendingSettings = none
      ∧ r.frame = (match z.current with | some x => x.frame + 1 | none => 0)
      ∧ r.timestamp = s.timebase ∧ r.target = s.timebase - BitVec.ofNat 32 settings.latency ∧ r.underruns = 0
      ∧ r.candidate = rampCandidate ramp.1 ramp.2.1
      ∧ (∀ c, let ring := (s.port c).ring
        let eligible := (s.port c).format ≠ none ∧ (s.port c).cal ≠ none ∧ (s.port c).state ≠ .faulted
        let sel := t.zoom.selection.get c
        let candidate := fun (k : Nat) (x : Slot) => ring[k]? = some x ∧ x.state = .ready ∧ x.release = false
        let old := fun x : Slot => (r.target - x.start).toNat
        let later := fun x y : Slot => 0 < (x.seq - y.seq).toNat ∧ (x.seq - y.seq).toNat < 2147483648
        (¬ eligible → sel = none) ∧
        (eligible →
          (∀ k x, candidate k x → old x < 2147483648 →
            (∀ j y, candidate j y → old y < 2147483648 → j ≠ k → old x < old y ∨ (old x = old y ∧ later x y)) →
            sel = some ⟨k, x.seq, x.start, false⟩) ∧
          (∀ k x, (∀ j y, candidate j y → 2147483648 ≤ old y) → candidate k x →
            (∀ j y, candidate j y → j ≠ k → old y < old x ∨ (old x = old y ∧ later x y)) →
            sel = some ⟨k, x.seq, x.start, false⟩) ∧
          ((∀ j y, ¬ candidate j y) →
            (∀ k x, ring[k]? = some x → x.pin ≠ .none → (∀ j y, j < k → ring[j]? = some y → y.pin = .none) →
              sel = some ⟨k, x.seq, x.start, true⟩) ∧
            ((∀ y ∈ ring, y.pin = .none) → sel = none))) ∧
        t.zoom.prevSelected.get c = sel.map Selection.seq ∧
        (s.freshNow r.target c = true ↔ ∃ x, sel = some x ∧ z.prevSelected.get c ≠ some x.seq))
      ∧ r.engine = v.engine ∧ t.zoom.engine = v.engine ∧ t.zoom.pendingCut = v.pendingCut
      ∧ r.view = v.view ∧ t.zoom.view = v.view
      ∧ t.monitors = asked.monitors ∧ t.relay = asked.relay
      ∧ (∀ c, { t.port c with ring := [] } = { asked.port c with ring := [] })
      ∧ (∀ c, (t.port c).state = if v.autoStart = some c ∧ (s.port c).state = .off then begun c else (s.port c).state)
      ∧ r.applied = w.applied ∧ r.held = w.held ∧ r.forced = w.forced ∧ t.zoom.heldRun = w.held
      ∧ (∀ lo hi, window = some (lo, hi) → lo ≤ hi → lo ≤ r.applied ∧ r.applied ≤ hi)
      ∧ (t.zoom.queue, t.zoom.rest) =
          (if window ≠ none ∧ w.held = false ∧ w.forced = false then rampAdvance ramp.1 ramp.2.1 else (ramp.1, ramp.2.1))
      ∧ (t.zoom.outgoing, t.zoom.incoming) = h.corrected v.corr
      ∧ (r.primary, r.secondary) = (match r.engine with
          | .steady p => (entry p t.zoom.outgoing, none)
          | .prepare o _ _ _ => (entry o t.zoom.outgoing, none)
          | .blend o i _ _ _ => (entry o t.zoom.outgoing, entry i t.zoom.incoming)
          | .compare c d _ => (entry c .identity, entry d .identity)
          | .frozen => (z.current.bind Record.primary, z.current.bind Record.secondary)
          | .stopped => (none, none))
      ∧ r.weight = (match r.engine with | .blend _ _ k n _ => (256 * k + n / 2) / n | _ => 0)
      ∧ (r.frozen = true ↔ r.engine = .frozen)
      ∧ (r.approx = true ↔ ∃ e : SourceEntry, (r.primary = some e ∨ r.secondary = some e) ∧ e.corr.approx = true)
      ∧ (∀ c, (t.port c).ring = (s.port c).ring.mapIdx fun k x =>
          if pinAt (r.pinOf c) k ≠ .none then { x with pin := pinAt (r.pinOf c) k }
          else if x.pin ≠ .none ∧ x.release = true then
            { x with
              state := .free, pin := .none, release := false, outstanding := 0, full := none, region := none }
          else { x with pin := .none })
      ∧ t.link = (ramp.2.2 ++ v.notices ++ starts ++ limits).foldl Link.raise (match z.current with
          | some x => s.link.raise (.frameDone x.frame s.timebase)
          | none => s.link)
      ∧ t.otg.format = s.otg.format ∧ t.otg.blanking = some b ∧ t.otg.shadow = none ∧ t.otg.raster = .blanking 0 false
      ∧ t.otg.phase = phase ∧ t.otg.stopPending = s.otg.stopPending
      ∧ t.otg.outPort = some (metadataLine f.wo z.current)
      ∧ (∀ c, t.otg.fsync.get c = (s.otg.fsyncPending.get c).getD (s.otg.fsync.get c) ∧ t.otg.fsyncPending.get c = none)
      ∧ (∀ c, let x := t.otg.fsync.get c
        let pus := (f.wo + b.hb) * (f.ho + b.vb) * 1000 / f.rate
        t.otg.pulse.get c = if x.enable then
          some ⟨min x.offset (pus - min x.width pus), min x.width pus, 0, false, false⟩ else none)
      ∧ (∀ c, let x := t.otg.fsync.get c
        let pus := (f.wo + b.hb) * (f.ho + b.vb) * 1000 / f.rate
        t.otg.lineActive.get c = true ↔
          s.otg.lineActive.get c = true ∧ x.enable = true ∧ min x.offset (pus - min x.width pus) = 0)
      ∧ t.arbiter = (match s.arbiter.pendingTable with
          | some table => { s.arbiter with table := table, pendingTable := none, wheelPtr := 0, robinPtr := 0 }
          | none => s.arbiter)
      ∧ t.composer.rp.lines = (List.range (min 4 ((r.primaryServes f.ho).hi - (r.primaryServes f.ho).lo))).map
          (fun k => ⟨r.frame, (r.primaryServes f.ho).lo + k, .waiting⟩)
      ∧ t.composer.rs.lines = (List.range (min 4 ((r.secondaryServes f.ho).hi - (r.secondaryServes f.ho).lo))).map
          (fun k => ⟨r.frame, (r.secondaryServes f.ho).lo + k, .waiting⟩)

/-- R138, R139, R53, R84: STOP_OUTPUT stays open with the stop-pending mark set, and a second one is BUSY; the boundary at
which it takes effect composes nothing: the shadowed settings are applied, the last metadata line is sent, FRAME_DONE is
raised, every pin is removed, engine, ramp, view and records are discarded, the windows are emptied, the part enters CONFIG
and the request is answered OK. What a slot freed with its release mark keeps and the count of pixels are the model's choices
(entries 11, 34). -/
def Obligations.StopOutputTakesEffect : Prop :=
  (∀ (s : State) (tag : Byte), s.canAccept → s.mode = .run →
    (s.otg.stopPending = none → exec (.stopOutput tag) s = .next { s with
      otg := { s.otg with stopPending := some s.link.nextId }, link := s.link.kept 0x0F tag }) ∧
    (s.otg.stopPending ≠ none → exec (.stopOutput tag) s = .next (s.answered 0x0F tag .busy))) ∧
  (∀ (s : State) (f : OutFormat) (b : Blanking) (r : Record) (id last : Nat) (tag : Byte) (pre post : List OpenRequest),
    s.mode = .run → s.otg.stopPending = some id → s.otg.format = some f → s.zoom.current = some r →
    s.otg.blanking = some b → s.otg.raster = .active last true → f.ho ≤ last + 1 →
    1000 * ((f.wo + b.hb) * (f.ho + b.vb)) < s.otg.phase →
    s.link.opened = pre ++ ⟨id, 0x0F, tag⟩ :: post → (∀ o ∈ pre, o.id ≠ id) →
    let noticed := s.link.raise (.frameDone r.frame s.timebase)
    exec .boundary s = .next { s with
      mode := .config
      link := { noticed with opened := pre ++ post, outbound := noticed.outbound ++ [.reply 0x0F tag .ok []] }
      ports := Quad.tab fun c => { s.port c with ring := (s.port c).ring.map fun x =>
        if x.pin = .none then x else if x.release then { x with
          state := .free, pin := .none, release := false, outstanding := 0, full := none, region := none }
        else { x with pin := .none } }
      zoom := { s.zoom with
        queue := [], heldRun := false, engine := .stopped, pendingCut := none, outgoing := ⟨1024, 0, 0, false⟩
        incoming := ⟨1024, 0, 0, false⟩, view := .normal, priorM := .const none, selection := .const none
        prevSelected := .const none, current := none, previous := none }
      otg := { s.otg with
        blanking := (match s.otg.shadow with | some x => some x | none => s.otg.blanking)
        shadow := none, raster := .stopped, phase := 0, stopPending := none
        fsync := Quad.tab fun c => (s.otg.fsyncPending.get c).getD (s.otg.fsync.get c), fsyncPending := .const none
        pulse := .const none, lineActive := .const false, outPort := some (metadataLine f.wo (some r)) }
      composer := ⟨⟨[], 0⟩, ⟨[], 0⟩, none, none, none⟩
      arbiter := (match s.arbiter.pendingTable with
        | some table => { s.arbiter with table := table, pendingTable := none, wheelPtr := 0, robinPtr := 0 }
        | none => s.arbiter) })

/-- R135, Table 22, R136, R147: the raster's events come each at its pixel after the boundary: a blanking line starts while one
is left; the frame start comes with the last blanking line; the frame end comes in the last active line, with UNDERRUN when
lines underran. An event that is not the next one or whose pixel has not come, a line start and a boundary among them, leaves
the state as it is, which is the model's choice (entry 4); so is the count `phase`, in thousandths of a pixel period up to
the end of the microsecond (entry 34). -/
def Obligations.RasterEventsInOrder : Prop :=
  (∀ s : State, (s.otg.raster = .stopped →
      (∀ i ∈ [Instr.boundary, .blankingLineStart, .outputFrameStart, .lineStart, .outputFrameEnd], exec i s = .next s)) ∧
    (s.mode ≠ .run → exec .boundary s = .next s)) ∧
  ∀ (s : State) (f : OutFormat) (b : Blanking), s.otg.format = some f → s.otg.blanking = some b →
    let line := f.wo + b.hb
    let come := fun pixel : Nat => 1000 * pixel < s.otg.phase
    (∀ q begun, s.otg.raster = .blanking q begun →
      (begun = false → q + 1 < b.vb → come ((q + 1) * line) →
        exec .blankingLineStart s = .next { s with otg := { s.otg with raster := .blanking (q + 1) false } }) ∧
      (begun = true ∨ b.vb ≤ q + 1 ∨ ¬ come ((q + 1) * line) → exec .blankingLineStart s = .next s) ∧
      (q + 1 = b.vb → begun = false → come ((b.vb - 1) * line) → exec .outputFrameStart s = .next { s with
        otg := { s.otg with raster := .blanking q true, outPort := some .frameStart } }) ∧
      (q + 1 ≠ b.vb ∨ begun = true ∨ ¬ come ((b.vb - 1) * line) → exec .outputFrameStart s = .next s) ∧
      (begun = false ∨ ¬ come (b.vb * line) → exec .lineStart s = .next s) ∧
      exec .outputFrameEnd s = .next s ∧ exec .boundary s = .next s) ∧
    (∀ r ended, s.otg.raster = .active r ended →
      exec .blankingLineStart s = .next s ∧ exec .outputFrameStart s = .next s ∧
      (f.ho ≤ r + 1 ∨ ¬ come ((b.vb + r + 1) * line) → exec .lineStart s = .next s) ∧
      (r + 1 ≠ f.ho ∨ ended = true ∨ ¬ come ((b.vb + f.ho - 1) * line + f.wo) → exec .outputFrameEnd s = .next s) ∧
      (r + 1 < f.ho ∨ ended = false ∨ ¬ come ((b.vb + f.ho) * line) → exec .boundary s = .next s) ∧
      (∀ rec, r + 1 = f.ho → ended = false → come ((b.vb + f.ho - 1) * line + f.wo) → s.zoom.current = some rec →
        let sent := { s with otg := { s.otg with raster := .active r true, outPort := some .frameEnd } }
        exec .outputFrameEnd s = .next (if rec.underruns = 0 then sent else
          { sent with link := s.link.raise (.underrun rec.frame rec.underruns) })))

/-- R97, R99 to R101, R135, R136, R140, R141, R144, R145: a line start, at its pixel of Table 22 (in the count of entry 34),
sends line `r`: black where no source serves it, a source's or two sources' samples where every request of the line is
complete, and otherwise a copy of what was last sent, counted as an underrun. The line leaves the windows, and the next lines
the sources serve are requested. R140: which lines each source of a record serves. -/
def Obligations.LineStartSendsLine : Prop :=
  ∀ (s : State) (f : OutFormat) (b : Blanking) (rec : Record) (r : Nat), s.otg.format = some f →
    s.otg.blanking = some b → s.zoom.current = some rec → r < f.ho → 1000 * ((b.vb + r) * (f.wo + b.hb)) < s.otg.phase →
    (∃ q, s.otg.raster = .blanking q true ∧ r = 0)
      ∨ (∃ e, s.otg.raster = .active (r - 1) e ∧ 0 < r) →
    let refill := fun (w : Window) (x : Served) =>
      let lines := w.lines.filter fun l => l.line != r
      let n := min (4 - lines.length) (x.hi - w.next)
      (⟨lines ++ (List.range n).map fun k => ⟨rec.frame, w.next + k, .waiting⟩, w.next + n⟩ : Window)
    let sends := fun (luma u v : List Byte) (underruns : Nat) => exec .lineStart s = .next { s with
      zoom := { s.zoom with current := some { rec with underruns := underruns } }
      otg := { s.otg with raster := .active r false, outPort := some (.line r luma u v) }
      composer := {
        rp := refill s.composer.rp (rec.primaryServes f.ho), rs := refill s.composer.rs (rec.secondaryServes f.ho)
        lastLuma := some luma
        lastU := if r % 2 = 0 then some u else s.composer.lastU
        lastV := if r % 2 = 0 then some v else s.composer.lastV } }
    let bytes := fun xs : List Nat => xs.map fun x => BitVec.ofNat 8 x
    let first := (rec.primaryServes f.ho).has r
    let second := (rec.secondaryServes f.ho).has r
    (first = true ↔ rec.primary ≠ none ∧ ∀ a b split, rec.engine = .compare a b split → r < split) ∧
    (second = true ↔ rec.secondary ≠ none ∧
      ((∃ o i k n dir, rec.engine = .blend o i k n dir) ∨ ∃ a b split, rec.engine = .compare a b split ∧ split ≤ r)) ∧
    let chroma := fun n : Byte => if r % 2 = 0 then List.replicate (f.wo / 2) n else []
    (first = false → second = false → sends (List.replicate f.wo 16) (chroma 128) (chroma 128) rec.underruns) ∧
    (∀ e d g, first = true → second = false → rec.primary = some e → s.composer.rp.rowsOf r = some d →
      (s.port e.camera).format = some g →
      let x := sourceLine d e.geometry e.corr g f.wo r
      sends (bytes x.luma) (bytes x.u) (bytes x.v) rec.underruns) ∧
    (∀ e d g, first = false → second = true → rec.secondary = some e → s.composer.rs.rowsOf r = some d →
      (s.port e.camera).format = some g →
      let x := sourceLine d e.geometry e.corr g f.wo r
      sends (bytes x.luma) (bytes x.u) (bytes x.v) rec.underruns) ∧
    (∀ o i d d' g g', first = true → second = true → rec.primary = some o → rec.secondary = some i →
      s.composer.rp.rowsOf r = some d → s.composer.rs.rowsOf r = some d' → (s.port o.camera).format = some g →
      (s.port i.camera).format = some g' →
      let x := sourceLine d o.geometry o.corr g f.wo r
      let y := sourceLine d' i.geometry i.corr g' f.wo r
      let mix := fun p q : List Nat => bytes (List.zipWith (fun a b => (b * rec.weight + a * (256 - rec.weight) + 128) / 256) p q)
      sends (mix x.luma y.luma) (mix x.u y.u) (mix x.v y.v) rec.underruns) ∧
    ((first = true ∧ s.composer.rp.rowsOf r = none) ∨ (second = true ∧ s.composer.rs.rowsOf r = none) →
      sends (if r = 0 then List.replicate f.wo 16 else s.composer.lastLuma.getD (List.replicate f.wo 16))
        (if r % 2 = 0 then (if r = 0 then chroma 128 else s.composer.lastU.getD (chroma 128)) else [])
        (if r % 2 = 0 then (if r = 0 then chroma 128 else s.composer.lastV.getD (chroma 128)) else [])
        (rec.underruns + 1))

/-- R175, R176, Table 29: SET_FSYNC becomes the applied settings in CONFIG and the pending ones in RUN, with CLAMPED when an
output format is set whose limits would change them; a placed pulse takes the camera's line to the active level once, when
its offset has been counted, and back once, when offset and width have. The level is that of the applied polarity while
active and the other while not, so that a change of polarity in CONFIG changes the level at once. That a pulse event that
has no pulse, or whose count has not run out, leaves the state as it is is the model's choice (entry 4). -/
def Obligations.FrameSyncSetAndPulsed : Prop :=
  (∀ (s : State) (tag camera : Byte) (b : FsyncBody), s.canAccept → s.mode ≠ .booting →
    (3 < camera.toNat ∨ 1 < b.polarity.toNat ∨ b.width = 0 ∨ 1000 < b.width.toNat →
      exec (.setFsync tag camera b) s = .next (s.answered 0x09 tag .badField)) ∧
    (∀ (c : Cam) (f : OutFormat) (k : Blanking), camera.toNat = c.idx → b.polarity.toNat ≤ 1 → 1 ≤ b.width.toNat →
      b.width.toNat ≤ 1000 → s.otg.format = some f → s.otg.blanking = some k →
      let x : Fsync := ⟨decide (b.enable ≠ 0), decide (b.polarity = 1), b.offset.toNat, b.width.toNat⟩
      let pus := (f.wo + k.hb) * (f.ho + k.vb) * 1000 / f.rate
      let width := min b.width.toNat pus
      let clamped : Byte := if width = b.width.toNat ∧ min b.offset.toNat (pus - width) = b.offset.toNat then 0 else 1
      (s.mode = .config → exec (.setFsync tag camera b) s = .next
        (({ s with otg := { s.otg with fsync := s.otg.fsync.set c x } }).answered 0x09 tag .ok [clamped])) ∧
      (s.mode = .run → exec (.setFsync tag camera b) s = .next
        (({ s with otg := { s.otg with fsyncPending := s.otg.fsyncPending.set c (some x) } }).answered 0x09 tag .ok
          [clamped]))) ∧
    (∀ c : Cam, camera.toNat = c.idx → b.polarity.toNat ≤ 1 → 1 ≤ b.width.toNat → b.width.toNat ≤ 1000 →
      s.otg.format = none → s.mode = .config →
      let x : Fsync := ⟨decide (b.enable ≠ 0), decide (b.polarity = 1), b.offset.toNat, b.width.toNat⟩
      exec (.setFsync tag camera b) s = .next
        (({ s with otg := { s.otg with fsync := s.otg.fsync.set c x } }).answered 0x09 tag .ok [0]))) ∧
  (∀ (s : State) (c : Cam) (p : Pulse), s.otg.pulse.get c = some p →
    (p.started = false → p.offset ≤ p.elapsed → exec (.fsyncPulseStart c) s = .next { s with otg := { s.otg with
      pulse := s.otg.pulse.set c (some { p with started := true }), lineActive := s.otg.lineActive.set c true } }) ∧
    (p.started = true → p.ended = false → p.offset + p.width ≤ p.elapsed →
      exec (.fsyncPulseEnd c) s = .next { s with otg := { s.otg with
        pulse := s.otg.pulse.set c (some { p with ended := true }), lineActive := s.otg.lineActive.set c false } }) ∧
    (p.started = true ∨ p.elapsed < p.offset → exec (.fsyncPulseStart c) s = .next s) ∧
    (p.started = false ∨ p.ended = true ∨ p.elapsed < p.offset + p.width → exec (.fsyncPulseEnd c) s = .next s)) ∧
  (∀ (s : State) (c : Cam), s.otg.pulse.get c = none →
    exec (.fsyncPulseStart c) s = .next s ∧ exec (.fsyncPulseEnd c) s = .next s) ∧
  (∀ (o : Otg) (c : Cam), let levels := fun active inactive => o.fsyncLevel c = if o.lineActive.get c then active else inactive
    ((o.fsync.get c).high = true → levels true false) ∧ ((o.fsync.get c).high = false → levels false true)) ∧
  (∀ (s : State) (c : Cam) (p : Pulse), s.otg.pulse.get c = some p →
    let drives := fun (i : Instr) (level : Bool) => ∃ t, exec i s = .next t ∧ t.otg.fsyncLevel c = level ∧
      ∀ d, d ≠ c → t.otg.fsyncLevel d = s.otg.fsyncLevel d
    let high := (s.otg.fsync.get c).high
    (p.started = false → p.offset ≤ p.elapsed → drives (.fsyncPulseStart c) high) ∧
    (p.started = true → p.ended = false → p.offset + p.width ≤ p.elapsed → drives (.fsyncPulseEnd c) !high)) ∧
  (∀ (s : State) (tag camera : Byte) (b : FsyncBody) (c : Cam), s.canAccept → camera.toNat = c.idx → b.polarity.toNat ≤ 1 →
    1 ≤ b.width.toNat → b.width.toNat ≤ 1000 → s.otg.lineActive.get c = false →
    ∃ t, exec (.setFsync tag camera b) s = .next t ∧
      (s.mode = .config → t.otg.fsyncLevel c = !decide (b.polarity = 1)) ∧
      (s.mode = .run → t.otg.fsyncLevel c = s.otg.fsyncLevel c))

/-! ### Zoom Controller: requests (chapters 03, 04 and 05) -/

/-- R42 to R45: ZOOM_TO appends a segment, or replaces the whole queue, with its target clamped into the field range and then
to the zoom bounds and its frame count at least 1; a ninth APPEND is refused and a REPLACE never; ZOOM_CANCEL empties the
queue and rests at the zoom applied last. -/
def Obligations.ZoomRampRequests : Prop :=
  ∀ (s : State) (tag : Byte) (target frames : Half), s.canAccept → s.mode = .run →
    let field := max 256 (min 40960 target.toNat)
    let lo := s.zoomBounds.1
    let hi := s.zoomBounds.2
    let goal := if field < lo then lo else if hi < field then hi else field
    let count := max 1 frames.toNat
    let body := fun n : Nat => bytes16 (BitVec.ofNat 16 goal) ++ bytes16 (BitVec.ofNat 16 count)
      ++ [if goal = target.toNat ∧ field = target.toNat then 0 else 1, BitVec.ofNat 8 n]
    let queued := fun queue : List Segment =>
      Host.Outcome.next (({ s with zoom := { s.zoom with queue := queue } }).answered 0x10 tag .ok (body queue.length))
    (s.zoom.queue.length < 8 → exec (.zoomToAppend tag target frames 0) s =
      queued (s.zoom.queue ++ [⟨goal, count, .append, none⟩])) ∧
    (8 ≤ s.zoom.queue.length → exec (.zoomToAppend tag target frames 0) s = .next (s.answered 0x10 tag .queueFull)) ∧
    exec (.zoomToReplace tag target frames) s = queued [⟨goal, count, .replace, none⟩] ∧
    (∀ mode : Byte, 1 < mode.toNat →
      exec (.zoomToAppend tag target frames mode) s = .next (s.answered 0x10 tag .badField)) ∧
    (∀ r, s.zoom.current = some r → exec (.zoomCancel tag) s = .next
      (({ s with zoom := { s.zoom with queue := [], rest := r.applied } }).answered 0x11 tag .ok
        (BitVec.ofNat 8 s.zoom.queue.length :: bytes16 (BitVec.ofNat 16 r.applied))))

/-- R82: SET_HANDOFF refuses margins out of range or order, clamps the other three fields, and stores the values as pending;
the reply carries them with the CLAMPED flag. R76: SET_VIEW replaces the view mode with one of eligible cameras, in COMPARE
two that differ, overlap (by the M in use, entry 39) and split within the output height; otherwise it is refused and the
view stands. That the bytes a mode does not use are not looked at is the model's choice (entry 48). R77 to R79: the view
step. View COMPARE is entered by a CUT from the current primary when both cameras serve and their ranges overlap; with
ranges that overlap no more the view goes back to NORMAL; until both serve the loss and state steps act as under NORMAL; in
COMPARE the split row is that of the view, one camera lost is a CUT to the other and both are a FALLBACK; another view
leaves COMPARE to its first camera. That the view step goes on as under NORMAL at once when the two ranges overlap no more,
an engine in COMPARE of another pair included, is the model's reading (DEDUCED, entry 20): R78 does not say what the same
view step does next. -/
def Obligations.SetHandoffAndView : Prop :=
  (∀ (s : State) (tag : Byte) (b : HandoffBody), s.canAccept → s.mode ≠ .booting →
    let blend := max 1 (min 32 b.blend.toNat)
    let prepare := max 1 (min 16 b.prepare.toNat)
    let latency := min 100000 b.latency.toNat
    (256 < b.up.toNat ∨ b.up.toNat ≤ b.down.toNat →
      exec (.setHandoff tag b) s = .next (s.answered 0x07 tag .badField)) ∧
    (b.up.toNat ≤ 256 → b.down.toNat < b.up.toNat →
      exec (.setHandoff tag b) s = .next
        (({ s with zoom := { s.zoom with pendingSettings := some ⟨b.up.toNat, b.down.toNat, blend, prepare, latency⟩ } }).answered
          0x07 tag .ok (bytes16 b.up ++ [b.down, BitVec.ofNat 8 blend, BitVec.ofNat 8 prepare]
            ++ bytes32 (BitVec.ofNat 32 latency)
            ++ [if blend = b.blend.toNat ∧ prepare = b.prepare.toNat ∧ latency = b.latency.toNat then 0 else 1])))) ∧
  (∀ (s : State) (tag first second : Byte) (split : Half) (o : OutFormat), s.canAccept → s.mode = .run →
    s.otg.format = some o →
    let views := fun (mode : Byte) (v : View) => exec (.setView tag mode first second split) s = .next
      (({ s with zoom := { s.zoom with view := v } }).answered 0x13 tag .ok)
    let refused := fun mode : Byte =>
      exec (.setView tag mode first second split) s = .next (s.answered 0x13 tag .badField)
    views 0 .normal ∧
    (∀ mode : Byte, 2 < mode.toNat → refused mode) ∧
    (3 < first.toNat → refused 1 ∧ refused 2) ∧
    (3 < second.toNat → refused 2) ∧
    (∀ a : Cam, first.toNat = a.idx → (s.eligible a = true → views 1 (.locked a)) ∧ (s.eligible a = false → refused 1)) ∧
    (∀ a b : Cam, first.toNat = a.idx → second.toNat = b.idx →
      let overlap := max (s.mOf a) (s.mOf b) ≤ min (s.zmaxOf a) (s.zmaxOf b)
      let ok := s.eligible a = true ∧ s.eligible b = true ∧ a ≠ b ∧ split.toNat ≤ o.ho ∧ overlap
      (ok → views 2 (.compare a b split.toNat)) ∧ (¬ ok → refused 2))) ∧
  (∀ (s : State) (x : HandoffIn),
    let up := fun c : Cam => (s.port c).state = .streaming
    let serves := fun c : Cam => (s.port c).state = .streaming ∧ (s.zoom.selection.get c).isSome = true
    let settles := fun (e : Engine) (cut : Option Cam) (corr : CorrStep) (ns : List Notice) (forcing : Bool) =>
      s.handoff x = ⟨e, cut, s.zoom.view, corr, ns, none, forcing⟩
    let chosen := fun f : Cam => serves f ∧
      ((s.mOf f ≤ x.zc ∧ ∀ d, f.idx < d.idx → serves d → x.zc < s.mOf d) ∨
        ((∀ d, serves d → x.zc < s.mOf d) ∧ ∀ d, d.idx < f.idx → ¬ serves d))
    let falls := fun lost : Cam =>
      (∀ f, chosen f → settles (.steady f) none (.measure f) [.handoff .fallback (some lost) (some f) x.frame] true) ∧
      ((∀ c, ¬ serves c) → settles .frozen none .keep [.handoff .frozen (some lost) none x.frame] false)
    let normal : Verdict := ({ s with zoom := { s.zoom with view := .normal } }).handoff x
    (∀ a b split, s.zoom.view = .compare a b split → s.zoom.engine ≠ .stopped →
      let overlap := max (s.mOf a) (s.mOf b) ≤ min (s.zmaxOf a) (s.zmaxOf b)
      let there := ∃ n, s.zoom.engine = .compare a b n
      let waits := ¬ (serves a ∧ serves b) ∧ (s.eligible a = true → s.eligible b = true → overlap)
      (¬ there → serves a → serves b → overlap → settles (.compare a b split) none .identity
        [.handoff .cut ((s.zoom.current.bind Record.primary).map SourceEntry.camera) (some a) x.frame] true) ∧
      (¬ there → s.eligible a = true → s.eligible b = true → ¬ overlap → s.handoff x = normal) ∧
      (¬ there → waits → (∀ c d n, s.zoom.engine ≠ .compare c d n) →
        s.handoff x = { normal with view := .compare a b split }) ∧
      (∀ c d n, s.zoom.engine = .compare c d n → (c = a ∧ d = b) ∨ (¬ there ∧ waits) →
        (up c → up d → settles (.compare c d split) s.zoom.pendingCut .identity [] false) ∧
        (¬ up c → up d → settles (.steady d) none .identity [.handoff .cut (some c) (some d) x.frame] true) ∧
        (up c → ¬ up d → settles (.steady c) none .identity [.handoff .cut (some d) (some c) x.frame] true) ∧
        (¬ up c → ¬ up d → falls c))) ∧
    (∀ c d n, (∀ a b split, s.zoom.view ≠ .compare a b split) → s.zoom.engine = .compare c d n →
      (up c → settles (.steady c) none .identity [] false) ∧ (¬ up c → falls c)))

/-- R86: SET_DISTANCE keeps 0 and 100 to 65535 and takes 1 to 99 as 100; the reply carries the value taken, with CLAMPED when
it differs; nothing else changes, so that the next boundary's geometry reads it and of two requests the second is in force;
in BOOTING it is refused. -/
def Obligations.SetDistanceTaken : Prop :=
  (∀ (s : State) (tag : Byte) (d : Half), s.canAccept →
    let taken := fun (n : Nat) (clamped : Byte) => exec (.setDistance tag d) s = .next
      (({ s with zoom := { s.zoom with distance := n } }).answered 0x12 tag .ok
        (bytes16 (BitVec.ofNat 16 n) ++ [clamped]))
    (s.mode = .booting → exec (.setDistance tag d) s = .next (s.answered 0x12 tag .wrongMode)) ∧
    (s.mode ≠ .booting → d = 0 → taken 0 0) ∧
    (s.mode ≠ .booting → 1 ≤ d.toNat → d.toNat ≤ 99 → taken 100 1) ∧
    (s.mode ≠ .booting → 100 ≤ d.toNat → taken d.toNat 0)) ∧
  (∀ (s : State) (c : Cam) (z : Nat) (f : Format) (k : Cal) (o : OutFormat), (s.port c).format = some f →
    (s.port c).cal = some k → s.otg.format = some o →
    s.geometry c z = geometryOf ⟨f.ws, f.hs, k.m, k.cx, k.cy, k.px, k.py, s.zoom.distance, z, o.wo, o.ho⟩)

/-! ### Zoom Controller: the arithmetic and the engine (chapters 03 to 06) -/

/-- R47: the ramp step: the head of the queue becomes active with the zoom applied last as its start value and step count 0,
when it is not active yet, and its target and the rest value are clamped to the bounds, with a CLAMPED notice (R51) for each
that changes, the target's first (DESIGN CHOICE, entry 40). R48: the candidate of an active segment, and of none. R49: the
advance: the step count rises by one, and a segment that has made its last step leaves the queue, its target the rest value.
A segment's candidates move from the start value toward the target, never past it, and the last one is the
target; an applied zoom lies in the window, and is the candidate when that lies in it. R41, R56, R57, R58, Table 16: the zoom
bounds, the up and down thresholds, the fresh choice and the window of each engine state, from the cameras that are
configured and not FAULTED, with the M in use and the effective service maxima as they stand: the M of the calibration part,
or until the next boundary the one from before a replacement in RUN (R4; entry 39). -/
def Obligations.RampReachesTarget : Prop :=
  (∀ (bounds : Nat × Nat) (zs : Nat) (frame : Word) (rest : Nat),
    let clamped := fun v : Nat => if v < bounds.1 then bounds.1 else if bounds.2 < v then bounds.2 else v
    let note := fun v : Nat => if clamped v = v then [] else [Notice.zoomLimit .clamped (clamped v) frame]
    rampStart bounds zs frame [] rest = ([], clamped rest, note rest) ∧
    rampCandidate [] rest = rest ∧ rampAdvance [] rest = ([], rest) ∧
    (∀ (g : Segment) (tail : List Segment),
      let progress := match g.progress with | some p => p | none => ⟨zs, 0⟩
      rampStart bounds zs frame (g :: tail) rest =
        ({ g with target := clamped g.target, progress := some progress } :: tail, clamped rest, note g.target ++ note rest)) ∧
    (∀ (g : Segment) (p : Progress) (tail : List Segment), g.progress = some p →
      rampCandidate (g :: tail) rest = candidateOf p.zs g.target g.frames p.i ∧
      (p.i + 1 < g.frames →
        rampAdvance (g :: tail) rest = ({ g with progress := some { p with i := p.i + 1 } } :: tail, rest)) ∧
      (g.frames ≤ p.i + 1 → rampAdvance (g :: tail) rest = (tail, g.target)))) ∧
  (∀ zs target frames i : Nat, candidateOf zs target frames i =
    if zs ≤ target then zs + ((target - zs) * (i + 1) + frames / 2) / frames
    else zs - ((zs - target) * (i + 1) + frames / 2) / frames) ∧
  (∀ zs target frames : Nat, 1 ≤ frames →
    candidateOf zs target frames (frames - 1) = target ∧
    (∀ i j, i ≤ j → j < frames →
      (zs ≤ target → zs ≤ candidateOf zs target frames i ∧ candidateOf zs target frames i ≤ candidateOf zs target frames j
        ∧ candidateOf zs target frames j ≤ target) ∧
      (target ≤ zs → candidateOf zs target frames i ≤ zs ∧ candidateOf zs target frames j ≤ candidateOf zs target frames i
        ∧ target ≤ candidateOf zs target frames j))) ∧
  (∀ (lo hi last zc : Nat) (forcing : Bool), lo ≤ hi →
    let w := windowZoom (some (lo, hi)) last zc forcing
    lo ≤ w.applied ∧ w.applied ≤ hi ∧
    (lo ≤ zc → zc ≤ hi → w = ⟨zc, false, false⟩) ∧
    (zc < lo → w = ⟨lo, !forcing, forcing⟩) ∧ (hi < zc → w = ⟨hi, !forcing, forcing⟩)) ∧
  (∀ s : State,
    let eligible := fun c : Cam => (s.port c).format ≠ none ∧ (s.port c).cal ≠ none ∧ (s.port c).state ≠ .faulted
    let widest := fun c : Cam => eligible c ∧ ∀ d, d.idx < c.idx → ¬ eligible d
    let narrowest := fun c : Cam => eligible c ∧ ∀ d, c.idx < d.idx → ¬ eligible d
    let free := ∀ c, s.zoom.view ≠ .locked c
    let margins := s.zoom.settings
    (∀ c k, (s.port c).cal = some k → s.zoom.priorM.get c = none → s.mOf c = k.m) ∧
    (∀ c m, s.zoom.priorM.get c = some m → s.mOf c = m) ∧ (∀ c z, s.zoom.zmax.get c = some z → s.zmaxOf c = z) ∧
    (∀ c z, s.zoom.view = .locked c → s.zoomBounds = (s.mOf c, s.zmaxOf c) ∧ s.freshChoice z = some c) ∧
    (∀ w n, free → widest w → narrowest n → s.zoomBounds = (s.mOf w, s.zmaxOf n)) ∧
    (∀ z, free → (∀ c, ¬ eligible c) → s.zoomBounds = (256, 40960) ∧ s.freshChoice z = none) ∧
    (∀ n c, eligible c → c.idx < n.idx → (∀ d, c.idx < d.idx → d.idx < n.idx → ¬ eligible d) →
      s.upOf n = min ((s.mOf n * (1024 + margins.up) + 512) / 1024) (s.zmaxOf c) ∧
      s.downOf n = min ((s.mOf n * (1024 + margins.down) + 512) / 1024) (s.zmaxOf c)) ∧
    (∀ n, (∀ d, d.idx < n.idx → ¬ eligible d) → s.upOf n = s.mOf n ∧ s.downOf n = s.mOf n) ∧
    (∀ n z, free → eligible n → s.upOf n ≤ z → (∀ d, n.idx < d.idx → eligible d → z < s.upOf d) → s.freshChoice z = some n) ∧
    (∀ w z, free → widest w → (∀ d, eligible d → z < s.upOf d) → s.freshChoice z = some w) ∧
    (∀ p, s.window (.steady p) = some (s.mOf p, s.zmaxOf p)) ∧
    (∀ o i n b, s.window (.prepare o i n b) = some (s.mOf o, s.zmaxOf o)) ∧
    (∀ o i k n dir, s.window (.blend o i k n dir) =
      some (max (s.mOf o) (s.mOf i), min (s.zmaxOf o) (s.zmaxOf i))) ∧
    (∀ a b split, s.window (.compare a b split) =
      some (max (s.mOf a) (s.mOf b), min (s.zmaxOf a) (s.zmaxOf b))) ∧ s.window .frozen = none)

/-- R61 to R75, R83, Table 14, Table 17: the hand-off stage outside view COMPARE, clause by clause for the engine state. STEADY:
loss, the target with its hysteresis, the step camera, the entry into PREPARE, the wait for a cut. PREPARE: loss of either
camera, return, retarget, the fresh frames counted and BEGIN. BLEND: loss of one or both, direction (of the lock in LOCKED),
progress and ends. FROZEN: the thaw. STOPPED: the first boundary. Each clause gives the settled state, the pending cut target,
the correction step, the notices, the start asked for and whether the transition forces the zoom. R67 read against R65 (a
camera that is not STREAMING never begins a blend) is DEDUCED (entry 41), and so is that a step camera found ends a wait for
a cut even while the engine stays (entry 19). -/
def Obligations.HandoffInBlendAndLoss : Prop :=
  ∀ (s : State) (x : HandoffIn), (∀ a b split, s.zoom.view ≠ .compare a b split) →
    let up := fun c : Cam => (s.port c).state = .streaming
    let serves := fun c : Cam => (s.port c).state = .streaming ∧ (s.zoom.selection.get c).isSome = true
    let settles := fun (e : Engine) (cut : Option Cam) (corr : CorrStep) (ns : List Notice) (start : Option Cam)
        (forcing : Bool) => s.handoff x = ⟨e, cut, s.zoom.view, corr, ns, start, forcing⟩
    let note := fun (e : HandoffEvent) (source goal : Option Cam) => Notice.handoff e source goal x.frame
    let chosen := fun f : Cam => serves f ∧
      ((s.mOf f ≤ x.zc ∧ ∀ d, f.idx < d.idx → serves d → x.zc < s.mOf d) ∨
        ((∀ d, serves d → x.zc < s.mOf d) ∧ ∀ d, d.idx < f.idx → ¬ serves d))
    let falls := fun lost : Cam =>
      (∀ f, chosen f → settles (.steady f) none (.measure f) [note .fallback (some lost) (some f)] none true) ∧
      ((∀ c, ¬ serves c) → settles .frozen none .keep [note .frozen (some lost) none] none false)
    let target := fun p : Cam => match s.zoom.view, s.freshChoice x.zc with
      | .locked c, _ => c
      | _, some f => if p.idx < f.idx ∨ x.zc < s.downOf p then f else p
      | _, none => p
    let eligible := fun c : Cam => (s.port c).format ≠ none ∧ (s.port c).cal ≠ none ∧ (s.port c).state ≠ .faulted
    let overlap := fun c d : Cam => max (s.mOf c) (s.mOf d) ≤ min (s.zmaxOf c) (s.zmaxOf d)
    let way := fun p t c : Cam => (p.idx < c.idx ∧ c.idx ≤ t.idx) ∨ (t.idx ≤ c.idx ∧ c.idx < p.idx)
    let nearer := fun p c d : Cam => (p.idx < c.idx ∧ c.idx < d.idx) ∨ (d.idx < c.idx ∧ c.idx < p.idx)
    let steps := fun p i : Cam => target p ≠ p ∧ ((overlap (target p) p ∧ i = target p) ∨
      (¬ overlap (target p) p ∧ way p (target p) i ∧ eligible i ∧ overlap i p ∧
        ∀ d, way p (target p) d → nearer p d i → ¬ (eligible d ∧ overlap d p)))
    let stuck := fun p : Cam => target p ≠ p ∧ ¬ overlap (target p) p ∧
      ∀ d, way p (target p) d → ¬ (eligible d ∧ overlap d p)
    let ready := fun c : Cam => (s.port c).state = .off ∨ (s.port c).state = .loading ∨ (s.port c).state = .waiting ∨ up c
    let asks := fun c : Cam => if (s.port c).state = .off then [Notice.prepareNeeded c] else []
    let starts := fun c : Cam =>
      if (s.port c).state = .off ∧ (s.port c).cal.any Cal.autoStart = true then some c else none
    let prepares := fun o i : Cam => settles (.prepare o i 0 (decide ((s.port i).state ≠ .off))) none .dropIncoming
      (note .prepare (some o) (some i) :: asks i) (starts i) false
    let returns := fun o i : Cam => settles (.steady o) none .relax [note .returned (some i) (some o)] none false
    (∀ p, s.zoom.engine = .steady p →
      (¬ up p → falls p) ∧
      (up p → target p = p → settles (.steady p) none .relax [] none false) ∧
      (up p → ∀ i, steps p i → (ready i → prepares p i) ∧ (¬ ready i → settles (.steady p) none .relax [] none false)) ∧
      (up p → stuck p → let t := target p
        let again := s.zoom.pendingCut = some t
        (serves t → settles (.steady t) none .identity [note .cut (some p) (some t)] none true) ∧
        (¬ serves t → settles (.steady p) (some t) .relax (if again then [] else asks t) (if again then none else starts t)
          false))) ∧
    (∀ o i count started, s.zoom.engine = .prepare o i count started →
      let lost := (s.port i).state = .stalled ∨ (s.port i).state = .faulted ∨ (s.port i).state = .stopping
        ∨ ((s.port i).state = .off ∧ started = true)
      let isNew := x.fresh.get i = true
      let count' := if isNew then count + 1 else count
      let corr : CorrStep := if isNew then .smooth o i else .keep
      (¬ up o → serves i → settles (.steady i) none .take [note .cut (some o) (some i)] none true) ∧
      (¬ up o → ¬ serves i → falls o) ∧
      (up o → lost → returns o i) ∧
      (up o → ¬ lost → target o = o ∨ stuck o → returns o i) ∧
      (up o → ¬ lost → ∀ r, r ≠ i → steps o r → (ready r → prepares o r) ∧ (¬ ready r → returns o i)) ∧
      (up o → ¬ lost → steps o i →
        (¬ up i → settles (.prepare o i count (started || decide ((s.port i).state ≠ .off))) none .keep [] none false) ∧
        (up i → count' < s.zoom.settings.prepare → settles (.prepare o i count' true) none corr [] none false) ∧
        (up i → s.zoom.settings.prepare ≤ count' → settles (.blend o i 0 s.zoom.settings.blend .forward) none corr
          [note .begin (some o) (some i)] none false))) ∧
    (∀ o i k n dir, s.zoom.engine = .blend o i k n dir →
      let back := if s.zoom.view = .locked i then false else if s.zoom.view = .locked o then true
        else if o.idx < i.idx then
          (match dir with | .forward => decide (x.zc < s.downOf i) | .back => decide (x.zc < s.upOf i))
        else (match dir with | .forward => decide (s.upOf o ≤ x.zc) | .back => decide (s.downOf o ≤ x.zc))
      let turn : List Notice := match dir, back with
        | .forward, true => [note .reverse (some o) (some i)]
        | .back, false => [note .resume (some o) (some i)]
        | _, _ => []
      (¬ up o → up i → settles (.steady i) none .take [note .cut (some o) (some i)] none true) ∧
      (up o → ¬ up i → settles (.steady o) none .dropIncoming [note .cut (some i) (some o)] none true) ∧
      (¬ up o → ¬ up i → falls o) ∧
      (up o → up i →
        (back = false → n ≤ k + 1 → settles (.steady i) none .takeAndRelax
          (turn ++ [note .complete (some o) (some i)]) none false) ∧
        (back = false → k + 1 < n → settles (.blend o i (k + 1) n .forward) none .keep turn none false) ∧
        (back = true → 1 < k → settles (.blend o i (k - 1) n .back) none .keep turn none false) ∧
        (back = true → k ≤ 1 → settles (.steady o) none .relax (turn ++ [note .returned (some i) (some o)]) none false))) ∧
    (s.zoom.engine = .frozen →
      (∀ f, chosen f → settles (.steady f) none (.measure f) [note .thaw none (some f)] none true) ∧
      ((∀ c, ¬ serves c) → settles .frozen none .keep [] none false)) ∧
    (s.zoom.engine = .stopped →
      (∀ f, s.freshChoice x.zc = some f → serves f → settles (.steady f) none .identity [] none false) ∧
      ((∀ f, s.freshChoice x.zc = some f → ¬ serves f) →
        (∀ f, chosen f → settles (.steady f) none .identity [note .fallback none (some f)] none true) ∧
        ((∀ c, ¬ serves c) → settles .frozen none .identity [note .frozen none none] none false)))

/-- R54, R87 to R92: the crop width, rounded down to even and clamped, the crop height with the aspect branch, the parallax
offset with its rounding and its clamp, the origin with the edge flags and the two steps. Every crop lies wholly inside the
active area, an edge flag is clear exactly while the origin was not moved, and at a zoom up to the effective service maximum
the crop is enlarged eightfold at most, but for the rounding of its width down to an even number. That last bound stands in
place of the Wc at least Wo / 8 that R87 and R92 state, which does not follow from the formulas: it is the model's reading
(DEDUCED, entry 37). -/
def Obligations.CropInsideActiveArea : Prop :=
  ∀ x : GeometryIn, 64 ≤ x.ws → x.ws % 2 = 0 → 64 ≤ x.hs → x.hs % 2 = 0 → 256 ≤ x.m → 256 ≤ x.z →
    640 ≤ x.wo → x.wo ≤ 3840 → x.wo % 2 = 0 → 360 ≤ x.ho → x.ho ≤ 2160 → x.ho % 2 = 0 →
    let g := geometryOf x
    16 ≤ g.wc ∧ g.wc ≤ x.ws ∧ g.wc % 2 = 0 ∧ 2 ≤ g.hc ∧ g.hc ≤ x.hs ∧ g.hc % 2 = 0 ∧
    g.x0 + 16 * g.wc ≤ 16 * x.ws ∧ g.y0 + 16 * g.hc ≤ 16 * x.hs ∧
    let even := fun n : Nat => n - n % 2
    let scaled := even ((x.ws * x.m + x.z / 2) / x.z)
    let wide := if scaled < 16 then 16 else if x.ws < scaled then x.ws else scaled
    let high := even ((wide * x.ho + x.wo / 2) / x.wo)
    let shift := fun p : Int => if x.d = 0 then 0 else
      let size : Int := ((p.natAbs * 1000 + x.d / 2) / x.d : Nat)
      max (-4096) (min 4096 (if p < 0 then -size else size))
    let rawX : Int := 8 * x.ws + x.cx + shift x.px - 8 * g.wc
    let rawY : Int := 8 * x.hs + x.cy + shift x.py - 8 * g.hc
    (high ≤ x.hs → g.wc = wide ∧ g.hc = high) ∧
    (x.hs < high → g.wc = even ((x.hs * x.wo + x.ho / 2) / x.ho) ∧ g.hc = x.hs) ∧
    (g.x0 : Int) = max 0 (min (16 * ((x.ws : Int) - g.wc)) rawX) ∧
    (g.y0 : Int) = max 0 (min (16 * ((x.hs : Int) - g.hc)) rawY) ∧
    (g.edgeX = false ↔ (g.x0 : Int) = rawX) ∧ (g.edgeY = false ↔ (g.y0 : Int) = rawY) ∧
    g.sx = (g.wc * 65536 + x.wo / 2) / x.wo ∧ g.sy = (g.hc * 65536 + x.ho / 2) / x.ho ∧
    (x.m ≤ x.z → x.z * x.wo ≤ x.m * x.ws * 8 → x.wo ≤ 8 * wide + 11)

/-- R93 to R97, R99, R100, R110, R116: an interpolated sample lies between its neighbours and a blended one between its two
samples, exact at the ends; the identity correction changes nothing; a correction relaxes without passing identity, a gain
in at most 28 steps and an offset in at most 13, and the mark is then cleared. R93 to R97: the source coordinates of luma and
chroma, the two passes of the interpolation with the last row and column repeated, and the samples of a source's share of a
line; a sample is read from the first held row of its number. R23, R107: a row adds all its samples to the frame's sums, and
those of its lines and columns to the region's. R106 to R108: the region rectangle latched at a frame start, inside the active
area, and the rounding of a mean. R111 to R115, R80: which means a measurement compares, the
correction it gives and its mark, the smoothing step, and the two records after the correction update stage. That a
measurement at FALLBACK or THAW with no mean substituted clears the mark, as R114 says, against R109, is DEDUCED (entry 42). -/
def Obligations.SampleAndCorrectionArithmetic : Prop :=
  (∀ a b f : Nat, f ≤ 256 → min a b ≤ lerp a b f ∧ lerp a b f ≤ max a b ∧ lerp a b 0 = a) ∧
  (∀ w p q : Nat, w ≤ 256 → blendSample w p q = (q * w + p * (256 - w) + 128) / 256
    ∧ min p q ≤ blendSample w p q ∧ blendSample w p q ≤ max p q ∧ blendSample 0 p q = p ∧ blendSample 256 p q = q) ∧
  (∀ y : Nat, y ≤ 255 → corrLuma 1024 y = y ∧ corrChroma 0 y = y) ∧
  (∀ (g y : Nat) (o : Int) (c : Nat), corrLuma g y = min 255 ((y * g + 512) / 1024)
    ∧ (corrChroma o c : Int) = max 0 (min 255 (c + o)) ∧ corrLuma g y ≤ 255 ∧ corrChroma o c ≤ 255) ∧
  (∀ (g : Geometry) (f : Format) (p : Nat → Nat → Nat) (j r : Nat),
    let sampled := fun (factor width height : Nat) =>
      let place := fun (origin step n : Nat) =>
        (max 0 ((origin : Int) * factor + n * step + step / 2 - 32768)).toNat
      let u := place g.x0 g.sx j
      let v := place g.y0 g.sy r
      let mix := fun (a b coordinate : Nat) =>
        let part := coordinate % 65536 / 256
        (a * (256 - part) + b * part + 128) / 256
      let across := fun row : Nat =>
        if width - 1 ≤ u / 65536 then p row (width - 1) else mix (p row (u / 65536)) (p row (u / 65536 + 1)) u
      if height - 1 ≤ v / 65536 then across (height - 1) else mix (across (v / 65536)) (across (v / 65536 + 1)) v
    resample (lumaColumns g f) (lumaRows g f) p j r = sampled 4096 f.ws f.hs ∧
    resample (chromaColumns g f) (chromaRows g f) p j r = sampled 2048 (f.ws / 2) (f.hs / 2)) ∧
  (∀ (d : ReadData) (g : Geometry) (k : Corr) (f : Format) (wo r : Nat),
    let x := sourceLine d g k f wo r
    x.luma.length = wo ∧ (r % 2 = 0 → x.u.length = wo / 2 ∧ x.v.length = wo / 2) ∧ (r % 2 = 1 → x.u = [] ∧ x.v = []) ∧
    (∀ j, j < wo → x.luma[j]? = some (corrLuma k.g (resample (lumaColumns g f) (lumaRows g f) (sampleIn d.luma) j r))) ∧
    (∀ j, r % 2 = 0 → j < wo / 2 →
      x.u[j]? = some (corrChroma k.oU (resample (chromaColumns g f) (chromaRows g f) (sampleIn d.u) j (r / 2))) ∧
      x.v[j]? = some (corrChroma k.oV (resample (chromaColumns g f) (chromaRows g f) (sampleIn d.v) j (r / 2))))) ∧
  (∀ (pre post : List Span) (x : Span) (n : Nat) (y : Byte), (∀ z ∈ pre, z.row ≠ x.row) → x.samples[n]? = some y →
    sampleIn (pre ++ x :: post) x.row (x.first + n) = y.toNat) ∧
  (∀ (sums : Sums) (region : Option Region) (r : Nat) (d : RowData),
    let out := sums.add region r d
    let grown := fun (t : Tally) (xs : List Byte) (member : Nat → Bool) =>
      let js := (List.range xs.length).filter member
      (⟨t.sum + (js.map fun j => (xs.getD j 0).toNat).sum, t.count + js.length⟩ : Tally)
    out.full = ⟨grown sums.full.y d.luma fun _ => true, grown sums.full.u d.u fun _ => true,
      grown sums.full.v d.v fun _ => true⟩ ∧
    (region = none → out.region = sums.region) ∧
    (∀ g, region = some g → 1 ≤ g.wr → 1 ≤ g.hr →
      let columns := fun step j : Nat => decide (g.xr ≤ step * j ∧ step * j < g.xr + g.wr)
      (g.yr ≤ r → r < g.yr + g.hr → out.region = ⟨grown sums.region.y d.luma (columns 1),
        grown sums.region.u d.u (columns 2), grown sums.region.v d.v (columns 2)⟩) ∧
      (r < g.yr ∨ g.yr + g.hr ≤ r → out.region = sums.region))) ∧
  (∀ k : Corr, k.Law →
    (k.g ≤ 1024 → k.g ≤ k.relax.g ∧ k.relax.g ≤ 1024) ∧ (1024 ≤ k.g → 1024 ≤ k.relax.g ∧ k.relax.g ≤ k.g) ∧
    ((Corr.relax^[28]) k).g = 1024 ∧ ((Corr.relax^[13]) k).oU = 0 ∧ ((Corr.relax^[13]) k).oV = 0
    ∧ (Corr.relax^[28]) k = ⟨1024, 0, 0, false⟩) ∧
  (∀ (s : State) (c : Cam),
    let known := fun n : Cam => (s.port n).format ≠ none ∧ (s.port n).cal ≠ none
    (∀ (f : Format) (k x : Cal) (n : Cam), (s.port c).format = some f → (s.port c).cal = some k → c.idx < n.idx → known n →
      (s.port n).cal = some x →
      (∀ d, c.idx < d.idx → d.idx < n.idx → ¬ known d) →
      let side := fun size : Nat =>
        let r := (size * k.m + x.m / 2) / x.m
        max 2 (r - r % 2)
      let first := fun (size : Nat) (centre : Int) =>
        let edge : Int := max 0 (min (16 * ((size : Int) - side size)) (8 * size + centre - 8 * side size))
        (edge.toNat + 8) / 16
      s.regionNow c = some ⟨first f.ws k.cx, first f.hs k.cy, side f.ws, side f.hs⟩ ∧
      (2 ≤ f.ws → f.ws % 2 = 0 → 2 ≤ f.hs → f.hs % 2 = 0 → 1 ≤ k.m → k.m < x.m →
        first f.ws k.cx + side f.ws ≤ f.ws ∧ first f.hs k.cy + side f.hs ≤ f.hs)) ∧
    ((∀ n, c.idx < n.idx → ¬ known n) → s.regionNow c = none)) ∧
  (∀ t : Tally, t.count ≠ 0 → t.mean = (t.sum + t.count / 2) / t.count ∧ 2 * t.mean * t.count ≤ 2 * t.sum + t.count
    ∧ 2 * t.sum < (2 * t.mean + 1) * t.count ∧ (t.sum ≤ 255 * t.count → t.mean ≤ 255)) ∧
  (∀ (r i : Cam) (ref inc : Slot) (k : Corr) (x y : Means), ref.full = some x → inc.full = some y →
    let base := if r.idx < i.idx then ref.region.getD x else x
    let own := if i.idx < r.idx then inc.region.getD y else y
    let seen := min 255 ((base.y * k.g + 512) / 1024)
    let gain := if own.y = 0 then 1024 else max 512 (min 2047 ((seen * 1024 + own.y / 2) / own.y))
    let offset := fun (o : Int) (p q : Nat) => max (-32) (min 32 (max 0 (min 255 ((p : Int) + o)) - q))
    measure r i ref inc k = ⟨gain, offset k.oU base.u own.u, offset k.oV base.v own.v,
      decide ((r.idx < i.idx ∧ ref.region = none) ∨ (i.idx < r.idx ∧ inc.region = none))⟩) ∧
  (∀ k m : Corr, k.Law → m.Law → (k.smooth m).Law ∧
    (k.smooth m).g = (k.g : Int) + ((m.g : Int) - k.g).tdiv 4 ∧ (k.smooth m).oU = k.oU + (m.oU - k.oU).tdiv 4 ∧
    (k.smooth m).oV = k.oV + (m.oV - k.oV).tdiv 4 ∧ (k.smooth m).approx = (k.approx || m.approx)) ∧
  (∀ s : State, let out := s.zoom.outgoing
    let inc := s.zoom.incoming
    let selected := fun (c : Cam) (x : Slot) =>
      ∃ sel, s.zoom.selection.get c = some sel ∧ (s.port c).ring[sel.slot]? = some x
    s.corrected .relax = (out.relax, .identity) ∧ s.corrected .takeAndRelax = (inc.relax, .identity) ∧
    s.corrected .take = (inc, .identity) ∧ s.corrected .dropIncoming = (out, .identity) ∧
    s.corrected .identity = (.identity, .identity) ∧ s.corrected .keep = (out, inc) ∧
    (∀ o i x y, selected o x → selected i y → s.corrected (.smooth o i) = (out, inc.smooth (measure o i x y out))) ∧
    (∀ f, s.zoom.current.bind Record.primary = none → s.corrected (.measure f) = (.identity, .identity)) ∧
    (∀ f e x y, s.zoom.current.bind Record.primary = some e → (s.port e.camera).ring[e.slot]? = some x → selected f y →
      s.corrected (.measure f) = (measure e.camera f x y e.corr, .identity)))

/-! ### What every step keeps -/

/-- R179, R180, R181: the places of the outbound queue are kept by every step: claims equal open requests and queued
replies, at most 8; at most 15 notices; one LINK_REJECT exactly while the holder is occupied; at most 24 frames. -/
def Obligations.StepKeepsOutboundPlaces : Prop :=
  (∀ s t : State, s.link.Law → step s = .next t → t.link.Law) ∧ (∀ l : Link, l.Law → l.outbound.length ≤ 24)

/-- R166, R167, R138, R139, R180: every step keeps that each open request is held by exactly one pass-through queue entry or
by the stop-pending mark, so that each is answered exactly once. -/
def Obligations.StepKeepsOpenRequests : Prop :=
  ∀ s t : State, s.OpenLaw → step s = .next t → t.OpenLaw

/-- R154, R159, R162, R18, R40, R141, R164, R169, R170, R174: every step keeps applied and pending table lawful and the
pointers in range, and keeps the buffers and queues within what they hold. Every step keeps that a camera has one START run
exactly in LOADING and one STOP run exactly in STOPPING, beside START runs that are being aborted, and so a waiting-script
list never needs more than 4 places; and that the channel of the frame store initialises it exactly in BOOTING (R162; DEDUCED,
entry 44). -/
def Obligations.StepKeepsTablesAndCapacities : Prop :=
  (∀ s t : State, s.arbiter.Law → step s = .next t → t.arbiter.Law) ∧
  (∀ s t : State, s.Capacities → step s = .next t → t.Capacities) ∧
  (∀ s t : State, s.RunLaw → step s = .next t → t.RunLaw) ∧
  (∀ s t : State, s.ChannelLaw → step s = .next t → t.ChannelLaw) ∧
  (∀ s : State, s.RunLaw → ∀ x, (s.bus x).waiting.length ≤ 4)

/-- Table 11, R28 to R35: every step keeps that a countdown is armed exactly in WAITING, STREAMING and STALLED, with the
stall count of the camera's state. -/
def Obligations.StepKeepsCountdowns : Prop :=
  ∀ s t : State, (∀ c, s.CountdownLaw c) → step s = .next t → ∀ c, t.CountdownLaw c

/-- R18, R19, R22, R125, R126: every step keeps that a ring has at most one FILLING and at most one DRAINING slot, because the
writes of a frame complete before the rows of the next have passed the line buffer, and that pinned are exactly the slots the
current record names, which are READY. The canonical form of the frame store's areas is the model's (entry 10). -/
def Obligations.StepKeepsRingsAndPins : Prop :=
  (∀ s t : State, s.RingsLaw → step s = .next t → t.RingsLaw) ∧
  (∀ s t : State, s.StoreLaw → step s = .next t → t.StoreLaw)

/-- R4, R40, R68, R76, R82, R104, R109: every step keeps blend progress within 0..N with N within 1..32 and the weight within
0..256, two cameras that differ, the settings in their ranges, the ramp queue at most 8 segments with only its head active,
the correction records in their ranges, and an M from before a replacement of a calibration part only in RUN, for a camera
that is calibrated and that the engine does not name. -/
def Obligations.StepKeepsZoomLaws : Prop :=
  (∀ s t : State, s.zoom.EngineLaw → step s = .next t → t.zoom.EngineLaw) ∧
  (∀ s t : State, s.zoom.RampLaw → step s = .next t → t.zoom.RampLaw) ∧
  (∀ s t : State, s.zoom.CorrLaw → step s = .next t → t.zoom.CorrLaw) ∧
  (∀ s t : State, s.PriorLaw → step s = .next t → t.PriorLaw)

/-- The reset state meets every law the steps keep. -/
def Obligations.ResetMeetsLaws : Prop :=
  State.reset.link.Law ∧ State.reset.OpenLaw ∧ State.reset.arbiter.Law ∧ State.reset.Capacities
    ∧ State.reset.RunLaw ∧ State.reset.ChannelLaw ∧ (∀ c, State.reset.CountdownLaw c) ∧ State.reset.RingsLaw ∧ State.reset.StoreLaw
    ∧ State.reset.zoom.EngineLaw ∧ State.reset.zoom.RampLaw ∧ State.reset.zoom.CorrLaw ∧ State.reset.PriorLaw
end

