-- ==== Sys2Proof/Laws/Events.lean ====
section
/-!
SUPPORT. What the events of the part's own counts can do: each is taken when it is due, and otherwise leaves the state as it is
(entries 3, 4).
-/

namespace Sys2Proof.Machine

/-- A raster event that is due takes its effect. -/
theorem State.whenRaster_due {s t : State} {i : Instr} (h : s.otg.rasterDue = some i) : s.whenRaster i t = t := if_pos h

/-- A raster event that is not due changes nothing. -/
theorem State.whenRaster_early {s t : State} {i : Instr} (h : s.otg.rasterDue ≠ some i) : s.whenRaster i t = s := if_neg h

/-- A pattern packet that is due takes its effect. -/
theorem State.whenPattern_due {s t : State} {c : Cam} {i : Instr} (h : s.patternDue c = some i) :
    s.whenPattern c i t = t := if_pos h

/-- A pattern packet that is not due changes nothing. -/
theorem State.whenPattern_early {s t : State} {c : Cam} {i : Instr} (h : s.patternDue c ≠ some i) :
    s.whenPattern c i t = s := if_neg h

/-- The raster event that is due is the next one of Table 22, and its pixel has come. -/
theorem Otg.rasterDue_eq_some {o : Otg} {i : Instr} (h : o.rasterDue = some i) :
    ∃ f b pixel, o.format = some f ∧ o.blanking = some b ∧ nextRaster f b o.raster = some (pixel, i)
      ∧ 1000 * pixel < o.phase := by
  unfold Otg.rasterDue at h
  split at h
  · rename_i f b hf hb
    obtain ⟨⟨pixel, j⟩, hx, rfl⟩ := Option.map_eq_some_iff.mp h
    obtain ⟨hx, hp⟩ := Option.filter_eq_some_iff.mp hx
    exact ⟨f, b, pixel, hf, hb, hx, by simpa using hp⟩
  · cases h

/-- No raster event is due in a raster that stands still. -/
theorem Otg.rasterDue_stopped {o : Otg} (h : o.raster = .stopped) : o.rasterDue = none := by
  rw [Option.eq_none_iff_forall_not_mem]
  intro i hi
  obtain ⟨f, b, pixel, -, -, hn, -⟩ := Otg.rasterDue_eq_some hi
  simp [h, nextRaster] at hn

/-- WAIT_END takes its effect on a WAIT that has been counted (R171). -/
theorem State.endWait_counted {s : State} {x : Bus} {r : Running} (h : (s.bus x).running = some r)
    (hp : r.phase = .waiting 0) : s.endWait x = (s.stepDone x r).giveBus x := by simp [State.endWait, h, hp]

/-- WAIT_END changes nothing while no WAIT has been counted to its end. -/
theorem State.endWait_early {s : State} {x : Bus} (h : ∀ r, (s.bus x).running = some r → r.phase ≠ .waiting 0) :
    s.endWait x = s := by
  unfold State.endWait
  split
  · rename_i r hr
    split
    · exact absurd ‹_› (h r hr)
    · rfl
  · rfl

/-- POLL_RETRY takes its effect on a retry interval that has been counted (R172). -/
theorem State.endRetry_counted {s : State} {x : Bus} {r : Running} (h : (s.bus x).running = some r)
    (hp : r.phase = .retry 0) : s.endRetry x = (s.setRunning x (some { r with phase := .ready })).giveBus x := by
  simp [State.endRetry, h, hp]

/-- POLL_RETRY changes nothing while no retry interval has been counted to its end. -/
theorem State.endRetry_early {s : State} {x : Bus} (h : ∀ r, (s.bus x).running = some r → r.phase ≠ .retry 0) :
    s.endRetry x = s := by
  unfold State.endRetry
  split
  · rename_i r hr
    split
    · exact absurd ‹_› (h r hr)
    · rfl
  · rfl

/-- A pulse that has started, or whose offset has not been counted, does not start (R176). -/
theorem Otg.pulseStart_early {o : Otg} {c : Cam} {p : Pulse} (h : o.pulse.get c = some p)
    (hp : p.started = true ∨ p.elapsed < p.offset) : o.pulseStart c = o := by
  rcases hp with hp | hp <;> simp [Otg.pulseStart, h, hp]

/-- A pulse that has not started, has ended, or whose width has not been counted, does not end (R176). -/
theorem Otg.pulseEnd_early {o : Otg} {c : Cam} {p : Pulse} (h : o.pulse.get c = some p)
    (hp : p.started = false ∨ p.ended = true ∨ p.elapsed < p.offset + p.width) : o.pulseEnd c = o := by
  rcases hp with hp | hp | hp <;> simp [Otg.pulseEnd, h, hp]

end Sys2Proof.Machine
end

