-- ==== Sys2Proof/Laws/State.lean ====
section
/-!
SUPPORT. Small lemmas of the state: reading one camera's part after another was replaced, and one lemma for each field
and each update of the state.
-/

namespace Sys2Proof

/-! ### Four (and two) things side by side -/

@[simp] theorem Quad.get_const {α : Type} (x : α) (c : Cam) : (Quad.const x).get c = x := by cases c <;> rfl

@[simp] theorem Quad.get_tab {α : Type} (f : Cam → α) (c : Cam) : (Quad.tab f).get c = f c := by cases c <;> rfl

@[simp] theorem Quad.get_set_same {α : Type} (q : Quad α) (c : Cam) (x : α) : (q.set c x).get c = x := by
  cases c <;> rfl

theorem Quad.get_set_ne {α : Type} (q : Quad α) {c d : Cam} (x : α) (h : d ≠ c) : (q.set c x).get d = q.get d := by
  cases c <;> cases d <;> first | rfl | exact absurd rfl h

@[simp] theorem Duo.get_set_same {α : Type} (q : Duo α) (y : Bus) (x : α) : (q.set y x).get y = x := by
  cases y <;> rfl

theorem Duo.get_set_ne {α : Type} (q : Duo α) {y z : Bus} (x : α) (h : z ≠ y) : (q.set y x).get z = q.get z := by
  cases y <;> cases z <;> first | rfl | exact absurd rfl h

namespace Machine

/-! ### One camera's part -/

@[simp] theorem State.port_setPort_same (s : State) (c : Cam) (p : Port) : (s.setPort c p).port c = p :=
  Quad.get_set_same _ _ _

theorem State.port_setPort_ne (s : State) {c d : Cam} (p : Port) (h : d ≠ c) : (s.setPort c p).port d = s.port d :=
  Quad.get_set_ne _ _ h

@[simp] theorem State.monitor_setMonitor_same (s : State) (c : Cam) (m : Monitor) : (s.setMonitor c m).monitor c = m :=
  Quad.get_set_same _ _ _

theorem State.monitor_setMonitor_ne (s : State) {c d : Cam} (m : Monitor) (h : d ≠ c) :
    (s.setMonitor c m).monitor d = s.monitor d :=
  Quad.get_set_ne _ _ h

@[simp] theorem State.bus_setBus_same (s : State) (x : Bus) (b : BusState) : (s.setBus x b).bus x = b :=
  Duo.get_set_same _ _ _

theorem State.bus_setBus_ne (s : State) {x y : Bus} (b : BusState) (h : y ≠ x) : (s.setBus x b).bus y = s.bus y :=
  Duo.get_set_ne _ _ h


/-! ### setPort -/

@[simp] theorem State.setPort_mode (s : State) (c : Cam) (p : Port) : (s.setPort c p).mode = s.mode := rfl
@[simp] theorem State.setPort_resetHeld (s : State) (c : Cam) (p : Port) : (s.setPort c p).resetHeld = s.resetHeld := rfl
@[simp] theorem State.setPort_bootCause (s : State) (c : Cam) (p : Port) : (s.setPort c p).bootCause = s.bootCause := rfl
@[simp] theorem State.setPort_timebase (s : State) (c : Cam) (p : Port) : (s.setPort c p).timebase = s.timebase := rfl
@[simp] theorem State.setPort_link (s : State) (c : Cam) (p : Port) : (s.setPort c p).link = s.link := rfl
@[simp] theorem State.setPort_monitors (s : State) (c : Cam) (p : Port) : (s.setPort c p).monitors = s.monitors := rfl
@[simp] theorem State.setPort_zoom (s : State) (c : Cam) (p : Port) : (s.setPort c p).zoom = s.zoom := rfl
@[simp] theorem State.setPort_otg (s : State) (c : Cam) (p : Port) : (s.setPort c p).otg = s.otg := rfl
@[simp] theorem State.setPort_composer (s : State) (c : Cam) (p : Port) : (s.setPort c p).composer = s.composer := rfl
@[simp] theorem State.setPort_arbiter (s : State) (c : Cam) (p : Port) : (s.setPort c p).arbiter = s.arbiter := rfl
@[simp] theorem State.setPort_relay (s : State) (c : Cam) (p : Port) : (s.setPort c p).relay = s.relay := rfl
@[simp] theorem State.setPort_freeSeed (s : State) (c : Cam) (p : Port) : (s.setPort c p).freeSeed = s.freeSeed := rfl
@[simp] theorem State.setPort_pending (s : State) (c : Cam) (p : Port) : (s.setPort c p).pending = s.pending := rfl
@[simp] theorem State.setPort_monitor (s : State) (c : Cam) (p : Port) (d : Cam) : (s.setPort c p).monitor d = s.monitor d := rfl
@[simp] theorem State.setPort_bus (s : State) (c : Cam) (p : Port) (y : Bus) : (s.setPort c p).bus y = s.bus y := rfl

/-! ### setMonitor -/

@[simp] theorem State.setMonitor_mode (s : State) (c : Cam) (m : Monitor) : (s.setMonitor c m).mode = s.mode := rfl
@[simp] theorem State.setMonitor_resetHeld (s : State) (c : Cam) (m : Monitor) : (s.setMonitor c m).resetHeld = s.resetHeld := rfl
@[simp] theorem State.setMonitor_bootCause (s : State) (c : Cam) (m : Monitor) : (s.setMonitor c m).bootCause = s.bootCause := rfl
@[simp] theorem State.setMonitor_timebase (s : State) (c : Cam) (m : Monitor) : (s.setMonitor c m).timebase = s.timebase := rfl
@[simp] theorem State.setMonitor_link (s : State) (c : Cam) (m : Monitor) : (s.setMonitor c m).link = s.link := rfl
@[simp] theorem State.setMonitor_ports (s : State) (c : Cam) (m : Monitor) : (s.setMonitor c m).ports = s.ports := rfl
@[simp] theorem State.setMonitor_zoom (s : State) (c : Cam) (m : Monitor) : (s.setMonitor c m).zoom = s.zoom := rfl
@[simp] theorem State.setMonitor_otg (s : State) (c : Cam) (m : Monitor) : (s.setMonitor c m).otg = s.otg := rfl
@[simp] theorem State.setMonitor_composer (s : State) (c : Cam) (m : Monitor) : (s.setMonitor c m).composer = s.composer := rfl
@[simp] theorem State.setMonitor_arbiter (s : State) (c : Cam) (m : Monitor) : (s.setMonitor c m).arbiter = s.arbiter := rfl
@[simp] theorem State.setMonitor_relay (s : State) (c : Cam) (m : Monitor) : (s.setMonitor c m).relay = s.relay := rfl
@[simp] theorem State.setMonitor_freeSeed (s : State) (c : Cam) (m : Monitor) : (s.setMonitor c m).freeSeed = s.freeSeed := rfl
@[simp] theorem State.setMonitor_pending (s : State) (c : Cam) (m : Monitor) : (s.setMonitor c m).pending = s.pending := rfl
@[simp] theorem State.setMonitor_port (s : State) (c : Cam) (m : Monitor) (d : Cam) : (s.setMonitor c m).port d = s.port d := rfl
@[simp] theorem State.setMonitor_bus (s : State) (c : Cam) (m : Monitor) (y : Bus) : (s.setMonitor c m).bus y = s.bus y := rfl

/-! ### setBus -/

@[simp] theorem State.setBus_mode (s : State) (x : Bus) (b : BusState) : (s.setBus x b).mode = s.mode := rfl
@[simp] theorem State.setBus_resetHeld (s : State) (x : Bus) (b : BusState) : (s.setBus x b).resetHeld = s.resetHeld := rfl
@[simp] theorem State.setBus_bootCause (s : State) (x : Bus) (b : BusState) : (s.setBus x b).bootCause = s.bootCause := rfl
@[simp] theorem State.setBus_timebase (s : State) (x : Bus) (b : BusState) : (s.setBus x b).timebase = s.timebase := rfl
@[simp] theorem State.setBus_link (s : State) (x : Bus) (b : BusState) : (s.setBus x b).link = s.link := rfl
@[simp] theorem State.setBus_ports (s : State) (x : Bus) (b : BusState) : (s.setBus x b).ports = s.ports := rfl
@[simp] theorem State.setBus_monitors (s : State) (x : Bus) (b : BusState) : (s.setBus x b).monitors = s.monitors := rfl
@[simp] theorem State.setBus_zoom (s : State) (x : Bus) (b : BusState) : (s.setBus x b).zoom = s.zoom := rfl
@[simp] theorem State.setBus_otg (s : State) (x : Bus) (b : BusState) : (s.setBus x b).otg = s.otg := rfl
@[simp] theorem State.setBus_composer (s : State) (x : Bus) (b : BusState) : (s.setBus x b).composer = s.composer := rfl
@[simp] theorem State.setBus_arbiter (s : State) (x : Bus) (b : BusState) : (s.setBus x b).arbiter = s.arbiter := rfl
@[simp] theorem State.setBus_freeSeed (s : State) (x : Bus) (b : BusState) : (s.setBus x b).freeSeed = s.freeSeed := rfl
@[simp] theorem State.setBus_pending (s : State) (x : Bus) (b : BusState) : (s.setBus x b).pending = s.pending := rfl
@[simp] theorem State.setBus_port (s : State) (x : Bus) (b : BusState) (d : Cam) : (s.setBus x b).port d = s.port d := rfl
@[simp] theorem State.setBus_monitor (s : State) (x : Bus) (b : BusState) (d : Cam) : (s.setBus x b).monitor d = s.monitor d := rfl

/-! ### raise -/

@[simp] theorem State.raise_mode (s : State) (n : Notice) : (s.raise n).mode = s.mode := rfl
@[simp] theorem State.raise_resetHeld (s : State) (n : Notice) : (s.raise n).resetHeld = s.resetHeld := rfl
@[simp] theorem State.raise_bootCause (s : State) (n : Notice) : (s.raise n).bootCause = s.bootCause := rfl
@[simp] theorem State.raise_timebase (s : State) (n : Notice) : (s.raise n).timebase = s.timebase := rfl
@[simp] theorem State.raise_ports (s : State) (n : Notice) : (s.raise n).ports = s.ports := rfl
@[simp] theorem State.raise_monitors (s : State) (n : Notice) : (s.raise n).monitors = s.monitors := rfl
@[simp] theorem State.raise_zoom (s : State) (n : Notice) : (s.raise n).zoom = s.zoom := rfl
@[simp] theorem State.raise_otg (s : State) (n : Notice) : (s.raise n).otg = s.otg := rfl
@[simp] theorem State.raise_composer (s : State) (n : Notice) : (s.raise n).composer = s.composer := rfl
@[simp] theorem State.raise_arbiter (s : State) (n : Notice) : (s.raise n).arbiter = s.arbiter := rfl
@[simp] theorem State.raise_relay (s : State) (n : Notice) : (s.raise n).relay = s.relay := rfl
@[simp] theorem State.raise_freeSeed (s : State) (n : Notice) : (s.raise n).freeSeed = s.freeSeed := rfl
@[simp] theorem State.raise_pending (s : State) (n : Notice) : (s.raise n).pending = s.pending := rfl
@[simp] theorem State.raise_port (s : State) (n : Notice) (d : Cam) : (s.raise n).port d = s.port d := rfl
@[simp] theorem State.raise_monitor (s : State) (n : Notice) (d : Cam) : (s.raise n).monitor d = s.monitor d := rfl
@[simp] theorem State.raise_bus (s : State) (n : Notice) (y : Bus) : (s.raise n).bus y = s.bus y := rfl

/-! ### reply -/

@[simp] theorem State.reply_mode (s : State) (k t : Byte) (a : Status) (b : List Byte) : (s.reply k t a b).mode = s.mode := rfl
@[simp] theorem State.reply_resetHeld (s : State) (k t : Byte) (a : Status) (b : List Byte) : (s.reply k t a b).resetHeld = s.resetHeld := rfl
@[simp] theorem State.reply_bootCause (s : State) (k t : Byte) (a : Status) (b : List Byte) : (s.reply k t a b).bootCause = s.bootCause := rfl
@[simp] theorem State.reply_timebase (s : State) (k t : Byte) (a : Status) (b : List Byte) : (s.reply k t a b).timebase = s.timebase := rfl
@[simp] theorem State.reply_ports (s : State) (k t : Byte) (a : Status) (b : List Byte) : (s.reply k t a b).ports = s.ports := rfl
@[simp] theorem State.reply_monitors (s : State) (k t : Byte) (a : Status) (b : List Byte) : (s.reply k t a b).monitors = s.monitors := rfl
@[simp] theorem State.reply_zoom (s : State) (k t : Byte) (a : Status) (b : List Byte) : (s.reply k t a b).zoom = s.zoom := rfl
@[simp] theorem State.reply_otg (s : State) (k t : Byte) (a : Status) (b : List Byte) : (s.reply k t a b).otg = s.otg := rfl
@[simp] theorem State.reply_composer (s : State) (k t : Byte) (a : Status) (b : List Byte) : (s.reply k t a b).composer = s.composer := rfl
@[simp] theorem State.reply_arbiter (s : State) (k t : Byte) (a : Status) (b : List Byte) : (s.reply k t a b).arbiter = s.arbiter := rfl
@[simp] theorem State.reply_relay (s : State) (k t : Byte) (a : Status) (b : List Byte) : (s.reply k t a b).relay = s.relay := rfl
@[simp] theorem State.reply_freeSeed (s : State) (k t : Byte) (a : Status) (b : List Byte) : (s.reply k t a b).freeSeed = s.freeSeed := rfl
@[simp] theorem State.reply_pending (s : State) (k t : Byte) (a : Status) (b : List Byte) : (s.reply k t a b).pending = s.pending := rfl
@[simp] theorem State.reply_port (s : State) (k t : Byte) (a : Status) (b : List Byte) (d : Cam) : (s.reply k t a b).port d = s.port d := rfl
@[simp] theorem State.reply_monitor (s : State) (k t : Byte) (a : Status) (b : List Byte) (d : Cam) : (s.reply k t a b).monitor d = s.monitor d := rfl
@[simp] theorem State.reply_bus (s : State) (k t : Byte) (a : Status) (b : List Byte) (y : Bus) : (s.reply k t a b).bus y = s.bus y := rfl

/-! ### answer -/

@[simp] theorem State.answer_mode (s : State) (i : Nat) (a : Status) (b : List Byte) : (s.answer i a b).mode = s.mode := rfl
@[simp] theorem State.answer_resetHeld (s : State) (i : Nat) (a : Status) (b : List Byte) : (s.answer i a b).resetHeld = s.resetHeld := rfl
@[simp] theorem State.answer_bootCause (s : State) (i : Nat) (a : Status) (b : List Byte) : (s.answer i a b).bootCause = s.bootCause := rfl
@[simp] theorem State.answer_timebase (s : State) (i : Nat) (a : Status) (b : List Byte) : (s.answer i a b).timebase = s.timebase := rfl
@[simp] theorem State.answer_ports (s : State) (i : Nat) (a : Status) (b : List Byte) : (s.answer i a b).ports = s.ports := rfl
@[simp] theorem State.answer_monitors (s : State) (i : Nat) (a : Status) (b : List Byte) : (s.answer i a b).monitors = s.monitors := rfl
@[simp] theorem State.answer_zoom (s : State) (i : Nat) (a : Status) (b : List Byte) : (s.answer i a b).zoom = s.zoom := rfl
@[simp] theorem State.answer_otg (s : State) (i : Nat) (a : Status) (b : List Byte) : (s.answer i a b).otg = s.otg := rfl
@[simp] theorem State.answer_composer (s : State) (i : Nat) (a : Status) (b : List Byte) : (s.answer i a b).composer = s.composer := rfl
@[simp] theorem State.answer_arbiter (s : State) (i : Nat) (a : Status) (b : List Byte) : (s.answer i a b).arbiter = s.arbiter := rfl
@[simp] theorem State.answer_relay (s : State) (i : Nat) (a : Status) (b : List Byte) : (s.answer i a b).relay = s.relay := rfl
@[simp] theorem State.answer_freeSeed (s : State) (i : Nat) (a : Status) (b : List Byte) : (s.answer i a b).freeSeed = s.freeSeed := rfl
@[simp] theorem State.answer_pending (s : State) (i : Nat) (a : Status) (b : List Byte) : (s.answer i a b).pending = s.pending := rfl
@[simp] theorem State.answer_port (s : State) (i : Nat) (a : Status) (b : List Byte) (d : Cam) : (s.answer i a b).port d = s.port d := rfl
@[simp] theorem State.answer_monitor (s : State) (i : Nat) (a : Status) (b : List Byte) (d : Cam) : (s.answer i a b).monitor d = s.monitor d := rfl
@[simp] theorem State.answer_bus (s : State) (i : Nat) (a : Status) (b : List Byte) (y : Bus) : (s.answer i a b).bus y = s.bus y := rfl

/-! ### changeState -/

@[simp] theorem State.changeState_mode (s : State) (c : Cam) (n : CamState) (r : Reason) : (s.changeState c n r).mode = s.mode := rfl
@[simp] theorem State.changeState_resetHeld (s : State) (c : Cam) (n : CamState) (r : Reason) : (s.changeState c n r).resetHeld = s.resetHeld := rfl
@[simp] theorem State.changeState_bootCause (s : State) (c : Cam) (n : CamState) (r : Reason) : (s.changeState c n r).bootCause = s.bootCause := rfl
@[simp] theorem State.changeState_timebase (s : State) (c : Cam) (n : CamState) (r : Reason) : (s.changeState c n r).timebase = s.timebase := rfl
@[simp] theorem State.changeState_monitors (s : State) (c : Cam) (n : CamState) (r : Reason) : (s.changeState c n r).monitors = s.monitors := rfl
@[simp] theorem State.changeState_zoom (s : State) (c : Cam) (n : CamState) (r : Reason) : (s.changeState c n r).zoom = s.zoom := rfl
@[simp] theorem State.changeState_otg (s : State) (c : Cam) (n : CamState) (r : Reason) : (s.changeState c n r).otg = s.otg := rfl
@[simp] theorem State.changeState_composer (s : State) (c : Cam) (n : CamState) (r : Reason) : (s.changeState c n r).composer = s.composer := rfl
@[simp] theorem State.changeState_arbiter (s : State) (c : Cam) (n : CamState) (r : Reason) : (s.changeState c n r).arbiter = s.arbiter := rfl
@[simp] theorem State.changeState_relay (s : State) (c : Cam) (n : CamState) (r : Reason) : (s.changeState c n r).relay = s.relay := rfl
@[simp] theorem State.changeState_freeSeed (s : State) (c : Cam) (n : CamState) (r : Reason) : (s.changeState c n r).freeSeed = s.freeSeed := rfl
@[simp] theorem State.changeState_pending (s : State) (c : Cam) (n : CamState) (r : Reason) : (s.changeState c n r).pending = s.pending := rfl
@[simp] theorem State.changeState_monitor (s : State) (c : Cam) (n : CamState) (r : Reason) (d : Cam) : (s.changeState c n r).monitor d = s.monitor d := rfl
@[simp] theorem State.changeState_bus (s : State) (c : Cam) (n : CamState) (r : Reason) (y : Bus) : (s.changeState c n r).bus y = s.bus y := rfl

/-! ### disarm -/

@[simp] theorem State.disarm_mode (s : State) (c : Cam) : (s.disarm c).mode = s.mode := rfl
@[simp] theorem State.disarm_resetHeld (s : State) (c : Cam) : (s.disarm c).resetHeld = s.resetHeld := rfl
@[simp] theorem State.disarm_bootCause (s : State) (c : Cam) : (s.disarm c).bootCause = s.bootCause := rfl
@[simp] theorem State.disarm_timebase (s : State) (c : Cam) : (s.disarm c).timebase = s.timebase := rfl
@[simp] theorem State.disarm_link (s : State) (c : Cam) : (s.disarm c).link = s.link := rfl
@[simp] theorem State.disarm_ports (s : State) (c : Cam) : (s.disarm c).ports = s.ports := rfl
@[simp] theorem State.disarm_zoom (s : State) (c : Cam) : (s.disarm c).zoom = s.zoom := rfl
@[simp] theorem State.disarm_otg (s : State) (c : Cam) : (s.disarm c).otg = s.otg := rfl
@[simp] theorem State.disarm_composer (s : State) (c : Cam) : (s.disarm c).composer = s.composer := rfl
@[simp] theorem State.disarm_arbiter (s : State) (c : Cam) : (s.disarm c).arbiter = s.arbiter := rfl
@[simp] theorem State.disarm_relay (s : State) (c : Cam) : (s.disarm c).relay = s.relay := rfl
@[simp] theorem State.disarm_freeSeed (s : State) (c : Cam) : (s.disarm c).freeSeed = s.freeSeed := rfl
@[simp] theorem State.disarm_pending (s : State) (c : Cam) : (s.disarm c).pending = s.pending := rfl
@[simp] theorem State.disarm_port (s : State) (c : Cam) (d : Cam) : (s.disarm c).port d = s.port d := rfl
@[simp] theorem State.disarm_bus (s : State) (c : Cam) (y : Bus) : (s.disarm c).bus y = s.bus y := rfl

/-! ### setRunning -/

@[simp] theorem State.setRunning_mode (s : State) (x : Bus) (r : Option Running) : (s.setRunning x r).mode = s.mode := rfl
@[simp] theorem State.setRunning_resetHeld (s : State) (x : Bus) (r : Option Running) : (s.setRunning x r).resetHeld = s.resetHeld := rfl
@[simp] theorem State.setRunning_bootCause (s : State) (x : Bus) (r : Option Running) : (s.setRunning x r).bootCause = s.bootCause := rfl
@[simp] theorem State.setRunning_timebase (s : State) (x : Bus) (r : Option Running) : (s.setRunning x r).timebase = s.timebase := rfl
@[simp] theorem State.setRunning_link (s : State) (x : Bus) (r : Option Running) : (s.setRunning x r).link = s.link := rfl
@[simp] theorem State.setRunning_ports (s : State) (x : Bus) (r : Option Running) : (s.setRunning x r).ports = s.ports := rfl
@[simp] theorem State.setRunning_monitors (s : State) (x : Bus) (r : Option Running) : (s.setRunning x r).monitors = s.monitors := rfl
@[simp] theorem State.setRunning_zoom (s : State) (x : Bus) (r : Option Running) : (s.setRunning x r).zoom = s.zoom := rfl
@[simp] theorem State.setRunning_otg (s : State) (x : Bus) (r : Option Running) : (s.setRunning x r).otg = s.otg := rfl
@[simp] theorem State.setRunning_composer (s : State) (x : Bus) (r : Option Running) : (s.setRunning x r).composer = s.composer := rfl
@[simp] theorem State.setRunning_arbiter (s : State) (x : Bus) (r : Option Running) : (s.setRunning x r).arbiter = s.arbiter := rfl
@[simp] theorem State.setRunning_freeSeed (s : State) (x : Bus) (r : Option Running) : (s.setRunning x r).freeSeed = s.freeSeed := rfl
@[simp] theorem State.setRunning_pending (s : State) (x : Bus) (r : Option Running) : (s.setRunning x r).pending = s.pending := rfl
@[simp] theorem State.setRunning_port (s : State) (x : Bus) (r : Option Running) (d : Cam) : (s.setRunning x r).port d = s.port d := rfl
@[simp] theorem State.setRunning_monitor (s : State) (x : Bus) (r : Option Running) (d : Cam) : (s.setRunning x r).monitor d = s.monitor d := rfl

/-! ### send -/

@[simp] theorem State.send_mode (s : State) (x : Packet) : (s.send x).mode = s.mode := rfl
@[simp] theorem State.send_resetHeld (s : State) (x : Packet) : (s.send x).resetHeld = s.resetHeld := rfl
@[simp] theorem State.send_bootCause (s : State) (x : Packet) : (s.send x).bootCause = s.bootCause := rfl
@[simp] theorem State.send_timebase (s : State) (x : Packet) : (s.send x).timebase = s.timebase := rfl
@[simp] theorem State.send_link (s : State) (x : Packet) : (s.send x).link = s.link := rfl
@[simp] theorem State.send_ports (s : State) (x : Packet) : (s.send x).ports = s.ports := rfl
@[simp] theorem State.send_monitors (s : State) (x : Packet) : (s.send x).monitors = s.monitors := rfl
@[simp] theorem State.send_zoom (s : State) (x : Packet) : (s.send x).zoom = s.zoom := rfl
@[simp] theorem State.send_composer (s : State) (x : Packet) : (s.send x).composer = s.composer := rfl
@[simp] theorem State.send_arbiter (s : State) (x : Packet) : (s.send x).arbiter = s.arbiter := rfl
@[simp] theorem State.send_relay (s : State) (x : Packet) : (s.send x).relay = s.relay := rfl
@[simp] theorem State.send_freeSeed (s : State) (x : Packet) : (s.send x).freeSeed = s.freeSeed := rfl
@[simp] theorem State.send_pending (s : State) (x : Packet) : (s.send x).pending = s.pending := rfl
@[simp] theorem State.send_port (s : State) (x : Packet) (d : Cam) : (s.send x).port d = s.port d := rfl
@[simp] theorem State.send_monitor (s : State) (x : Packet) (d : Cam) : (s.send x).monitor d = s.monitor d := rfl
@[simp] theorem State.send_bus (s : State) (x : Packet) (y : Bus) : (s.send x).bus y = s.bus y := rfl

/-! ### arm -/

@[simp] theorem State.arm_mode (s : State) (c : Cam) (k : Cal → Nat) : (s.arm c k).mode = s.mode := by
  unfold State.arm; split <;> rfl
@[simp] theorem State.arm_resetHeld (s : State) (c : Cam) (k : Cal → Nat) : (s.arm c k).resetHeld = s.resetHeld := by
  unfold State.arm; split <;> rfl
@[simp] theorem State.arm_bootCause (s : State) (c : Cam) (k : Cal → Nat) : (s.arm c k).bootCause = s.bootCause := by
  unfold State.arm; split <;> rfl
@[simp] theorem State.arm_timebase (s : State) (c : Cam) (k : Cal → Nat) : (s.arm c k).timebase = s.timebase := by
  unfold State.arm; split <;> rfl
@[simp] theorem State.arm_link (s : State) (c : Cam) (k : Cal → Nat) : (s.arm c k).link = s.link := by
  unfold State.arm; split <;> rfl
@[simp] theorem State.arm_ports (s : State) (c : Cam) (k : Cal → Nat) : (s.arm c k).ports = s.ports := by
  unfold State.arm; split <;> rfl
@[simp] theorem State.arm_zoom (s : State) (c : Cam) (k : Cal → Nat) : (s.arm c k).zoom = s.zoom := by
  unfold State.arm; split <;> rfl
@[simp] theorem State.arm_otg (s : State) (c : Cam) (k : Cal → Nat) : (s.arm c k).otg = s.otg := by
  unfold State.arm; split <;> rfl
@[simp] theorem State.arm_composer (s : State) (c : Cam) (k : Cal → Nat) : (s.arm c k).composer = s.composer := by
  unfold State.arm; split <;> rfl
@[simp] theorem State.arm_arbiter (s : State) (c : Cam) (k : Cal → Nat) : (s.arm c k).arbiter = s.arbiter := by
  unfold State.arm; split <;> rfl
@[simp] theorem State.arm_relay (s : State) (c : Cam) (k : Cal → Nat) : (s.arm c k).relay = s.relay := by
  unfold State.arm; split <;> rfl
@[simp] theorem State.arm_freeSeed (s : State) (c : Cam) (k : Cal → Nat) : (s.arm c k).freeSeed = s.freeSeed := by
  unfold State.arm; split <;> rfl
@[simp] theorem State.arm_pending (s : State) (c : Cam) (k : Cal → Nat) : (s.arm c k).pending = s.pending := by
  unfold State.arm; split <;> rfl
@[simp] theorem State.arm_port (s : State) (c : Cam) (k : Cal → Nat) (d : Cam) : (s.arm c k).port d = s.port d := by
  unfold State.arm; split <;> rfl

/-- What arming does: the timeout of the calibration part, when there is one (R28). -/
theorem State.arm_monitor (s : State) (c : Cam) (k : Cal → Nat) :
    (s.arm c k).monitor c = { s.monitor c with countdown := ((s.port c).cal.map k).or (s.monitor c).countdown } := by
  unfold State.arm
  split <;> rename_i h <;> simp [h]

/-! ### raiseAll -/

/-- Notices raised in order change the link and nothing else. -/
theorem State.raiseAll_eq (s : State) (ns : List Notice) :
    s.raiseAll ns = { s with link := ns.foldl Link.raise s.link } := by
  unfold State.raiseAll
  induction ns generalizing s with
  | nil => rfl
  | cons n ns ih => simp [ih, State.raise]

@[simp] theorem State.raiseAll_mode (s : State) (ns : List Notice) : (s.raiseAll ns).mode = s.mode := by
  induction ns generalizing s with
  | nil => rfl
  | cons n ns ih => exact ih (s.raise n)
@[simp] theorem State.raiseAll_resetHeld (s : State) (ns : List Notice) : (s.raiseAll ns).resetHeld = s.resetHeld := by
  induction ns generalizing s with
  | nil => rfl
  | cons n ns ih => exact ih (s.raise n)
@[simp] theorem State.raiseAll_bootCause (s : State) (ns : List Notice) : (s.raiseAll ns).bootCause = s.bootCause := by
  induction ns generalizing s with
  | nil => rfl
  | cons n ns ih => exact ih (s.raise n)
@[simp] theorem State.raiseAll_timebase (s : State) (ns : List Notice) : (s.raiseAll ns).timebase = s.timebase := by
  induction ns generalizing s with
  | nil => rfl
  | cons n ns ih => exact ih (s.raise n)
@[simp] theorem State.raiseAll_ports (s : State) (ns : List Notice) : (s.raiseAll ns).ports = s.ports := by
  induction ns generalizing s with
  | nil => rfl
  | cons n ns ih => exact ih (s.raise n)
@[simp] theorem State.raiseAll_monitors (s : State) (ns : List Notice) : (s.raiseAll ns).monitors = s.monitors := by
  induction ns generalizing s with
  | nil => rfl
  | cons n ns ih => exact ih (s.raise n)
@[simp] theorem State.raiseAll_zoom (s : State) (ns : List Notice) : (s.raiseAll ns).zoom = s.zoom := by
  induction ns generalizing s with
  | nil => rfl
  | cons n ns ih => exact ih (s.raise n)
@[simp] theorem State.raiseAll_otg (s : State) (ns : List Notice) : (s.raiseAll ns).otg = s.otg := by
  induction ns generalizing s with
  | nil => rfl
  | cons n ns ih => exact ih (s.raise n)
@[simp] theorem State.raiseAll_composer (s : State) (ns : List Notice) : (s.raiseAll ns).composer = s.composer := by
  induction ns generalizing s with
  | nil => rfl
  | cons n ns ih => exact ih (s.raise n)
@[simp] theorem State.raiseAll_arbiter (s : State) (ns : List Notice) : (s.raiseAll ns).arbiter = s.arbiter := by
  induction ns generalizing s with
  | nil => rfl
  | cons n ns ih => exact ih (s.raise n)
@[simp] theorem State.raiseAll_relay (s : State) (ns : List Notice) : (s.raiseAll ns).relay = s.relay := by
  induction ns generalizing s with
  | nil => rfl
  | cons n ns ih => exact ih (s.raise n)
@[simp] theorem State.raiseAll_freeSeed (s : State) (ns : List Notice) : (s.raiseAll ns).freeSeed = s.freeSeed := by
  induction ns generalizing s with
  | nil => rfl
  | cons n ns ih => exact ih (s.raise n)
@[simp] theorem State.raiseAll_pending (s : State) (ns : List Notice) : (s.raiseAll ns).pending = s.pending := by
  induction ns generalizing s with
  | nil => rfl
  | cons n ns ih => exact ih (s.raise n)

/-! ### The M in use (R4, R104) -/

@[simp] theorem State.takeCals_mode (s : State) : s.takeCals.mode = s.mode := rfl
@[simp] theorem State.takeCals_resetHeld (s : State) : s.takeCals.resetHeld = s.resetHeld := rfl
@[simp] theorem State.takeCals_bootCause (s : State) : s.takeCals.bootCause = s.bootCause := rfl
@[simp] theorem State.takeCals_timebase (s : State) : s.takeCals.timebase = s.timebase := rfl
@[simp] theorem State.takeCals_link (s : State) : s.takeCals.link = s.link := rfl
@[simp] theorem State.takeCals_ports (s : State) : s.takeCals.ports = s.ports := rfl
@[simp] theorem State.takeCals_port (s : State) (c : Cam) : s.takeCals.port c = s.port c := rfl
@[simp] theorem State.takeCals_monitors (s : State) : s.takeCals.monitors = s.monitors := rfl
@[simp] theorem State.takeCals_zoom (s : State) : s.takeCals.zoom = { s.zoom with priorM := .const none } := rfl
@[simp] theorem State.takeCals_otg (s : State) : s.takeCals.otg = s.otg := rfl
@[simp] theorem State.takeCals_composer (s : State) : s.takeCals.composer = s.composer := rfl
@[simp] theorem State.takeCals_arbiter (s : State) : s.takeCals.arbiter = s.arbiter := rfl
@[simp] theorem State.takeCals_relay (s : State) : s.takeCals.relay = s.relay := rfl
@[simp] theorem State.takeCals_freeSeed (s : State) : s.takeCals.freeSeed = s.freeSeed := rfl
@[simp] theorem State.takeCals_pending (s : State) : s.takeCals.pending = s.pending := rfl

/-- The M in use is the calibration part's, unless one from before a replacement is held. -/
theorem State.mOf_of_none {s : State} {c : Cam} (h : s.zoom.priorM.get c = none) : s.mOf c = s.calM c := by
  simp [State.mOf, h]

theorem State.mOf_of_some {s : State} {c : Cam} {m : Nat} (h : s.zoom.priorM.get c = some m) : s.mOf c = m := by
  simp [State.mOf, h]

@[simp] theorem State.takeCals_mOf (s : State) (c : Cam) : s.takeCals.mOf c = s.calM c := State.mOf_of_none (by simp)

/-- What is kept for a camera whose calibration part is replaced: the M in use, when it had a calibration part. -/
theorem State.keepM_get_same {s : State} {c : Cam} (h : (s.port c).cal ≠ none) : (s.keepM c).get c = some (s.mOf c) := by
  unfold State.keepM
  split
  · exact Quad.get_set_same _ _ _
  · exact absurd ‹_› h

theorem State.keepM_get_ne (s : State) {c d : Cam} (h : d ≠ c) : (s.keepM c).get d = s.zoom.priorM.get d := by
  unfold State.keepM
  split
  · exact Quad.get_set_ne _ _ h
  · rfl

/-- A replacement in RUN of a calibration part leaves the M in use of every camera as it was (R4). -/
theorem State.withCal_mOf {s : State} (c : Cam) (k : Cal) (f : Format) {d : Cam} (hrun : s.mode = .run)
    (hcal : (s.port c).cal ≠ none) : (s.withCal c k f).mOf d = s.mOf d := by
  by_cases hd : d = c
  · subst hd
    exact State.mOf_of_some (by simp [State.withCal, hrun, State.keepM_get_same hcal])
  · simp [State.withCal, hrun, State.mOf, State.calM, State.keepM_get_ne s hd, State.port, State.setPort,
      Quad.get_set_ne _ _ hd]

/-! ### Links after replies and notices -/

@[simp] theorem State.reply_link (s : State) (k t : Byte) (a : Status) (b : List Byte) :
    (s.reply k t a b).link = s.link.reply k t a b := rfl

@[simp] theorem State.raise_link (s : State) (n : Notice) : (s.raise n).link = s.link.raise n := rfl

@[simp] theorem State.answer_link (s : State) (i : Nat) (a : Status) (b : List Byte) :
    (s.answer i a b).link = s.link.answer i a b := rfl

end Machine

end Sys2Proof
end

