-- ==== Sys2Proof/Laws/Link.lean ====
section
/-!
SUPPORT. What the shared operations of the Control Link can do: acceptance, replies, answers to open requests, notices,
rejects and the removal of the head, each said once.
-/

namespace Sys2Proof.Machine

/-! ### Acceptance (R179, R180) -/

/-- A request that finds a free reply place is handled on the state with its claim. -/
theorem State.accept_ok {s : State} (h : s.canAccept) (f : State → State) : s.accept f = f s.taken := by
  have hf : s.link.full = false := by simpa [Link.full] using h.2
  simp [State.accept, h.1, hf, State.taken, Link.beginWrite]

/-- While RESETN is held a request does nothing. -/
theorem State.accept_held {s : State} (h : s.resetHeld = true) (f : State → State) : s.accept f = s := by
  simp [State.accept, h]

/-- A request that finds every reply place claimed is discarded as FULL. -/
theorem State.accept_full {s : State} (h : s.resetHeld = false) (hc : Config.replyPlaces ≤ s.link.claims)
    (f : State → State) : s.accept f = { s with link := s.link.beginWrite.discard .full } := by
  have hf : s.link.full = true := by simpa [Link.full] using hc
  simp [State.accept, h, hf]

/-- The three things acceptance can do. -/
theorem State.accept_cases (s : State) (f : State → State) :
    (s.resetHeld = true ∧ s.accept f = s) ∨
    (s.resetHeld = false ∧ Config.replyPlaces ≤ s.link.claims ∧
      s.accept f = { s with link := s.link.beginWrite.discard .full }) ∨
    (s.canAccept ∧ s.accept f = f s.taken) := by
  by_cases h : s.resetHeld = true
  · exact .inl ⟨h, s.accept_held h f⟩
  · have h' : s.resetHeld = false := by simpa using h
    by_cases hc : Config.replyPlaces ≤ s.link.claims
    · exact .inr (.inl ⟨h', hc, State.accept_full h' hc f⟩)
    · exact .inr (.inr ⟨⟨h', Nat.lt_of_not_le hc⟩, State.accept_ok ⟨h', Nat.lt_of_not_le hc⟩ f⟩)

@[simp] theorem State.taken_mode (s : State) : s.taken.mode = s.mode := rfl

/-- A request taken in CONFIG and RUN, outside BOOTING. -/
theorem State.acceptLive_ok {s : State} (h : s.canAccept) (hm : s.mode ≠ .booting) (kind tag : Byte)
    (f : State → State) : s.acceptLive kind tag f = f s.taken := by
  simp [State.acceptLive, State.accept_ok h, hm]

/-- A request in BOOTING is answered with WRONG_MODE (R183). -/
theorem State.acceptLive_booting {s : State} (h : s.canAccept) (hm : s.mode = .booting) (kind tag : Byte)
    (f : State → State) : s.acceptLive kind tag f = s.answered kind tag .wrongMode := by
  simp [State.acceptLive, State.accept_ok h, hm]
  rfl

/-- A request taken in the one mode that takes it. -/
theorem State.acceptIn_ok {s : State} (h : s.canAccept) {m : Mode} (hm : s.mode = m) (kind tag : Byte)
    (f : State → State) : s.acceptIn m kind tag f = f s.taken := by
  simp [State.acceptIn, State.accept_ok h, hm]

/-- A request taken in another mode is answered with WRONG_MODE. -/
theorem State.acceptIn_wrong {s : State} (h : s.canAccept) {m : Mode} (hm : s.mode ≠ m) (kind tag : Byte)
    (f : State → State) : s.acceptIn m kind tag f = s.answered kind tag .wrongMode := by
  simp [State.acceptIn, State.accept_ok h, hm]
  rfl

/-- A reply right after acceptance. -/
theorem State.taken_reply (s : State) (kind tag : Byte) (status : Status) (body : List Byte) :
    s.taken.reply kind tag status body = s.answered kind tag status body := rfl

/-! ### Counts in the outbound queue -/

@[simp] theorem noticeCount_append (p q : List OutFrame) : noticeCount (p ++ q) = noticeCount p + noticeCount q := by
  simp [noticeCount]

@[simp] theorem replyCount_append (p q : List OutFrame) : replyCount (p ++ q) = replyCount p + replyCount q := by
  simp [replyCount]

@[simp] theorem rejectCount_append (p q : List OutFrame) : rejectCount (p ++ q) = rejectCount p + rejectCount q := by
  simp [rejectCount]

/-- Every queued frame is a reply, a notice or the LINK_REJECT. -/
theorem outbound_length (q : List OutFrame) : q.length = replyCount q + noticeCount q + rejectCount q := by
  induction q with
  | nil => rfl
  | cons x q ih =>
    cases x <;>
      simp [replyCount, noticeCount, rejectCount, List.countP_cons, OutFrame.isReply, OutFrame.isNotice,
        OutFrame.isReject] at ih ⊢ <;> omega

/-! ### Notices (R181) -/

/-- A coalescing leaves every count as it was. -/
theorem coalesce_counts (n : Notice) (lost : Bool) (q p : List OutFrame) (h : coalesce n lost q = some p) :
    noticeCount p = noticeCount q ∧ replyCount p = replyCount q ∧ rejectCount p = rejectCount q := by
  induction q generalizing p with
  | nil => simp [coalesce] at h
  | cons x q ih =>
    cases x with
    | notice m k f =>
      unfold coalesce at h
      split at h
      · cases h
        simp [noticeCount, replyCount, rejectCount, List.countP_cons, OutFrame.isNotice, OutFrame.isReply,
          OutFrame.isReject]
      · obtain ⟨r, hr, rfl⟩ := Option.map_eq_some_iff.mp h
        have := ih r hr
        simpa [noticeCount, replyCount, rejectCount, List.countP_cons] using this
    | reply a b c d =>
      obtain ⟨r, hr, rfl⟩ := Option.map_eq_some_iff.mp h
      have := ih r hr
      simpa [noticeCount, replyCount, rejectCount, List.countP_cons] using this
    | reject a b c =>
      obtain ⟨r, hr, rfl⟩ := Option.map_eq_some_iff.mp h
      have := ih r hr
      simpa [noticeCount, replyCount, rejectCount, List.countP_cons] using this

/-- Dropping the oldest FRAME_DONE takes one notice out. -/
theorem dropFrameDone_counts (q p : List OutFrame) (h : dropFrameDone q = some p) :
    noticeCount p + 1 = noticeCount q ∧ replyCount p = replyCount q ∧ rejectCount p = rejectCount q := by
  induction q generalizing p with
  | nil => simp [dropFrameDone] at h
  | cons x q ih =>
    unfold dropFrameDone at h
    split at h
    · rename_i hx
      cases h
      cases x with
      | notice n k f =>
        simp [noticeCount, replyCount, rejectCount, List.countP_cons, OutFrame.isNotice, OutFrame.isReply,
          OutFrame.isReject]
      | reply a b c d => simp [OutFrame.isFrameDone] at hx
      | reject a b c => simp [OutFrame.isFrameDone] at hx
    · obtain ⟨r, hr, rfl⟩ := Option.map_eq_some_iff.mp h
      have := ih r hr
      simp [noticeCount, replyCount, rejectCount, List.countP_cons] at this ⊢
      omega

/-- What an operation on the queue says of its counts it says also behind the head. -/
theorem pastHead_cases {held : Bool} {f : List OutFrame → Option (List OutFrame)} {q p : List OutFrame}
    (h : pastHead held f q = some p) :
    f q = some p ∨ ∃ x rest r, q = x :: rest ∧ f rest = some r ∧ p = x :: r := by
  cases q with
  | nil => exact .inl h
  | cons x rest =>
    simp only [pastHead] at h
    by_cases hh : held = true
    · rw [if_pos hh] at h
      obtain ⟨r, hr, rfl⟩ := Option.map_eq_some_iff.mp h
      exact .inr ⟨x, rest, r, rfl, hr, rfl⟩
    · rw [if_neg hh] at h
      exact .inl h

/-- A raised notice leaves the replies, the rejects, the claims, the open requests and the holder as they are. -/
theorem Link.raise_frame (l : Link) (n : Notice) :
    replyCount (l.raise n).outbound = replyCount l.outbound ∧ rejectCount (l.raise n).outbound = rejectCount l.outbound
      ∧ (l.raise n).claims = l.claims ∧ (l.raise n).opened = l.opened ∧ (l.raise n).holder = l.holder
      ∧ (l.raise n).nextId = l.nextId ∧ (l.raise n).mask = l.mask ∧ (l.raise n).reading = l.reading := by
  have one : replyCount [OutFrame.notice n 1 l.loss] = 0 ∧ rejectCount [OutFrame.notice n 1 l.loss] = 0 := by
    simp [replyCount, rejectCount, OutFrame.isReply, OutFrame.isReject]
  unfold Link.raise
  split
  · simp
  split
  · simp [one]
  split
  · rename_i q hq
    rcases pastHead_cases hq with h | ⟨x, rest, r, hx, hr, rfl⟩
    · have := coalesce_counts _ _ _ _ h
      simp [this]
    · have := coalesce_counts _ _ _ _ hr
      simp [replyCount, rejectCount] at this
      simp [hx, replyCount, rejectCount, List.countP_cons, this]
  · split
    · rename_i q hq
      rcases pastHead_cases hq with h | ⟨x, rest, r, hx, hr, rfl⟩
      · have := dropFrameDone_counts _ _ h
        simp [this, one]
      · have := dropFrameDone_counts _ _ hr
        simp [replyCount, rejectCount] at this one
        simp [hx, replyCount, rejectCount, List.countP_cons, List.countP_append, this, OutFrame.isReply,
          OutFrame.isReject]
    · simp

/-- A raised notice never takes a sixteenth place. -/
theorem Link.raise_notices (l : Link) (n : Notice) (h : noticeCount l.outbound ≤ Config.noticePlaces) :
    noticeCount (l.raise n).outbound ≤ Config.noticePlaces := by
  have one : noticeCount [OutFrame.notice n 1 l.loss] = 1 := by simp [noticeCount, OutFrame.isNotice]
  unfold Link.raise
  split
  · exact h
  split
  · simp [one]; omega
  split
  · rename_i q hq
    rcases pastHead_cases hq with h' | ⟨x, rest, r, hx, hr, rfl⟩
    · have := coalesce_counts _ _ _ _ h'
      simp [this]; omega
    · have := coalesce_counts _ _ _ _ hr
      rw [hx] at h
      simp [noticeCount, List.countP_cons] at this h ⊢
      omega
  · split
    · rename_i q hq
      rcases pastHead_cases hq with h' | ⟨x, rest, r, hx, hr, rfl⟩
      · have := dropFrameDone_counts _ _ h'
        simp [one]; omega
      · have := dropFrameDone_counts _ _ hr
        rw [hx] at h
        simp [noticeCount, List.countP_cons, List.countP_append, OutFrame.isNotice] at this h ⊢
        omega
    · exact h

/-- The law of the link is kept by a raised notice. -/
theorem Link.Law.raise {l : Link} (h : l.Law) (n : Notice) : (l.raise n).Law := by
  obtain ⟨hr, hj, hc, ho, hh, -, -, -⟩ := l.raise_frame n
  exact ⟨by rw [hc, ho, hr]; exact h.claims, by rw [hc]; exact h.places, l.raise_notices n h.notices,
    by rw [hj, hh]; exact h.holder⟩

/-! ### Answers and rejects -/

/-- An open request that is answered leaves the open requests, and its reply takes its claimed place. -/
theorem Link.Law.answer {l : Link} (h : l.Law) (id : Nat) (status : Status) (body : List Byte) :
    (l.answer id status body).Law := by
  unfold Link.answer
  split
  · rename_i o ho
    have hm : o ∈ l.opened := List.mem_of_find?_eq_some ho
    have hp : (o.id == id) = true := List.find?_some (p := fun o : OpenRequest => o.id == id) ho
    have hlen := List.length_eraseP_of_mem (p := fun o : OpenRequest => o.id == id) hm hp
    have hpos : 0 < l.opened.length := List.length_pos_of_mem hm
    refine ⟨?_, h.places, ?_, ?_⟩
    · have := h.claims
      simp [Link.reply, replyCount, OutFrame.isReply] at this ⊢
      omega
    · have := h.notices
      simpa [Link.reply, noticeCount, OutFrame.isNotice] using this
    · show rejectCount (l.outbound ++ [OutFrame.reply o.kind o.tag status body]) = _
      rw [rejectCount_append]
      exact h.holder
  · exact h

/-- A discarded frame keeps the law of the link. -/
theorem Link.Law.discard {l : Link} (h : l.Law) (reason : RejectReason) : (l.discard reason).Law := by
  have counts : ∀ q : List OutFrame, replyCount (q.map (againRejected reason)) = replyCount q ∧
      noticeCount (q.map (againRejected reason)) = noticeCount q ∧
      rejectCount (q.map (againRejected reason)) = rejectCount q := by
    intro q
    induction q with
    | nil => exact ⟨rfl, rfl, rfl⟩
    | cons x q ih =>
      cases x <;>
        simp_all [replyCount, noticeCount, rejectCount, List.countP_cons, againRejected, OutFrame.isReply,
          OutFrame.isNotice, OutFrame.isReject]
  unfold Link.discard
  split
  · rename_i hh
    obtain ⟨h1, h2, h3⟩ := counts l.outbound
    exact ⟨by simpa [h1] using h.claims, h.places, by simpa [h2] using h.notices, by simpa [h3, hh] using h.holder⟩
  · rename_i hh
    have hh' : l.holder = false := by simpa using hh
    refine ⟨?_, h.places, ?_, ?_⟩
    · simpa [replyCount, OutFrame.isReply] using h.claims
    · simpa [noticeCount, OutFrame.isNotice] using h.notices
    · have := h.holder
      simp [hh'] at this
      simp [rejectCount, OutFrame.isReject] at this ⊢
      exact this

/-- The removal of the head keeps the law of the link. -/
theorem Link.Law.removeHead {l : Link} (h : l.Law) : l.removeHead.Law := by
  obtain ⟨h1, h2, h3, h4⟩ := h
  unfold Link.removeHead
  split
  · exact ⟨h1, h2, h3, h4⟩
  all_goals
    rename_i hq
    rw [hq] at h1 h3 h4
    simp [replyCount, noticeCount, rejectCount, List.countP_cons, OutFrame.isReply, OutFrame.isNotice,
      OutFrame.isReject] at h1 h3 h4
    refine ⟨?_, ?_, ?_, ?_⟩ <;>
      simp [replyCount, noticeCount, rejectCount] <;> first | omega | (split at h4 <;> simp_all)

end Sys2Proof.Machine
end

