-- ==== Sys2Proof/Laws/Ports.lean ====
section
/-!
SUPPORT. What the shared operations of the Camera Ports can do: one slot of a ring changed, lines withdrawn, a frame
discarded, a slot becoming READY, entry to FAULTED and arming, each said once.
-/

namespace Sys2Proof.Machine

/-! ### Repeated updates -/

@[simp] theorem State.setPort_setPort (s : State) (c : Cam) (p q : Port) :
    (s.setPort c p).setPort c q = s.setPort c q := by cases c <;> rfl

@[simp] theorem State.setMonitor_setMonitor (s : State) (c : Cam) (m n : Monitor) :
    (s.setMonitor c m).setMonitor c n = s.setMonitor c n := by cases c <;> rfl

@[simp] theorem State.setBus_setBus (s : State) (x : Bus) (a b : BusState) :
    (s.setBus x a).setBus x b = s.setBus x b := by cases x <;> rfl

/-- A port put back as it stands changes nothing. -/
@[simp] theorem State.setPort_self (s : State) (c : Cam) : s.setPort c (s.port c) = s := by cases c <;> rfl

@[simp] theorem State.setMonitor_self (s : State) (c : Cam) : s.setMonitor c (s.monitor c) = s := by cases c <;> rfl

@[simp] theorem State.setBus_self (s : State) (x : Bus) : s.setBus x (s.bus x) = s := by cases x <;> rfl

/-! ### Updates that act on different parts: port, monitor and bus inside, notice and reply outside -/

@[simp] theorem State.raise_setPort (s : State) (c : Cam) (p : Port) (n : Notice) :
    (s.raise n).setPort c p = (s.setPort c p).raise n := rfl

@[simp] theorem State.raise_setMonitor (s : State) (c : Cam) (m : Monitor) (n : Notice) :
    (s.raise n).setMonitor c m = (s.setMonitor c m).raise n := rfl

@[simp] theorem State.raise_setBus (s : State) (x : Bus) (b : BusState) (n : Notice) :
    (s.raise n).setBus x b = (s.setBus x b).raise n := rfl

@[simp] theorem State.reply_setPort (s : State) (c : Cam) (p : Port) (kind tag : Byte) (status : Status)
    (body : List Byte) : (s.reply kind tag status body).setPort c p = (s.setPort c p).reply kind tag status body := rfl

@[simp] theorem State.reply_setMonitor (s : State) (c : Cam) (m : Monitor) (kind tag : Byte) (status : Status)
    (body : List Byte) :
    (s.reply kind tag status body).setMonitor c m = (s.setMonitor c m).reply kind tag status body := rfl

@[simp] theorem State.reply_setBus (s : State) (x : Bus) (b : BusState) (kind tag : Byte) (status : Status)
    (body : List Byte) : (s.reply kind tag status body).setBus x b = (s.setBus x b).reply kind tag status body := rfl

@[simp] theorem State.setMonitor_setPort (s : State) (c d : Cam) (m : Monitor) (p : Port) :
    (s.setMonitor c m).setPort d p = (s.setPort d p).setMonitor c m := rfl

@[simp] theorem State.setBus_setPort (s : State) (x : Bus) (d : Cam) (b : BusState) (p : Port) :
    (s.setBus x b).setPort d p = (s.setPort d p).setBus x b := rfl

@[simp] theorem State.setBus_setMonitor (s : State) (x : Bus) (d : Cam) (b : BusState) (m : Monitor) :
    (s.setBus x b).setMonitor d m = (s.setMonitor d m).setBus x b := rfl

/-! ### One slot of a ring -/

/-- Changing a slot that is there is putting its changed record in its place. -/
theorem modify_of_get {ring : List Slot} {k : Nat} {x : Slot} (h : ring[k]? = some x) (f : Slot → Slot) :
    ring.modify k f = ring.set k (f x) := by
  rw [List.modify_eq_set_getElem?, h]; rfl

/-- A slot put in place is there. -/
theorem get_set_of_get {ring : List Slot} {k : Nat} {x : Slot} (h : ring[k]? = some x) (y : Slot) :
    (ring.set k y)[k]? = some y := by
  obtain ⟨hlt, -⟩ := List.getElem?_eq_some_iff.mp h
  simp [hlt]

/-- The first slot in a state. -/
theorem Port.slotIn_eq {p : Port} {k : Nat} {x : Slot} {st : SlotState} (h : p.ring[k]? = some x) (hx : x.state = st)
    (hb : ∀ j y, j < k → p.ring[j]? = some y → y.state ≠ st) : p.slotIn st = some k := by
  unfold Port.slotIn
  obtain ⟨hlt, he⟩ := List.getElem?_eq_some_iff.mp h
  rw [List.findIdx?_eq_some_iff_getElem]
  refine ⟨hlt, by simp [he, hx], fun j hj => ?_⟩
  have := hb j _ hj (List.getElem?_eq_getElem (Nat.lt_trans hj hlt))
  simpa using this

/-- No slot is in a state. -/
theorem Port.slotIn_none {p : Port} {st : SlotState} (h : ∀ y ∈ p.ring, y.state ≠ st) : p.slotIn st = none := by
  unfold Port.slotIn
  simpa using h

/-- Some slot is in a state. -/
theorem Port.slotIn_isSome (p : Port) (st : SlotState) : (p.slotIn st).isSome = p.ring.any (·.state == st) := by
  simp [Port.slotIn, List.findIdx?_isSome]

/-! ### Lines withdrawn (R19) -/

/-- The lines not kept leave, but for the oldest line while its write is in flight. -/
theorem Port.withdraw_eq (p : Port) (keep : BufferedLine → Bool) :
    p.withdraw keep = { p with buffer :=
      if p.inFlight then p.buffer.take 1 ++ (p.buffer.drop 1).filter keep else p.buffer.filter keep } := by
  obtain ⟨format, cal, state, mode, reason, seq, buffer, inFlight, ring, sums, region, counters, pattern⟩ := p
  cases buffer <;> cases inFlight <;> simp [Port.withdraw]

/-- Every waiting line leaves; a line in flight stays. -/
theorem Port.withdrawAll_eq (p : Port) :
    p.withdrawAll = { p with buffer := if p.inFlight then p.buffer.take 1 else [] } := by
  obtain ⟨format, cal, state, mode, reason, seq, buffer, inFlight, ring, sums, region, counters, pattern⟩ := p
  cases buffer <;> cases inFlight <;> simp [Port.withdrawAll, Port.withdraw]

/-- A discarded slot is freed and its lines leave, but for one whose write is in flight (R19). -/
theorem Port.discardSlot_eq {p : Port} {k : Nat} {x : Slot} (h : p.ring[k]? = some x) :
    p.discardSlot k = { p with
      ring := p.ring.set k x.freed
      buffer := if p.inFlight then p.buffer.take 1 ++ (p.buffer.drop 1).filter fun l => !(l.slot == k && l.seq == x.seq)
        else p.buffer.filter fun l => !(l.slot == k && l.seq == x.seq) } := by
  simp [Port.discardSlot, h, Port.withdrawFrame, Port.withdraw_eq, Port.modSlot, modify_of_get h]

/-- The means of an ended frame go into its slot, and the rectangle is held no longer (R107, R108). -/
theorem Port.formMeans_eq {p : Port} {k : Nat} {x : Slot} (h : p.ring[k]? = some x) :
    p.formMeans k = { p with
      ring := p.ring.set k { x with full := some p.sums.full.means, region := p.region.map fun _ => p.sums.region.means }
      region := none } := by
  simp [Port.formMeans, Port.modSlot, modify_of_get h]

/-- The sum and the count of a tally grow by those of the samples added (R23). -/
theorem Tally.addAll_eq (t : Tally) (xs : List Byte) :
    t.addAll xs = ⟨t.sum + (xs.map BitVec.toNat).sum, t.count + xs.length⟩ := by
  unfold Tally.addAll
  induction xs generalizing t with
  | nil => simp
  | cons x xs ih => simp [ih, Tally.add]; omega

/-! ### Camera state, countdown, faults (R6, R14, R28) -/

/-- A change of state is the new state and its notice. -/
theorem State.changeState_eq (s : State) (c : Cam) (new : CamState) (reason : Reason) :
    s.changeState c new reason =
      (s.setPort c { s.port c with state := new }).raise (.cameraState c (s.port c).state new reason) := rfl

/-- Arming a configured camera's countdown. -/
theorem State.arm_eq {s : State} {c : Cam} {k : Cal} (h : (s.port c).cal = some k) (timeout : Cal → Nat) :
    s.arm c timeout = s.setMonitor c { s.monitor c with countdown := some (timeout k) } := by
  simp [State.arm, h]

/-- Stopping the countdown. -/
theorem State.disarm_eq (s : State) (c : Cam) : s.disarm c = s.setMonitor c { s.monitor c with countdown := none } := rfl

/-- Entry to FAULTED, whole. -/
theorem State.enterFaulted_eq (s : State) (c : Cam) (reason : Reason) :
    s.enterFaulted c reason =
      (s.setPort c { ({ s.port c with state := .faulted }).discardWork with faultReason := reason }).raise
        (.cameraState c (s.port c).state .faulted reason) := by
  simp [State.enterFaulted, State.changeState_eq]

/-- A slot of a STREAMING camera becomes READY: the state of the camera stays. -/
theorem State.slotReady_streaming {s : State} {c : Cam} {k : Nat} {x : Slot} (h : (s.port c).ring[k]? = some x)
    (hs : (s.port c).state = .streaming) :
    s.slotReady c k = s.setPort c { s.port c with
      ring := (s.port c).ring.set k { x with state := .ready }, counters := (s.port c).counters.ready x.long } := by
  simp [State.slotReady, h, State.frameReady, Port.modSlot, modify_of_get h, hs]

/-- A slot of a WAITING camera becomes READY: the camera enters STREAMING. -/
theorem State.slotReady_waiting {s : State} {c : Cam} {k : Nat} {x : Slot} (h : (s.port c).ring[k]? = some x)
    (hs : (s.port c).state = .waiting) :
    s.slotReady c k = (s.setPort c { s.port c with
      ring := (s.port c).ring.set k { x with state := .ready }, counters := (s.port c).counters.ready x.long
      state := .streaming }).raise (.cameraState c .waiting .streaming .frame) := by
  simp [State.slotReady, h, State.frameReady, Port.modSlot, modify_of_get h, hs, State.changeState_eq]

/-- A slot of a STALLED camera becomes READY after the instant of its stall: the camera enters STREAMING with its stall
count 0. -/
theorem State.slotReady_stalled {s : State} {c : Cam} {k : Nat} {x : Slot} (h : (s.port c).ring[k]? = some x)
    (hs : (s.port c).state = .stalled) (hn : (s.monitor c).stalledNow = false) :
    s.slotReady c k = ((s.setPort c { s.port c with
      ring := (s.port c).ring.set k { x with state := .ready }, counters := (s.port c).counters.ready x.long
      state := .streaming }).setMonitor c { s.monitor c with stallCount := 0 }).raise
        (.cameraState c .stalled .streaming .frame) := by
  simp [State.slotReady, h, State.frameReady, Port.modSlot, modify_of_get h, hs, hn, State.changeState_eq]

/-- A slot becomes READY at the instant at which its camera stalled: the state of the camera stays (R37). -/
theorem State.slotReady_stalledNow {s : State} {c : Cam} {k : Nat} {x : Slot} (h : (s.port c).ring[k]? = some x)
    (hs : (s.port c).state = .stalled) (hn : (s.monitor c).stalledNow = true) :
    s.slotReady c k = s.setPort c { s.port c with
      ring := (s.port c).ring.set k { x with state := .ready }, counters := (s.port c).counters.ready x.long } := by
  simp [State.slotReady, h, State.frameReady, Port.modSlot, modify_of_get h, hs, hn]

end Sys2Proof.Machine
end

