-- ==== Sys2Proof/Laws/Store.lean ====
section
/-!
SUPPORT. The frame store: storing a row keeps an area in canonical form, a stored row reads back, every other row reads
as before, and the areas at reset are canonical.
-/

namespace Sys2Proof.Machine

/-- Rows of an area after a store are the stored row and rows that were there. -/
theorem mem_storeRow {r : Nat} {d : RowData} {area : List (Nat × RowData)} {x : Nat × RowData}
    (h : x ∈ storeRow r d area) : x = (r, d) ∨ x ∈ area := by
  induction area with
  | nil => simpa [storeRow] using h
  | cons y rest ih =>
    obtain ⟨q, e⟩ := y
    unfold storeRow at h
    split at h
    · simpa using h
    · split at h
      · rcases List.mem_cons.mp h with h | h
        · exact .inl h
        · exact .inr (List.mem_cons_of_mem _ h)
      · rcases List.mem_cons.mp h with h | h
        · exact .inr (by simp [h])
        · rcases ih h with h | h
          · exact .inl h
          · exact .inr (List.mem_cons_of_mem _ h)

/-- Storing a row keeps the canonical form. -/
theorem storeRow_wf (r : Nat) (d : RowData) (area : List (Nat × RowData)) (h : areaWf area = true) :
    areaWf (storeRow r d area) = true := by
  simp only [areaWf, decide_eq_true_eq] at h ⊢
  induction area with
  | nil => simp [storeRow]
  | cons y rest ih =>
    obtain ⟨q, e⟩ := y
    obtain ⟨hq, hrest⟩ := List.pairwise_cons.mp h
    unfold storeRow
    split
    · rename_i hr
      refine List.pairwise_cons.mpr ⟨?_, h⟩
      intro x hx
      rcases List.mem_cons.mp hx with rfl | hx
      · exact hr
      · exact Nat.lt_trans hr (hq x hx)
    · split
      · rename_i hr hqr
        subst hqr
        exact List.pairwise_cons.mpr ⟨hq, hrest⟩
      · rename_i hr hqr
        refine List.pairwise_cons.mpr ⟨?_, ih hrest⟩
        intro x hx
        rcases mem_storeRow hx with rfl | hx
        · show q < r
          omega
        · exact hq x hx

/-- A stored row reads back. -/
theorem findRow_storeRow_same (r : Nat) (d : RowData) (area : List (Nat × RowData)) :
    findRow r (storeRow r d area) = some d := by
  induction area with
  | nil => simp [storeRow, findRow]
  | cons y rest ih =>
    obtain ⟨q, e⟩ := y
    unfold storeRow
    split
    · simp [findRow]
    · split
      · simp [findRow]
      · rename_i h1 h2
        simp [findRow, h2, ih]

/-- Every other row reads as before. -/
theorem findRow_storeRow_ne {r k : Nat} (d : RowData) (area : List (Nat × RowData)) (h : k ≠ r) :
    findRow k (storeRow r d area) = findRow k area := by
  induction area with
  | nil => simp [storeRow, findRow, h]
  | cons y rest ih =>
    obtain ⟨q, e⟩ := y
    unfold storeRow
    split
    · simp [findRow, h]
    · split
      · rename_i h1 h2
        subst h2
        simp [findRow, h]
      · simp only [findRow, ih]

/-- The areas of a new ring are canonical. -/
theorem freshRing_wf (n seed : Nat) : ∀ x ∈ freshRing n seed, areaWf x.area = true := by
  intro x hx
  obtain ⟨k, -, rfl⟩ := List.mem_map.mp hx
  rfl

/-- No ring has a slot at reset. -/
theorem reset_rings (c : Cam) : (State.reset.port c).ring = [] := by cases c <;> rfl

end Sys2Proof.Machine
end

