-- ==== Sys2Proof/Tests/Slice0.lean ====
section
/-!
SUPPORT. Tests on small states: the well-formedness checks, values from the spec's worked examples, one-step tests of the
commands, and for each obligation with hypotheses a witness that its hypotheses are met, clause by clause.
-/

namespace Sys2Proof.Tests

open Sys2Proof.Machine

/-! ### Small states -/

/-- A calibration part in its ranges (M of camera 0 of the worked examples). -/
def cal0 : Cal := ⟨1024, 4096, 0, 0, 0, 0, 33333, 40000, 100000, true, .a, 0x10⟩

/-- A format part: 64 by 64 pixels, three slots. -/
def fmt0 : Format := ⟨64, 64, 3⟩

/-- A slot in a state, of sequence number 5. -/
def slot (state : SlotState) : Slot :=
  ⟨state, .none, false, 5, 100, none, 0, false, 0, false, false, none, none, 0, []⟩

/-- The block in CONFIG, nothing configured. -/
def live : State := { State.reset with mode := .config, arbiter := { Arbiter.reset with channel := .free } }

/-- Camera 0 configured, in a state, with a ring. -/
def camera (state : CamState) (ring : List Slot) : State :=
  live.setPort .c0 { Port.reset with format := some fmt0, cal := some cal0, state := state, ring := ring }

/-- As `camera`, with a countdown at remaining time 0 and a stall count. -/
def counting (state : CamState) (count : Nat) : State :=
  (camera state [slot .ready]).setMonitor .c0 ⟨some 0, count, false⟩

/-- A source entry and a record that names it. -/
def entry0 : SourceEntry := ⟨.c0, 0, 5, 100, ⟨0, 0, 64, 36, 6554, 6554, false, false⟩, .identity, false⟩
def record (engine : Engine) : Record :=
  ⟨7, 1000, 900, 1024, 1024, engine, 0, .normal, some entry0, none, false, false, false, false, 0⟩

/-- RUN with a format, a record and a raster position. -/
def running (raster : Raster) : State :=
  { live with
    mode := .run
    otg := { Otg.reset with format := some ⟨640, 360, 30000⟩, blanking := some ⟨64, 8⟩, raster := raster }
    zoom := { Zoom.reset with engine := .steady .c0, current := some (record (.steady .c0)) } }

/-- As `running`, in the microsecond that a pixel of the frame falls in. -/
def atPixel (raster : Raster) (pixel : Nat) : State :=
  let s := running raster
  { s with otg := { s.otg with phase := 1000 * pixel + 1 } }

/-- A bus with a running script and a script of camera 0. -/
def scripted (steps : List Step) (phase : Phase) (engine : Option Busy) : State :=
  let s := (camera .loading []).setBus .a { BusState.reset with
    engine := engine, running := some ⟨⟨.c0, .start, 0x10⟩, 0, phase, 0, false⟩ }
  { s with relay := { s.relay with scripts := s.relay.scripts.set .c0 ⟨steps, []⟩ } }

theorem live_accepts : live.canAccept := ⟨rfl, by decide⟩
theorem running_accepts (x : Raster) : (running x).canAccept := ⟨rfl, show 0 < 8 by decide⟩

/-! ### Well-formedness: each check refuses an ill-formed command -/

theorem test_wf_read_is_no_write : Instr.wf (.writeTransaction 0x02 []) = false := by decide
theorem test_wf_known_kind : Instr.wf (.unknownKind 0 0x19) = false := by decide
theorem test_wf_unknown_kind : Instr.wf (.unknownKind 0 0x1A) = true ∧ Instr.wf (.unknownKind 0 0) = true := by decide
theorem test_wf_slots_zero_removes : Instr.wf (.setCameraFormat 0 0 64 64 0) = false := by decide
theorem test_wf_start_mode : Instr.wf (.startCamera 0 0 1) = false := by decide
theorem test_wf_zoom_mode : Instr.wf (.zoomToAppend 0 1024 1 1) = false := by decide
theorem test_wf_arbiter_entries : Instr.wf (.setArbiter 0 ⟨0, 0, 0, [], [], []⟩) = false := by decide
theorem test_wf_script_length :
    Instr.wf (.loadScript 0 0 0 (List.replicate 31 ⟨2, 1, 0, 0, 0, 0⟩)) = false := by decide

/-! ### Geometry (5.5, 5.10) -/

/-- Section 5.5: camera 0 and camera 1 at 3379. -/
theorem test_geometry_wide : geometryOf ⟨4000, 3000, 1024, 0, 0, 0, 0, 1500, 3379, 3840, 2160⟩ =
    ⟨22304, 18544, 1212, 682, 20685, 20692, false, false⟩ := by decide
theorem test_geometry_tele : geometryOf ⟨4000, 3000, 3072, 24, -40, 480, 0, 1500, 3379, 3840, 2160⟩ =
    ⟨3256, 7608, 3636, 2044, 62054, 62016, false, false⟩ := by decide

/-- Section 5.10: the telephoto held at its M, with EDGE_X, and the aspect branch. -/
theorem test_geometry_edge : geometryOf ⟨4000, 3000, 3072, 24, -40, 480, 0, 1500, 3072, 3840, 2160⟩ =
    ⟨0, 5960, 4000, 2250, 68267, 68267, true, false⟩ := by decide
theorem test_geometry_aspect :
    cropSize ⟨4096, 1728, 1024, 0, 0, 0, 0, 0, 1363, 3840, 2160⟩ = (3072, 1728) ∧
    cropSize ⟨4096, 1728, 1024, 0, 0, 0, 0, 0, 1364, 3840, 2160⟩ = (3074, 1728) := by decide
theorem test_parallax : parallax 32767 100 = 4096 ∧ parallax (-3) 2000 = -2 ∧ parallax 480 65535 = 7
    ∧ parallax 480 0 = 0 := by decide

/-! ### Sampling, correction and blend (5.7, R99, R100) -/

/-- Section 5.7: source coordinates of the telephoto and the wide camera. -/
theorem test_lattice_tele : let x : Lattice := ⟨3256, 4096, 62054, 3999⟩
    x.index 0 = 203 ∧ x.frac 0 = 121 ∧ x.index 1 = 204 ∧ x.frac 1 = 107 ∧ x.index 3839 = 3838 ∧ x.frac 3839 = 128
      ∧ x.columnsRead 3840 = (203, 3637) := by decide
theorem test_lattice_chroma : let x : Lattice := ⟨3256, 2048, 62054, 1999⟩
    x.index 0 = 101 ∧ x.frac 0 = 185 ∧ x.index 1919 = 1918 ∧ x.frac 1919 = 195 ∧ x.columnsRead 1920 = (101, 1819) := by
  decide
theorem test_lattice_rows : let x : Lattice := ⟨7608, 4096, 62016, 2999⟩
    x.index 0 = 475 ∧ x.frac 0 = 121 ∧ x.rowsRead 2159 = [2518, 2519] := by decide

/-- Section 5.7: both passes of the first output pixel, its correction and its blend. -/
theorem test_first_pixel :
    lerp (lerp 100 140 121) (lerp 104 148 121) 121 = 122 ∧ lerp (lerp 108 112 168) (lerp 110 114 168) 129 = 112
      ∧ corrLuma 1066 122 = 127 ∧ blendSample 96 112 127 = 118 := by decide
theorem test_correction : corrLuma 1098 200 = 214 ∧ corrLuma 1098 240 = 255 ∧ corrChroma (-32) 10 = 0 := by decide
theorem test_blend : blendSample 96 100 140 = 115 ∧ blendWeight 3 8 = 96 := by decide

/-! ### Photometric matching (R106, R107, 6.3, 6.8, 6.11, 6.12) -/

theorem test_region_rectangle :
    regionSize 4000 1024 3072 = 1332 ∧ regionSize 3000 1024 3072 = 1000 ∧ regionFirst 4000 1332 0 = 1334
      ∧ regionFirst 3000 1000 0 = 1000 := by decide
theorem test_pattern_means : Tally.mean ⟨1589753872, 12000000⟩ = 132 ∧ Tally.mean ⟨181152000, 1332000⟩ = 136 :=
  ⟨show (1589753872 + 12000000 / 2) / 12000000 = 132 by norm_num, show (181152000 + 1332000 / 2) / 1332000 = 136 by norm_num⟩

/-- Section 6.8: three smoothing steps of the second variant, and means taken through a correction. -/
theorem test_smoothing : let m := measured ⟨118, 126, 131⟩ ⟨110, 120, 134⟩ false
    m = ⟨1098, 6, -3, false⟩ ∧ Corr.smooth ⟨1024, 0, 0, false⟩ m = ⟨1042, 1, 0, false⟩
      ∧ Corr.smooth ⟨1042, 1, 0, false⟩ m = ⟨1056, 2, 0, false⟩ ∧ Corr.smooth ⟨1056, 2, 0, false⟩ m = ⟨1066, 3, 0, false⟩ := by
  decide
theorem test_means_through : Means.through ⟨118, 126, 131⟩ ⟨1040, 2, -1, false⟩ = ⟨120, 128, 130⟩ ∧ measuredGain 120 110 = 1117 := by
  decide

/-- Section 6.12: the measurement of a fallback, and the first relaxation after it; 6.11: relaxation after COMPLETE. -/
theorem test_fallback_means : Means.through ⟨110, 126, 131⟩ ⟨1040, 2, -1, false⟩ = ⟨112, 128, 130⟩ := by decide
theorem test_fallback_measure : measured ⟨112, 128, 130⟩ ⟨118, 127, 133⟩ false = ⟨972, 1, -3, false⟩ := by decide
theorem test_relaxation_after_fallback : Corr.relax (⟨972, 1, -3, false⟩ : Corr) = (⟨985, 0, -2, false⟩ : Corr) := by
  simp [Corr.relax, relaxStep, show Int.sign (-52) = -1 from rfl, show Int.sign (-3) = -1 from rfl]
theorem test_relaxation_after_complete : Corr.relax (⟨1066, 3, 0, true⟩ : Corr) = (⟨1056, 2, 0, true⟩ : Corr) := rfl
theorem test_relaxation_ends : Corr.relax (⟨1025, 0, 0, true⟩ : Corr) = (⟨1024, 0, 0, false⟩ : Corr) := rfl

/-! ### Thresholds and fresh choice (Table 15, R57) -/

/-- Cameras 0, 1 and 2 of Table 15. -/
def table15 : State :=
  let put := fun (s : State) (c : Cam) (m z : Nat) =>
    s.setPort c { Port.reset with format := some fmt0, cal := some { cal0 with m := m, zmax := z }, state := .streaming }
  put (put (put (running .stopped) .c0 1024 4096) .c1 3072 12288) .c2 10240 40960

theorem test_thresholds : table15.upOf .c1 = 3378 ∧ table15.downOf .c1 = 3225 ∧ table15.upOf .c2 = 11260
    ∧ table15.downOf .c2 = 10750 ∧ table15.upOf .c0 = 1024 := by decide
theorem test_fresh_choice : table15.freshChoice 3377 = some .c0 ∧ table15.freshChoice 3378 = some .c1
    ∧ table15.freshChoice 11259 = some .c1 ∧ table15.freshChoice 11260 = some .c2 := by decide

/-! ### The hand-off engine (4.13, 4.14) -/

/-- Section 4.13, b9: BLEND(0, 1, 2, 8, FORWARD) at candidate 3200 turns BACK with REVERSE. -/
theorem test_blend_reverses : let s := { table15 with zoom := { table15.zoom with engine := .blend .c0 .c1 2 8 .forward } }
    (s.handoff ⟨3200, .const false, 9⟩).engine = .blend .c0 .c1 1 8 .back
      ∧ (s.handoff ⟨3200, .const false, 9⟩).notices = [.handoff .reverse (some .c0) (some .c1) 9] := by decide

/-- Section 4.14, c0: the incoming camera stalls in the blend. -/
theorem test_blend_loses_incoming :
    let t := table15.setPort .c2 { table15.port .c2 with state := .stalled }
    let s := { t with zoom := { t.zoom with engine := .blend .c1 .c2 3 8 .forward } }
    (s.handoff ⟨11500, .const false, 9⟩).engine = .steady .c1 := by decide

/-- Section 4.13, b0: a candidate at U_1 leads from STEADY(0) to PREPARE(0, 1). -/
theorem test_prepare_begins : (table15.handoff ⟨3379, .const false, 9⟩).engine = .prepare .c0 .c1 0 true := by decide

/-! ### Ramp and window (R48, R49) -/

/-- A segment of two frames: active from 1024, one step, and gone with its target the rest value (R47 to R49). -/
theorem test_ramp_steps :
    rampStart (256, 2000) 1024 7 [⟨3379, 2, .append, none⟩] 1024
      = ([⟨2000, 2, .append, some ⟨1024, 0⟩⟩], 1024, [.zoomLimit .clamped 2000 7])
    ∧ rampAdvance [⟨2000, 2, .append, some ⟨1024, 0⟩⟩] 1024 = ([⟨2000, 2, .append, some ⟨1024, 1⟩⟩], 1024)
    ∧ rampAdvance [⟨2000, 2, .append, some ⟨1024, 1⟩⟩] 1024 = ([], 2000) := by decide

theorem test_candidate : candidateOf 1024 3379 4 3 = 3379 ∧ candidateOf 1024 1027 2 0 = 1026 ∧ candidateOf 1027 1024 2 0 = 1025 := by
  decide
theorem test_window_holds : windowZoom (some (3072, 4096)) 3100 11500 false = ⟨4096, true, false⟩
    ∧ windowZoom (some (1024, 4096)) 3100 11500 true = ⟨4096, false, true⟩ ∧ windowZoom none 3100 11500 false = ⟨3100, false, false⟩ := by
  decide

/-! ### Selection across the wrap of the Timebase (7.8) -/

/-- Candidates of equal age: the later sequence number, and with equal numbers the lower slot (entry 18). -/
theorem test_selection_tie :
    selectFrom [{ slot .ready with seq := 4294967295 }, { slot .ready with seq := 0 }] 100 = some ⟨1, 0, 100, false⟩ ∧
    selectFrom [slot .ready, slot .ready] 100 = some ⟨0, 5, 100, false⟩ := by decide

theorem test_selection_wraps :
    targetTime 10000 16667 = 4294960629 ∧
    selectFrom [{ slot .ready with seq := 880, start := 4294927296, pin := .primary },
      { slot .ready with seq := 881, start := 4294960000 }, slot .free] (targetTime 10000 16667)
      = some ⟨1, 881, 4294960000, false⟩ ∧
    selectFrom [{ slot .ready with seq := 880, start := 4294927296 },
      { slot .ready with seq := 881, start := 4294960000 }, { slot .ready with seq := 882, start := 26037 }] 23333
      = some ⟨1, 881, 4294960000, false⟩ := by decide

/-! ### Frame sync (R176) -/

theorem test_pulse_limits : frameMicros ⟨3840, 2160, 594000⟩ ⟨560, 90⟩ = 16666
    ∧ effectiveOffset ⟨true, true, 16000, 1000⟩ 16666 = 15666 ∧ frameMicros ⟨640, 360, 600000⟩ ⟨64, 8⟩ = 431
    ∧ effectiveWidth ⟨true, true, 0, 1000⟩ 431 = 431 := by decide

/-! ### The default arbitration table (9.5) -/

/-- Opportunity 2 of section 9.5: W1, RP and RS present and none is urgent; W1 wins the round-robin step. -/
theorem test_default_table_round_robin :
    let s := { (running (.active 3 false)).setPort .c1
        { Port.reset with state := .streaming, buffer := [⟨0, 0, 5, 0, ⟨[], [], []⟩⟩] } with
      arbiter := { Arbiter.reset with channel := .free, wheelPtr := 1 }
      composer := { Composer.reset with rp := ⟨[⟨7, 9, .waiting⟩], 10⟩, rs := ⟨[⟨7, 9, .waiting⟩], 10⟩ } }
    ∃ t, exec .grantOpportunity s = .next t ∧ t.arbiter.channel = .busy (.write .c1) ∧ t.arbiter.wheelPtr = 2
      ∧ t.arbiter.robinPtr = 2 := ⟨_, rfl, by decide⟩

/-! ### Link frames (R179, R187, Table 33) -/

/-- A HELLO with tag 0x11: check byte 0xEE, by hand. -/
theorem test_hello_frame : requestFrame (.hello 0x11) = some [0xC3, 0x01, 0x11, 0x00, 0xEE] := by decide

/-- A ZOOM_TO of 1024 over 2 frames in APPEND, little-endian, by hand. -/
theorem test_zoom_frame : requestFrame (.zoomToAppend 0 1024 2 0) =
    some [0xC3, 0x10, 0x00, 0x05, 0x00, 0x04, 0x02, 0x00, 0x00, 0xE5] := by decide

/-- A BAD_KIND reply has kind 0xFF. -/
theorem test_bad_kind_reply : (OutFrame.reply 0x77 5 .badKind [0x77]).bytes = [0x3C, 0xFF, 5, 2, 3, 0x77, 0x80] := by decide

/-! ### One step of a command -/

theorem test_step_hello : ∃ t, step { live with pending := [.hello 9, .boundary] } = .next t ∧ t.pending = [.boundary]
    ∧ t.link.outbound.length = 1 := ⟨_, rfl, by decide⟩
/-- The channel is used for the initialisation until BOOTING ends, and no transfer completes in it (R162). -/
theorem test_channel_in_booting : State.reset.arbiter.channel = .initialising
    ∧ exec .transferCompletion State.reset = .next State.reset
    ∧ ∃ t, exec .bootingEnd State.reset = .next t ∧ t.arbiter.channel = .free := ⟨rfl, rfl, _, rfl, rfl⟩

/-- The rectangle of a complete frame goes with its frame end, also when the slot is DRAINING (R107). -/
theorem test_rectangle_released : let p := (camera .streaming [{ slot .filling with lines := 64, outstanding := 1 }]).port .c0
    ∃ t, exec (.frameEnd .c0) (live.setPort .c0 { p with region := some ⟨0, 0, 2, 2⟩ }) = .next t
      ∧ (t.port .c0).region = none := ⟨_, rfl, rfl⟩

/-- What the part counts is taken when the count has run out, and not before (R171, R172, R176, R135). -/
theorem test_wait_counts : exec (.waitEnd .a) (scripted [.wait 5] (.waiting 1) none) = .next (scripted [.wait 5] (.waiting 1) none)
    ∧ ∃ t, exec (.waitEnd .a) (scripted [.wait 5, .wait 6] (.waiting 0) none) = .next t
      ∧ (t.bus .a).running.map Running.phase = some (.waiting 6) := ⟨rfl, _, rfl, by decide⟩
theorem test_retry_counts :
    exec (.pollRetry .a) (scripted [.poll 9 1 1 1] (.retry 1) none) = .next (scripted [.poll 9 1 1 1] (.retry 1) none)
    ∧ ∃ t, exec (.pollRetry .a) (scripted [.poll 9 1 1 1] (.retry 0) none) = .next t
      ∧ (t.bus .a).running.map Running.phase = some .onBus := ⟨rfl, _, rfl, by decide⟩
theorem test_pulse_counts : let pulsing := fun n : Nat => { (running .stopped).otg with pulse := .const (some ⟨5, 2, n, false, false⟩) }
    (pulsing 4).pulseStart .c0 = pulsing 4 ∧ ((pulsing 5).pulseStart .c0).lineActive.get .c0 = true
      ∧ ((pulsing 6).pulseStart .c0).pulseEnd .c0 = (pulsing 6).pulseStart .c0
      ∧ (((pulsing 7).pulseStart .c0).pulseEnd .c0).lineActive.get .c0 = false := by decide
/-- A line stays active over a boundary when the next pulse begins at once, and only then (R176, entry 26). -/
theorem test_line_across : lineAcross true (placePulse ⟨true, true, 0, 5⟩ 431) = true
    ∧ lineAcross true (placePulse ⟨true, true, 1, 5⟩ 431) = false ∧ lineAcross true (placePulse ⟨false, true, 0, 5⟩ 431) = false
    ∧ lineAcross false (placePulse ⟨true, true, 0, 5⟩ 431) = false := by decide
theorem test_line_starts_at_its_pixel : exec .lineStart (running (.blanking 7 true)) = .next (running (.blanking 7 true))
    ∧ ∃ t, exec .lineStart (atPixel (.blanking 7 true) (8 * 704)) = .next t ∧ t.otg.raster = .active 0 false :=
  ⟨by rfl, _, rfl, by rfl⟩

theorem test_reset_held : ∃ t, exec .pinReset live = .next t ∧ t.mode = .booting ∧ exec (.hello 1) t = .next t :=
  ⟨_, rfl, rfl, rfl⟩
theorem test_expiry_stalls : ∃ t, exec (.expiry .c0) (counting .streaming 0) = .next t
    ∧ (t.port .c0).state = .stalled ∧ (t.monitor .c0).countdown = some 40000 := ⟨_, rfl, by decide⟩
theorem test_frame_start_takes_free : ∃ t, exec (.frameStart .c0) (camera .streaming [slot .ready, slot .free, slot .free]) = .next t
    ∧ (t.port .c0).ring.map Slot.state = [.ready, .filling, .free] := ⟨_, rfl, by decide⟩
theorem test_frame_start_takes_oldest : ∃ t, exec (.frameStart .c0) (camera .streaming
      [{ slot .ready with start := 3 }, { slot .ready with start := 4294967000 }, { slot .ready with start := 9 }]) = .next t
    ∧ (t.port .c0).ring.map Slot.state = [.ready, .filling, .ready] := ⟨_, rfl, by decide⟩
theorem test_short_frame : ∃ t, exec (.frameEnd .c0) (camera .streaming [{ slot .filling with lines := 63 }]) = .next t
    ∧ (t.port .c0).counters.short = 1 ∧ (t.port .c0).ring.map Slot.state = [.free] := ⟨_, rfl, by decide⟩
theorem test_zoom_cancel : ∃ t, exec (.zoomCancel 1) (running .stopped) = .next t ∧ t.zoom.rest = 1024
    ∧ t.link.outbound = [.reply 0x11 1 .ok [0, 0, 4]] := ⟨_, rfl, by decide⟩
theorem test_distance_clamps : ∃ t, exec (.setDistance 1 99) live = .next t ∧ t.zoom.distance = 100
    ∧ t.link.outbound = [.reply 0x12 1 .ok [100, 0, 1]] := ⟨_, rfl, by decide⟩
theorem test_poll_matches : pollMatches 0xF0 0xA5 0xAF = true ∧ pollMatches 0xF0 0xA5 0x5A = false := by decide
theorem test_fit_row : fitRow 4 16 [1, 2] = [1, 2, 2, 2] ∧ fitRow 2 16 [1, 2, 3] = [1, 2] ∧ fitRow 2 128 [] = [128, 128] := by
  decide

/-! ### Witnesses: the hypotheses of each obligation are met -/

/-- All cameras, by cases. -/
theorem every_cam {p : Cam → Prop} (h0 : p .c0) (h1 : p .c1) (h2 : p .c2) (h3 : p .c3) : ∀ c, p c := by
  intro c; cases c <;> assumption

/-- The tables and pointers of the reset state. -/
theorem default_table_law : ArbTable.default.Law :=
  ⟨by decide, by decide, by decide, by
    intro c; cases c with
    | w c => cases c <;> decide
    | rp => decide
    | rs => decide⟩

theorem reset_arbiter_law (x : Channel) : Arbiter.Law { Arbiter.reset with channel := x } :=
  ⟨default_table_law, fun _ h => (by cases h), .inl (show 0 < 8 by decide), .inl (show 0 < 6 by decide)⟩

theorem witness_StepRunsFrontCommand : ({ live with pending := [.hello 1] } : State).pending = .hello 1 :: [] := rfl

/-- Nothing due; and each kind of event due at its instant, a raster event in the microsecond of its pixel. -/
theorem witness_EmptyQueueCountsOneMicrosecond :
    let o := { (running (.blanking 6 false)).otg with phase := 1000 * (7 * 704) + 1, pulse := .const (some ⟨5, 2, 5, false, false⟩) }
    let s := { counting .waiting 0 with otg := o }
    let g := (camera .streaming []).setPort .c0 { (camera .streaming []).port .c0 with pattern := some ⟨33333, 24999, 64⟩ }
    (live.pending = [] ∧ live.resetHeld = false ∧ live.dueCommand = none)
      ∧ s.pending = [] ∧ s.resetHeld = false ∧ (s.monitor .c0).countdown = some 0 ∧ 1000 * ((6 + 1) * (640 + 64)) < s.otg.phase
      ∧ s.otg.pulse.get .c0 = some ⟨5, 2, 5, false, false⟩ ∧ s.dueCommand = some (.expiry .c0)
      ∧ ({ live with otg := o } : State).dueCommand = some .blankingLineStart
      ∧ (scripted [.wait 5] (.waiting 0) none).dueCommand = some (.waitEnd .a)
      ∧ (scripted [.poll 9 1 1 1] (.retry 0) none).dueCommand = some (.pollRetry .a)
      ∧ g.dueCommand = some (.patternFrameEnd .c0) := by decide

/-- With the 14 notices that leave one place. -/
theorem witness_BootingEndsInConfig :
    let s := { State.reset with link := { Link.reset with outbound := List.replicate 14 (.notice (.ready .pin) 1 false) } }
    let full := fun n : Notice => { State.reset with link := { Link.reset with
      outbound := .notice n 1 false :: List.replicate 14 (.notice (.prepareNeeded .c0) 1 false) } }
    s.mode = .booting ∧ s.resetHeld = false ∧ s.link.mask.getLsbD 0 = true ∧ noticeCount s.link.outbound < 15
      ∧ s.link.reading.holdsHead = false ∧ (({ live with mode := .run } : State).mode ≠ .booting)
      ∧ (∀ n ∈ [Notice.ready .pin, .frameDone 1 2, .prepareNeeded .c1], 15 ≤ noticeCount (full n).link.outbound) := by decide

/-- The three places a read can stand at; a frame of 5 bytes ends with its fifth and not with its fourth. -/
theorem witness_ReadShiftsHeadFrame :
    let x : OutFrame := .reply 0x02 1 .ok []
    live.resetHeld = false ∧ live.link.outbound = [] ∧ live.link.reading = .idle ∧ x.bytes.length ≤ 2 + 4
      ∧ 2 + 3 < x.bytes.length ∧ ({ live.link with reading := .shifting 2 } : Link).reading = .shifting 2
      ∧ ({ live.link with reading := .begun } : Link).reading = .begun
      ∧ (({ live.link with reading := .drained } : Link).reading = .drained ∧ 0 < 1)
      ∧ ({ live with resetHeld := true } : State).resetHeld = true := by decide

/-- A CAMERA_STATE with LOST, repeat count 2, for camera 3 from STREAMING to STALLED with reason STALL; a LINK_REJECT for CHECK;
by hand. -/
theorem test_outbound_frames :
    (OutFrame.notice (.cameraState .c3 .streaming .stalled .stall) 2 true).bytes =
      [0x3C, 0x41, 0x00, 0x06, 0x01, 0x02, 0x03, 0x03, 0x04, 0x07, 0xA5]
    ∧ (OutFrame.reject .check 1 false).bytes = [0x3C, 0x7F, 0x00, 0x03, 0x02, 0x01, 0x00, 0x7B] := by decide

/-- One frame for each reason: a wrong marker, two bytes, a length of 249, a wrong check byte, a full link; a link that has
shifted nothing out. -/
theorem witness_DiscardedFrameReported :
    (0 : Byte) ≠ 0xC3 ∧ ([0xC3, 1] : List Byte).length < 4 ∧ 248 < (249 : Byte).toNat
      ∧ sumBytes [1, 0, 0, 0] ≠ 0 ∧ sumBytes [1, 0, 0, 0xFF] = 0
      ∧ 8 ≤ ({ live.link with claims := 8 } : Link).claims ∧ live.link.spiOut = [] := by decide

theorem witness_RequestFrameRunsRequest :
    Instr.wf (.setDistance 7 500) = true ∧ requestFrame (.setDistance 7 500) = some [0xC3, 0x12, 7, 2, 0xF4, 1, 0xF0]
      ∧ live.resetHeld = false := by decide

/-- The last free place, in each mode. -/
theorem witness_HelloAnswersInEveryMode :
    ({ live with link := { live.link with claims := 7 } } : State).canAccept ∧ State.reset.canAccept
      ∧ (running .stopped).canAccept := ⟨⟨rfl, by decide⟩, ⟨rfl, by decide⟩, running_accepts _⟩

theorem witness_ResetPartFlushesAndKeepsQueue : live.canAccept ∧ live.mode ≠ .booting := ⟨live_accepts, by decide⟩

theorem witness_SetNoticesReplacesMask : (live.canAccept ∧ live.mode ≠ .booting) ∧ (State.reset.canAccept ∧ State.reset.mode = .booting)
    ∧ Link.reset.mask.getLsbD (Notice.frameDone 0 0).bit = false := ⟨⟨live_accepts, by decide⟩, ⟨⟨rfl, by decide⟩, rfl⟩, by decide⟩

/-- A link whose mask enables everything, with a queue of notices. -/
def noticed (q : List OutFrame) (reading : Reading) : Link :=
  { Link.reset with mask := 0xFF, outbound := q, reading := reading }

/-- The 15th place free; 15 notices with and without one of the same subject, with and without a FRAME_DONE; and the head
passed over while it is shifted out. -/
theorem witness_NoticeReachesQueue :
    let n := Notice.prepareNeeded .c1
    let other := OutFrame.notice (.prepareNeeded .c0) 1 false
    let done := OutFrame.notice (.frameDone 1 2) 1 false
    noticeCount (noticed (List.replicate 14 other) .idle).outbound < 15
      ∧ (15 ≤ noticeCount (List.replicate 14 other ++ [.notice (.prepareNeeded .c1) 254 true])
        ∧ (Notice.prepareNeeded .c1).same n = true ∧ (Notice.prepareNeeded .c0).same n = false)
      ∧ (15 ≤ noticeCount (List.replicate 14 other ++ [done]) ∧ (Notice.frameDone 1 2).same n = false)
      ∧ 15 ≤ noticeCount (List.replicate 15 other)
      ∧ [other].length = (if (noticed (List.replicate 15 other) (.shifting 1)).reading.holdsHead then
          min 1 (List.replicate 15 other).length else 0)
      ∧ (noticed [] .idle).mask.getLsbD n.bit = true := by decide

/-- Sections 0 to 3 and 4, cameras 3 and 4, selectors 0, 1 and 2; one READY slot newer than another by its start timestamp, and
one with an equal timestamp by its sequence number. -/
theorem witness_QueriesChangeNothingElse : live.canAccept ∧ live.mode ≠ .booting ∧ 3 < (4 : Byte).toNat ∧ camOf 3 = some .c3
    ∧ 1 < (2 : Byte).toNat ∧ live.arbiter.Law ∧ (∀ x, (live.bus x).waiting.length ≤ 4)
    ∧ (camera .streaming [{ slot .ready with start := 99 }, slot .ready]).port .c0 =
      { Port.reset with
        format := some fmt0, cal := some cal0, state := .streaming, ring := [{ slot .ready with start := 99 }, slot .ready] }
    ∧ (slot .ready).start ≠ ({ slot .ready with start := 99 } : Slot).start ∧ notLater 99 100 = true ∧ notLater 100 99 = false
    ∧ ((slot .ready).start = ({ slot .ready with seq := 4 } : Slot).start ∧ notLater 4 (slot .ready).seq = true
      ∧ notLater (slot .ready).seq 4 = false)
    ∧ 640 ≤ 640 ∧ 96 ≤ 639 ∧ 639 < 640 :=
  ⟨live_accepts, by decide, by decide, by decide, by decide, reset_arbiter_law _, by intro x; cases x <;> decide, by decide⟩

/-- One form for each clause; bodies that are one byte short and one too long, the longest body, a LOAD_SCRIPT without a
body byte 2 and one whose count gives another length. -/
theorem witness_KindOrModeRefused :
    (State.reset.canAccept ∧ Instr.wf (.stopOutput 1) = true ∧ encodeRequest (.stopOutput 1) = some (0x0F, 1, [])
      ∧ isRequestKind 0x0F = true ∧ State.reset.mode = .booting)
    ∧ ((running .stopped).mode = .run ∧ encodeRequest (.startOutput 1 1024) = some (0x0E, 1, [0, 4]))
    ∧ (live.mode = .config ∧ encodeRequest (.zoomCancel 1) = some (0x11, 1, []))
    ∧ ((0 : Byte).toNat = 0 ∧ 0x19 < (0x1A : Byte).toNat)
    ∧ (248 ≤ 248 ∧ 1 ≤ (0x01 : Byte).toNat ∧ (0x19 : Byte).toNat ≤ 0x19
      ∧ ([0, 1] : List Nat)[(0x01 : Byte).toNat - 1]? ≠ some [(0 : Byte)].length
      ∧ ([1] : List Nat)[0]? ≠ some ([] : List Byte).length
      ∧ ([0, 0] : List Byte)[2]? = none ∧ ([0, 0, 1] : List Byte)[2]? = some 1 ∧ [0, 0, 1].length ≠ 3 + 8 * (1 : Byte).toNat) :=
  ⟨⟨⟨rfl, by decide⟩, by decide⟩, by decide⟩

/-- The largest and the smallest format, the frame store filled exactly and one byte short. -/
theorem witness_SetCameraFormatReplaces :
    let sum := fun (s : State) (frame : Nat) => (Cam.all.map fun d => if d = .c0 then frame else
      match (s.port d).format with
      | some f => f.slots * (f.ws * f.hs * 3 / 2)
      | none => 0).sum
    let full := (live.setPort .c1 { Port.reset with format := some ⟨4096, 3072, 4⟩ }).setPort .c2
      { Port.reset with format := some ⟨4096, 3072, 4⟩ }
    live.canAccept ∧ live.mode = .config ∧ (0 : Byte).toNat = Cam.c0.idx ∧ ((4 : Byte) = 3 ∨ (4 : Byte) = 4)
      ∧ (64 ≤ (4096 : Half).toNat ∧ (4096 : Half).toNat ≤ 4096 ∧ (4096 : Half).toNat % 2 = 0)
      ∧ (64 ≤ (64 : Half).toNat ∧ (64 : Half).toNat ≤ 3072 ∧ (64 : Half).toNat % 2 = 0) ∧ (live.port .c0).state = .off
      ∧ sum full (4 * (4096 * 3072 * 3 / 2)) ≤ 268435456
      ∧ 268435456 < sum (full.setPort .c3 { Port.reset with format := some ⟨4096, 3072, 3⟩ }) (4 * (4096 * 3072 * 3 / 2))
      ∧ 3 < (4 : Byte).toNat ∧ ¬ (64 ≤ (63 : Half).toNat) ∧ ((camera .waiting []).port .c0).state ≠ .off :=
  ⟨live_accepts, by decide⟩

theorem witness_RemoveCameraEmptiesRecord :
    live.canAccept ∧ live.mode = .config ∧ 3 < (4 : Byte).toNat ∧ (3 : Byte).toNat = Cam.c3.idx
      ∧ ((camera .waiting []).port .c0).state ≠ .off
      ∧ (((camera .off []).port .c0).state = .off ∧ ((camera .off []).port .c0).format ≠ none)
      ∧ ((live.port .c3).state = .off ∧ (live.port .c3).format = none) := ⟨live_accepts, by decide⟩

/-- A body at the edges of its ranges: M 256, Zmax 40960, centre -4096, interval 8000. -/
def calBody : CalBody := ⟨256, 40960, 0xF000, 4096, 0, 0, 8000, 1000, 4000000, 0, 0x7F⟩

theorem witness_SetCameraCalReplaces :
    let k : Cal := ⟨256, 40960, -4096, 4096, 0, 0, 8000, 1000, 4000000, false, .a, 0x7F⟩
    let s := camera .off []
    let v := s.setPort .c0 { s.port .c0 with cal := some k }
    s.canAccept ∧ s.mode ≠ .booting ∧ (0 : Byte).toNat = Cam.c0.idx ∧ (s.port .c0).format = some fmt0
      ∧ k = { m := calBody.m.toNat, zmax := calBody.zmax.toNat, cx := calBody.cx.toInt, cy := calBody.cy.toInt
              px := calBody.px.toInt, py := calBody.py.toInt, interval := calBody.interval.toNat
              arrival := calBody.arrival.toNat, first := calBody.first.toNat, autoStart := calBody.flags.getLsbD 0
              bus := if calBody.flags.getLsbD 1 then .b else .a, address := calBody.address.toNat }
      ∧ (256 ≤ k.m ∧ k.m ≤ k.zmax ∧ k.zmax ≤ 40960) ∧ s.mode = .config
      ∧ (∀ i j x y, v.configured i = true → v.configured j = true → i.idx < j.idx → (v.port i).cal = some x →
          (v.port j).cal = some y → x.m < y.m ∧ ((∀ d, i.idx < d.idx → d.idx < j.idx → v.configured d = false) → y.m ≤ x.zmax)) :=
  ⟨⟨rfl, by decide⟩, by decide, by decide, by decide, by decide, by decide, rfl, by
    intro i j x y hi hj hij
    cases i <;> cases j <;> first | (exact absurd hij (by decide)) | (exact absurd hi (by decide)) | (exact absurd hj (by decide))⟩

/-- In RUN: a camera the engine does not name, with an effective maximum of exactly M over an output 640 wide, and one below
it; one that leaves a gap behind camera 0. -/
theorem witness_SetCameraCalReplaces_run :
    let s := (running .stopped).setPort .c1 { Port.reset with format := some ⟨80, 64, 3⟩ }
    s.canAccept ∧ s.mode = .run ∧ s.otg.format = some ⟨640, 360, 30000⟩ ∧ Cam.c1 ∉ s.zoom.engine.cams
      ∧ s.zoom.engine ≠ .frozen ∧ 256 ≤ min 40960 (256 * 80 * 8 / 640) ∧ min 40960 (256 * 78 * 8 / 640) < 256
      ∧ ¬ (40961 ≤ cal0.zmax) := ⟨⟨rfl, by decide⟩, by decide⟩

/-- Table 15 in view LOCKED(1), with rows of 640 for camera 1. -/
def lockedOne : State :=
  let s := table15.setPort .c1 { table15.port .c1 with format := some ⟨640, 360, 3⟩ }
  { s with zoom := { s.zoom with view := .locked .c1 } }

/-- In RUN: a camera that has a calibration part and one that has none yet, both not named, with no M from before. -/
theorem witness_SetCameraCalReplaces_prior :
    (lockedOne.port .c1).cal ≠ none ∧ Cam.c1 ∉ lockedOne.zoom.engine.cams ∧ lockedOne.zoom.engine ≠ .frozen
      ∧ lockedOne.mode = .run ∧ lockedOne.otg.format = some ⟨640, 360, 30000⟩
      ∧ (lockedOne.port .c3).cal = none ∧ lockedOne.zoom.priorM.get .c3 = none := by decide

/-- R4, R54: M 3072 and Zmax 12288 of camera 1 become 3500 and 12000 in RUN. Until the next boundary the zoom bounds of
LOCKED(1) are the old M and the new Zmax; the boundary takes the new M. -/
theorem test_calibration_in_run : ∃ t,
    exec (.setCameraCal 1 1 ⟨3500, 12000, 0, 0, 0, 0, 8000, 1000, 4000000, 0, 0x7F⟩) lockedOne = .next t
      ∧ t.zoomBounds = (3072, 12000) ∧ (t.port .c1).cal.map Cal.m = some 3500 ∧ t.boundary.mOf .c1 = 3500 :=
  ⟨_, rfl, by decide⟩

/-- The refusals of SET_CAMERA_CAL: no camera 4, no format, M 255, an engine that names the camera, in FROZEN its record,
an M not above that of a wider camera, and an M above the Zmax of the next wider one. -/
theorem witness_SetCameraCalReplaces_refused :
    let f := { (running .stopped).zoom with engine := .frozen }
    3 < (4 : Byte).toNat ∧ (live.port .c0).format = none ∧ ¬ (256 ≤ (255 : Half).toNat)
      ∧ Cam.c0 ∈ (running .stopped).zoom.engine.cams
      ∧ (f.engine = .frozen ∧ f.current = some (record (.steady .c0)) ∧ (record (.steady .c0)).primary = some entry0
        ∧ entry0.camera = .c0)
      ∧ Cam.c0.idx < Cam.c1.idx ∧ ¬ (cal0.m < (1024 : Half).toNat) ∧ ¬ ((4097 : Half).toNat ≤ cal0.zmax) := by decide

/-- No script; a first step of each kind on an idle and on a busy engine; a runner that holds another run. -/
theorem witness_StartCameraLive :
    let s := camera .off []
    let b := s.setBus .a { BusState.reset with running := some ⟨⟨.c0, .start, 0x10⟩, 0, .ready, 0, false⟩ }
    let e := s.setBus .a { BusState.reset with engine := some ⟨.pass, ⟨0x10, 0, .read 1⟩⟩ }
    let scripts := fun st : Step => (Quad.get (Quad.set s.relay.scripts .c0 ⟨[st], []⟩) .c0).start
    s.canAccept ∧ s.mode ≠ .booting ∧ (0 : Byte).toNat = Cam.c0.idx ∧ (s.port .c0).format ≠ none
      ∧ (s.port .c0).cal = some cal0 ∧ (s.port .c0).state = .off ∧ (s.relay.scripts.get .c0).start = []
      ∧ (b.bus .a).running.isSome = true
      ∧ (scripts (.wait 1) = .wait 1 :: [] ∧ scripts (.write 9 [1]) = .write 9 [1] :: []
        ∧ scripts (.poll 9 1 1 1) = .poll 9 1 1 1 :: [])
      ∧ ((e.bus .a).running = none ∧ (e.bus .a).engine ≠ none)
      ∧ ((s.bus .a).running = none ∧ (s.bus .a).engine = none) := ⟨⟨rfl, by decide⟩, by decide⟩

theorem witness_StartStopCameraRefused :
    live.canAccept ∧ live.mode ≠ .booting ∧ 3 < (4 : Byte).toNat ∧ 1 < (2 : Byte).toNat ∧ live.configured .c0 = false
      ∧ ((camera .waiting []).configured .c0 = true ∧ ((camera .waiting []).port .c0).state ≠ .off)
      ∧ ((camera .off []).configured .c0 = true ∧ ((camera .off []).port .c0).state = .off) := ⟨live_accepts, by decide⟩

/-- No script; a first step on a free runner with the engine idle and busy; a runner that holds another run; PATTERN. -/
theorem witness_StopCameraClearsWork :
    let s := camera .faulted [slot .ready]
    let b := s.setBus .a { BusState.reset with running := some ⟨⟨.c1, .start, 0x10⟩, 0, .ready, 0, false⟩ }
    let e := s.setBus .a { BusState.reset with engine := some ⟨.pass, ⟨0x10, 0, .read 1⟩⟩ }
    s.canAccept ∧ s.mode ≠ .booting ∧ (0 : Byte).toNat = Cam.c0.idx ∧ (s.port .c0).format ≠ none
      ∧ (s.port .c0).cal = some cal0 ∧ (s.port .c0).state = .faulted ∧ (s.relay.scripts.get .c0).stop = []
      ∧ (s.port .c0).startMode = .live ∧ ({ s.port .c0 with startMode := .pattern } : Port).startMode = .pattern
      ∧ (Quad.get (Quad.set s.relay.scripts .c0 ⟨[], [.write 9 [1]]⟩) .c0).stop = .write 9 [1] :: []
      ∧ (b.bus .a).running.isSome = true ∧ ((e.bus .a).running = none ∧ (e.bus .a).engine ≠ none)
      ∧ ((s.bus .a).running = none ∧ (s.bus .a).engine = none) := ⟨⟨rfl, by decide⟩, by decide⟩

/-- A START run in its WAIT, one in the waiting list, one on the bus with a STOP script to place, and a bus that has ended a
transaction with a stop condition. -/
theorem witness_StopCameraAbortsStart :
    let s := scripted [.wait 5] (.waiting 5) none
    let w := s.setBus .a { s.bus .a with
      running := some ⟨⟨.c1, .start, 0x11⟩, 0, .ready, 0, false⟩, waiting := [⟨.c1, .stop, 0x11⟩, ⟨.c0, .start, 0x10⟩] }
    let o := s.setBus .a { s.bus .a with running := some ⟨⟨.c0, .start, 0x10⟩, 0, .onBus, 0, false⟩ }
    s.canAccept ∧ s.mode ≠ .booting ∧ (0 : Byte).toNat = Cam.c0.idx ∧ (s.port .c0).format ≠ none
      ∧ (s.port .c0).cal = some cal0 ∧ (s.port .c0).state = .loading ∧ (s.relay.scripts.get .c0).stop = []
      ∧ (s.port .c0).startMode = .live ∧ (Quad.get (Quad.set s.relay.scripts .c0 ⟨[], [.wait 7]⟩) .c0).stop ≠ []
      ∧ (s.bus .a).running = some ⟨⟨.c0, .start, 0x10⟩, 0, .waiting 5, 0, false⟩ ∧ (s.bus .a).waiting = []
      ∧ (w.bus .a).waiting = [⟨.c1, .stop, 0x11⟩] ++ ⟨.c0, .start, 0x10⟩ :: []
      ∧ (o.bus .a).running = some ⟨⟨.c0, .start, 0x10⟩, 0, .onBus, 0, false⟩
      ∧ (({ BusState.reset with lastEnd := .stop } : BusState).running = none
        ∧ ({ BusState.reset with lastEnd := .stop } : BusState).waiting = []) := ⟨⟨rfl, by decide⟩, by decide⟩

/-- R174: the START run is on the bus and camera 1 waits behind it; the STOP run is the last of the waiting list, and the
START run carries its abort mark. -/
theorem test_stop_waits_behind_start :
    let s := scripted [.write 9 [1]] .onBus (some ⟨.script, ⟨0x10, 9, .write [1]⟩⟩)
    let r := { s.relay with scripts := s.relay.scripts.set .c0 ⟨[.write 9 [1]], [.wait 7]⟩ }
    let u := ({ s with relay := r } : State).setBus .a { s.bus .a with waiting := [⟨.c1, .start, 0x11⟩] }
    ∃ t, exec (.stopCamera 1 0) u = .next t ∧ (t.port .c0).state = .stopping
      ∧ (t.bus .a).waiting = [⟨.c1, .start, 0x11⟩, ⟨.c0, .stop, 0x10⟩]
      ∧ (t.bus .a).running.map Running.abort = some true := ⟨_, rfl, by decide⟩

/-- A FREE slot; READY slots of two ages; a FILLING slot with a FREE slot above it and below it, a write in flight or not. -/
theorem witness_FrameStartFillsSlot :
    let s := camera .streaming [slot .ready, slot .free, slot .free]
    let r := camera .streaming [{ slot .ready with start := 5, seq := 1 }, slot .draining, { slot .ready with start := 4 }]
    let f := camera .waiting [slot .ready, slot .filling, slot .free]
    let g := camera .waiting [slot .free, slot .filling, slot .ready]
    (s.port .c0).startMode = .live ∧ (s.port .c0).state.takes = true ∧ (s.port .c0).cal = some cal0
      ∧ (s.port .c0).ring[1]? = some (slot .free) ∧ (∀ y ∈ (s.port .c0).ring, y.state ≠ .filling)
      ∧ ((∀ y ∈ (r.port .c0).ring, y.state ≠ .filling ∧ y.state ≠ .free)
        ∧ notLater 4 5 = true ∧ notLater 5 4 = false)
      ∧ ((f.port .c0).ring[1]? = some (slot .filling) ∧ (f.port .c0).ring[0]? = some (slot .ready)
        ∧ (f.port .c0).inFlight = false ∧ ({ f.port .c0 with inFlight := true } : Port).inFlight = true)
      ∧ ((g.port .c0).ring[1]? = some (slot .filling) ∧ 0 < 1 ∧ (g.port .c0).ring[0]? = some (slot .free))
      ∧ ((live.port .c0).state.takes = false) := by decide

/-- The row before the last, the row after it, three and four lines held. -/
theorem witness_LinePacketOffersRow :
    let s := camera .streaming [slot .free, { slot .filling with lines := 63 }]
    let line : BufferedLine := ⟨1, 0, 5, 0, ⟨[], [], []⟩⟩
    (s.port .c0).startMode = .live ∧ (s.port .c0).state.takes = true ∧ (s.port .c0).format = some fmt0
      ∧ (s.port .c0).ring[1]? = some { slot .filling with lines := 63 } ∧ 63 < fmt0.hs ∧ fmt0.hs ≤ 64
      ∧ (List.replicate 3 line).length < 4 ∧ 4 ≤ (List.replicate 4 line).length := by decide

/-- A dropped line, a line too few, the last line with a write outstanding and with none; a camera stalled before and at this
instant. -/
theorem witness_FrameEndJudgesFrame :
    let x := { slot .filling with lines := 64 }
    let s := camera .stalled [slot .free, x]
    (s.port .c0).startMode = .live ∧ (s.port .c0).state.takes = true ∧ (s.port .c0).format = some fmt0
      ∧ (s.port .c0).ring[1]? = some x ∧ x.state = .filling ∧ (x.dropped = false ∧ fmt0.hs ≤ x.lines ∧ x.outstanding = 0)
      ∧ ({ x with dropped := true } : Slot).dropped = true ∧ ({ x with lines := 63 } : Slot).lines < fmt0.hs
      ∧ 0 < ({ x with outstanding := 1 } : Slot).outstanding ∧ (s.port .c0).state = .stalled
      ∧ (s.monitor .c0).stalledNow = false ∧ ((s.setMonitor .c0 ⟨some 40000, 1, true⟩).monitor .c0).stalledNow = true := by
  decide

/-- The last row, the frame end and the next frame start of a generator, each at its instant and a microsecond before it. -/
theorem witness_PatternGeneratorOffers :
    let s := camera .streaming [slot .filling]
    let t := s.setPort .c0 { s.port .c0 with pattern := some ⟨33333, 24609, 63⟩, startMode := .pattern }
    ((camera .off []).canAccept ∧ ((camera .off []).port .c0).state = .off) ∧ (t.port .c0).pattern = some ⟨33333, 24609, 63⟩
      ∧ (t.port .c0).format = some fmt0 ∧ (t.port .c0).cal = some cal0 ∧ 63 < fmt0.hs ∧ 64 = fmt0.hs ∧ fmt0.hs < 65
      ∧ (3 * 33333 * 63 / (4 * fmt0.hs) = 24609 ∧ 3 * 33333 / 4 = 24999) ∧ (s.port .c0).pattern = none
      ∧ (s.port .c0).startMode = .live :=
  ⟨⟨⟨rfl, by decide⟩, by decide⟩, by decide⟩

/-- Each state, the stall counts 1 and 2, and a countdown that was re-armed. -/
theorem witness_ExpiryByState :
    ((counting .stalled 2).monitor .c0).countdown = some 0 ∧ ((counting .stalled 2).port .c0).cal = some cal0
      ∧ ((counting .waiting 0).port .c0).state = .waiting ∧ ((counting .streaming 0).port .c0).state = .streaming
      ∧ ((counting .stalled 1).port .c0).state = .stalled ∧ ((counting .stalled 1).monitor .c0).stallCount ≤ 1
      ∧ 2 ≤ ((counting .stalled 2).monitor .c0).stallCount
      ∧ (((counting .streaming 0).setMonitor .c0 ⟨some 40000, 0, false⟩).monitor .c0).countdown ≠ some 0 := by decide

/-- A write for the slot, for another frame, the last of a DRAINING slot and the last but one. -/
theorem witness_WriteCompletionCounts :
    let l : BufferedLine := ⟨0, 3, 5, 0, ⟨[], [], []⟩⟩
    let x := { slot .draining with outstanding := 1 }
    let s := camera .streaming [x]
    let t := { s.setPort .c0 { s.port .c0 with buffer := [l], inFlight := true } with
      arbiter := { Arbiter.reset with channel := .busy (.write .c0) } }
    t.arbiter.channel = .busy (.write .c0) ∧ (t.port .c0).buffer = l :: [] ∧ (t.port .c0).ring[l.slot]? = some x
      ∧ x.seed = l.seed ∧ (x.seq = l.seq ∧ x.state = .draining ∧ x.outstanding = 1) ∧ (t.port .c0).state = .streaming
      ∧ 2 ≤ ({ x with outstanding := 2 } : Slot).outstanding ∧ ({ x with seq := 6 } : Slot).seq ≠ l.seq
      ∧ ((counting .waiting 0).port .c0).state = .waiting
      ∧ (((counting .stalled 1).port .c0).state = .stalled ∧ ((counting .stalled 1).monitor .c0).stalledNow = false)
      ∧ (((counting .stalled 1).setMonitor .c0 ⟨some 40000, 1, true⟩).monitor .c0).stalledNow = true
      ∧ (2 * 3 = 6 ∧ ([7, 8] : List Byte)[1]? = some 8 ∧ 2 * 3 ≠ 7) := by decide

theorem witness_PresentedRequests :
    let lines : List WindowLine := [⟨7, 0, .inFlight⟩, ⟨7, 1, .waiting⟩]
    let s := { running (.blanking 7 true) with composer := { Composer.reset with rp := ⟨lines, 2⟩ } }
    s.composer.rp.lines = [⟨7, 0, .inFlight⟩] ++ ⟨7, 1, .waiting⟩ :: [] ∧ Fetch.inFlight ≠ .waiting
      ∧ s.composer.rs.lines = [] := by decide

/-- One request that each of the three steps could find. -/
theorem witness_GrantDecidedByTable :
    let p := { Port.reset with state := .streaming, buffer := [⟨0, 0, 5, 0, ⟨[], [], []⟩⟩, ⟨0, 1, 5, 0, ⟨[], [], []⟩⟩] }
    let s := live.setPort .c1 p
    s.arbiter.channel = .free ∧ s.presented (.w .c1) = some ⟨true, .write .c1⟩
      ∧ s.arbiter.table.wheel[s.arbiter.wheelPtr]? = some ⟨.rp, .any⟩ ∧ s.presented .rp = none
      ∧ s.arbiter.table.priority[3]? = some ⟨.w .c1, .urgent⟩ ∧ s.arbiter.table.robin[1]? = some ⟨.w .c1, .any⟩ := by
  decide

/-- One state repeated: a wheel of one entry comes back to itself. -/
theorem witness_WheelTurnGrantsClient :
    let table : ArbTable := { ArbTable.default with wheel := [⟨.w .c1, .any⟩] }
    let s := { live.setPort .c1 { Port.reset with state := .streaming, buffer := [⟨0, 0, 5, 0, ⟨[], [], []⟩⟩] } with
      arbiter := { Arbiter.reset with channel := .free, table := table } }
    ⟨.w .c1, .any⟩ ∈ table.wheel ∧ s.arbiter.wheelPtr < table.wheel.length ∧ s.arbiter.table = table
      ∧ s.arbiter.channel = .free ∧ (s.presented (.w .c1)).isSome = true
      ∧ ∃ t, exec .grantOpportunity s = .next t ∧ s.arbiter.wheelPtr = t.arbiter.wheelPtr :=
  ⟨by decide, by decide, by decide, by decide, by decide, _, rfl, by decide⟩

/-- A table of round-robin entries only, counts above their limits, an entry of client 6 and a table without client 5. -/
theorem witness_SetArbiterTakesTable :
    let robin : List Byte := [0, 1, 2, 3, 4, 5]
    let table : ArbTable := ⟨[], [], ArbTable.default.robin⟩
    live.canAccept ∧ live.mode ≠ .booting ∧ table.robin.map ArbEntry.code = robin.take (min 6 (255 : Byte).toNat)
      ∧ 5 < (6 : Byte).toNat % 16 ∧ 1 < (0x20 : Byte).toNat / 16 ∧ (∀ e ∈ ([0, 1, 2, 3, 4] : List Byte), e.toNat ≠ 5) :=
  ⟨live_accepts, by decide⟩

theorem witness_ReadCompletionKeepsRows :
    let w : Window := ⟨[⟨7, 3, .inFlight⟩], 4⟩
    let s := { (running (.active 2 false)).setPort .c0 ((camera .streaming [{ slot .ready with pin := .primary }]).port .c0) with
      arbiter := { Arbiter.reset with channel := .busy (.read false 7 3) }, composer := { Composer.reset with rp := w } }
    s.arbiter.channel = .busy (.read false 7 3) ∧ w.lines = [] ++ ⟨7, 3, .inFlight⟩ :: []
      ∧ s.zoom.current = some (record (.steady .c0)) ∧ (record (.steady .c0)).primary = some entry0
      ∧ (s.port entry0.camera).ring[entry0.slot]? = some { slot .ready with pin := .primary }
      ∧ (s.port entry0.camera).format = some fmt0 ∧ s.otg.format = some ⟨640, 360, 30000⟩
      ∧ (∀ l ∈ ([] : List WindowLine), ¬ (l.frame = 7 ∧ l.line = 3))
      ∧ (lumaColumns entry0.geometry fmt0).index 0 ≤ fmt0.ws - 1
      ∧ (chromaColumns entry0.geometry fmt0).index 0 ≤ fmt0.ws / 2 - 1 := by decide

/-- A busy bus, a bus with nothing to do, one with a pass-through, one with a ready script; an address of 0x7F. -/
theorem witness_BusGivenByRule :
    let s := scripted [.write 9 [1]] .ready none
    let p := live.setBus .a { BusState.reset with passQueue := [⟨0, ⟨0x7F, 0, .read 1⟩⟩] }
    ((scripted [] .onBus (some ⟨.script, ⟨0x10, 9, .write [1]⟩⟩)).bus .a).engine.isSome = true ∧ (live.bus .a).engine = none
      ∧ (p.bus .a).passQueue = ⟨0, ⟨0x7F, 0, .read 1⟩⟩ :: [] ∧ (p.bus .a).running = none
      ∧ (s.bus .a).running = some ⟨⟨.c0, .start, 0x10⟩, 0, .ready, 0, false⟩
      ∧ s.stepOf ⟨⟨.c0, .start, 0x10⟩, 0, .ready, 0, false⟩ = some (.write 9 [1])
      ∧ (Step.write 9 [1]).transaction 0x10 = some ⟨0x10, 9, .write [1]⟩ ∧ 0x7F ≤ 0x7F ∧ 0 < ([1] : List Byte).length := by
  decide

/-- Counts 0, 4 and 5, forms 0, 1 and 2, a camera with and without a calibration part, seven and eight entries. -/
theorem witness_PassThroughQueued :
    let p : PassThrough := ⟨0, ⟨0x7F, 0, .read 1⟩⟩
    let s := camera .off []
    s.canAccept ∧ s.mode ≠ .booting ∧ 4 < (5 : Byte).toNat ∧ 1 < (2 : Byte).toNat ∧ (4 : Byte).toNat ≤ 4
      ∧ 3 < (4 : Byte).toNat ∧ (s.port .c0).cal = some cal0 ∧ (s.port .c1).cal = none ∧ 0x7F < (0x80 : Byte).toNat
      ∧ (0x7F : Byte).toNat ≤ 0x7F ∧ (List.replicate 7 p).length < 8 ∧ 8 ≤ (List.replicate 8 p).length :=
  ⟨⟨rfl, by decide⟩, by decide⟩

theorem witness_PassThroughAnswered :
    let p : PassThrough := ⟨3, ⟨0x10, 9, .read 2⟩⟩
    let s := { live.setBus .a { BusState.reset with engine := some ⟨.pass, p.transaction⟩, passQueue := [p] } with
      link := { Link.reset with opened := [⟨2, 0x0F, 1⟩, ⟨3, 0x14, 8⟩] } }
    (s.bus .a).engine = some ⟨.pass, p.transaction⟩ ∧ (s.bus .a).passQueue = p :: []
      ∧ s.link.opened = [⟨2, 0x0F, 1⟩] ++ ⟨p.id, 0x14, 8⟩ :: [] ∧ (∀ o ∈ [(⟨2, 0x0F, 1⟩ : OpenRequest)], o.id ≠ p.id) := by
  decide

/-- A script of 24 steps and one of 25, a step of each kind at the edges of its ranges, and a script in use. -/
theorem witness_LoadScriptReplaces :
    let wait : RawStep := ⟨2, 1, 0, 0, 0, 0⟩
    live.canAccept ∧ live.mode ≠ .booting ∧ (1 : Byte).toNat = Selector.stop.code.toNat
      ∧ (List.replicate 24 wait).map stepOfRaw = (List.replicate 24 (Step.wait 1)).map some
      ∧ 24 < (List.replicate 25 wait).length ∧ stepOfRaw ⟨1, 9, 5, 0, 0, 0⟩ = none
      ∧ stepOfRaw ⟨3, 9, 0xF0, 0xA0, 1000, 0⟩ = some (.poll 9 0xF0 0xA0 1000) ∧ stepOfRaw ⟨3, 9, 0, 0, 1001, 0⟩ = none
      ∧ ((scripted [] .ready none).bus .a).running.isSome = true ∧ (live.bus .a).running = none := ⟨live_accepts, by decide⟩

/-- A POLL at 1,000 microseconds less one and at 1,000, with bytes that match and do not match; a marked script. -/
theorem witness_ScriptTransactionEnds :
    let r : Running := ⟨⟨.c0, .start, 0x10⟩, 0, .onBus, 0, false⟩
    let s := scripted [.poll 9 0xF0 0xA0 1] .onBus (some ⟨.script, ⟨0x10, 9, .read 1⟩⟩)
    (s.bus .a).engine = some ⟨.script, ⟨0x10, 9, .read 1⟩⟩ ∧ (s.bus .a).running = some r
      ∧ s.stepOf r = some (.poll 9 0xF0 0xA0 1) ∧ r.abort = false
      ∧ ((0xAF : Byte) &&& 0xF0 = 0xA0 &&& 0xF0) ∧ ((0xBF : Byte) &&& 0xF0 ≠ 0xA0 &&& 0xF0)
      ∧ ((999 : Word) - r.begun).toNat < 1000 * 1 ∧ 1000 * 1 ≤ ((1000 : Word) - r.begun).toNat
      ∧ ({ r with abort := true } : Running).abort = true
      ∧ (scripted [.write 9 [1]] .onBus none).stepOf r = some (.write 9 [1]) := by decide

/-- A WAIT with a step after it, the last WAIT of a LOADING camera's START script, of a STOP script, and a retry. -/
theorem witness_ScriptGoesOn :
    let r : Running := ⟨⟨.c0, .start, 0x10⟩, 0, .waiting 0, 0, false⟩
    let s := scripted [.wait 5, .wait 6] (.waiting 0) none
    (s.bus .a).running = some r ∧ [Step.wait 5, .wait 6][r.step + 1]? = some (.wait 6)
      ∧ [Step.wait 5].length ≤ r.step + 1 ∧ (s.port .c0).state = .loading ∧ (s.port .c0).cal = some cal0
      ∧ (s.bus .a).waiting = [] ∧ ({ r with run := ⟨.c0, .stop, 0x10⟩ } : Running).run.selector = .stop
      ∧ ((scripted [.poll 9 1 1 1] (.retry 0) none).bus .a).running = some { r with phase := .retry 0 }
      ∧ r.phase ≠ .retry 0 ∧ ({ r with phase := .waiting 1 } : Running).phase ≠ .waiting 0 ∧ (live.bus .a).running = none := by decide

/-- The states a report finds, with a run that waits and with none. -/
theorem witness_ScriptEndReported :
    let w := live.setBus .a { BusState.reset with waiting := [⟨.c1, .stop, 0x11⟩] }
    ((camera .stopping []).port .c0).state = .stopping ∧ ((camera .off []).port .c0).state ≠ .stopping
      ∧ ((camera .loading [slot .filling]).port .c0).state = .loading ∧ ((camera .off []).port .c0).state ≠ .loading
      ∧ ((camera .loading []).port .c0).cal = some cal0 ∧ (w.bus .a).waiting = ⟨.c1, .stop, 0x11⟩ :: []
      ∧ (live.bus .a).waiting = [] := by decide

/-- The smallest and the largest output format, and a width of 642 less one. -/
theorem witness_SetOutputFormatReplaces :
    live.canAccept ∧ live.mode = .config ∧ (running .stopped).mode ≠ .config
      ∧ (640 ≤ (3840 : Half).toNat ∧ (3840 : Half).toNat ≤ 3840 ∧ (360 : Half).toNat % 2 = 0)
      ∧ (25000 ≤ (600000 : Word).toNat ∧ (600000 : Word).toNat ≤ 600000) ∧ ¬ ((641 : Half).toNat % 2 = 0) :=
  ⟨live_accepts, by decide⟩

theorem witness_SetOutputBlankingByMode :
    live.canAccept ∧ live.mode ≠ .booting ∧ ¬ (64 ≤ (63 : Half).toNat) ∧ (64 ≤ (64 : Half).toNat ∧ (1024 : Half).toNat ≤ 1024)
      ∧ (live.mode = .config ∧ live.otg.format = none) ∧ (running .stopped).mode = .run
      ∧ ({ running .stopped with mode := .config } : State).otg.format ≠ none := ⟨live_accepts, by decide⟩

/-- The output can start with camera 0 alone over an output 640 wide; camera 1 with an M above its Zmax, and one that leaves
a gap. -/
def startable : State :=
  { (camera .off []).setPort .c0 { (camera .off []).port .c0 with format := some ⟨640, 360, 3⟩ } with
    otg := { Otg.reset with format := some ⟨640, 360, 30000⟩, blanking := some ⟨64, 8⟩ } }

theorem witness_StartOutputBegins :
    let o : OutFormat := ⟨640, 360, 30000⟩
    let zmax : Cam → Nat := fun _ => 4096
    startable.canAccept ∧ startable.mode = .config ∧ startable.otg.format = some o ∧ live.otg.format = none
      ∧ (∀ c k f, (startable.port c).cal = some k → (startable.port c).format = some f →
          zmax c = min k.zmax (k.m * f.ws * 8 / o.wo))
      ∧ (∀ c, startable.configured c = true → startable.mOf c ≤ zmax c) ∧ startable.zoom.view = .normal
      ∧ startable.eligible .c0 = true ∧ (∀ c, Cam.c0.idx < c.idx → startable.eligible c = false)
      ∧ startable.mOf .c0 ≤ zmax .c0 ∧ 1024 = max (startable.mOf .c0) (min (zmax .c0) (max 256 (min 40960 (0 : Half).toNat))) := by
  refine ⟨⟨rfl, by decide⟩, rfl, rfl, rfl, ?_, every_cam (by decide) (by decide) (by decide) (by decide), rfl, by decide,
    every_cam (by decide) (by decide) (by decide) (by decide), by decide, by decide⟩
  intro c k f hk hf
  cases c
  · obtain rfl : cal0 = k := by simpa [startable, camera, live, State.port, State.setPort, Quad.set, Quad.get] using hk
    obtain rfl : (⟨640, 360, 3⟩ : Format) = f := by
      simpa [startable, camera, live, State.port, State.setPort, Quad.set, Quad.get] using hf
    decide
  all_goals exact absurd hk (by simp [startable, camera, live, State.port, State.setPort, Quad.set, Quad.get, State.reset,
    Quad.const, Port.reset])

/-- Every configured camera FAULTED: none is eligible, and the ranges stand. -/
theorem witness_StartOutputBegins_faulted :
    let s := startable.setPort .c0 { startable.port .c0 with state := .faulted }
    s.canAccept ∧ s.mode = .config ∧ s.otg.format = some ⟨640, 360, 30000⟩ ∧ s.configured .c0 = true
      ∧ (∀ c, s.eligible c = false) ∧ (∀ c, s.configured c = true → s.mOf c ≤ 4096) ∧ s.zoom.view = .normal :=
  ⟨⟨rfl, by decide⟩, rfl, rfl, by decide, every_cam (by decide) (by decide) (by decide) (by decide),
    every_cam (by decide) (by decide) (by decide) (by decide), rfl⟩

/-- A boundary; and the rings of the selection for a target of 100: a frame of age 0, only frames after it, none but a pinned
one, and none at all. -/
theorem witness_BoundaryComposesFrame :
    let x := { slot .ready with pin := .primary, release := true }
    (running (.active 359 true)).mode = .run ∧ (running (.active 359 true)).otg.stopPending = none
      ∧ ((atPixel (.active 359 true) (704 * 368)).otg.raster = .active 359 true ∧ 360 ≤ 359 + 1
        ∧ 1000 * ((640 + 64) * (360 + 8)) < (atPixel (.active 359 true) (704 * 368)).otg.phase)
      ∧ (running (.active 359 true)).otg.format = some ⟨640, 360, 30000⟩
      ∧ (match (running (.active 359 true)).otg.shadow with
          | some x => some x
          | none => (running (.active 359 true)).otg.blanking) = some ⟨64, 8⟩
      ∧ (((100 : Word) - (slot .ready).start).toNat = 0
        ∧ ((100 : Word) - ({ slot .ready with start := 99 } : Slot).start).toNat = 1)
      ∧ (2147483648 ≤ ((99 : Word) - (slot .ready).start).toNat
        ∧ ((99 : Word) - ({ slot .ready with start := 101 } : Slot).start).toNat < ((99 : Word) - (slot .ready).start).toNat)
      ∧ (0 < ((6 : Word) - 5).toNat ∧ ((6 : Word) - 5).toNat < 2147483648)
      ∧ (x.state = .ready ∧ x.release ≠ false ∧ x.pin ≠ .none)
      ∧ ((camera .waiting []).port .c0).format ≠ none ∧ ((camera .waiting []).port .c0).state ≠ .faulted
      ∧ (live.port .c0).format = none := by decide

theorem witness_StopOutputTakesEffect :
    let s := atPixel (.active 359 true) (704 * 368)
    let t := { s with
      otg := { s.otg with stopPending := some 0 }, link := { Link.reset with opened := [⟨0, 0x0F, 4⟩], nextId := 1 } }
    s.canAccept ∧ s.mode = .run ∧ s.otg.stopPending = none ∧ t.otg.stopPending = some 0
      ∧ t.zoom.current = some (record (.steady .c0)) ∧ t.link.opened = [] ++ ⟨0, 0x0F, 4⟩ :: []
      ∧ (t.otg.blanking = some ⟨64, 8⟩ ∧ t.otg.raster = .active 359 true ∧ 1000 * ((640 + 64) * (360 + 8)) < t.otg.phase) :=
  ⟨⟨rfl, show 0 < 8 by decide⟩, by decide⟩

/-- The last blanking line before and after the frame start, the line before it, and the last active line, at their pixels and
a microsecond before. -/
theorem witness_RasterEventsInOrder :
    (running (.blanking 7 false)).otg.format = some ⟨640, 360, 30000⟩ ∧ (running (.blanking 7 false)).otg.blanking = some ⟨64, 8⟩
      ∧ 7 + 1 = 8 ∧ 6 + 1 < 8 ∧ (running (.active 359 false)).otg.raster = .active 359 false ∧ 359 + 1 = 360
      ∧ (running (.active 359 false)).zoom.current = some (record (.steady .c0))
      ∧ 1000 * ((6 + 1) * 704) < (atPixel (.blanking 6 false) (7 * 704)).otg.phase
      ∧ 1000 * ((8 - 1) * 704) < (atPixel (.blanking 7 false) (7 * 704)).otg.phase
      ∧ 1000 * ((8 + 360 - 1) * 704 + 640) < (atPixel (.active 359 false) (367 * 704 + 640)).otg.phase
      ∧ ¬ (1000 * ((6 + 1) * 704) < (running (.blanking 6 false)).otg.phase)
      ∧ (live.otg.raster = .stopped ∧ live.mode ≠ .run) := by decide

/-- Line 0 and the last line; a COMPARE split at 180 that both sources serve; rows held and not held. -/
theorem witness_LineStartSendsLine :
    let d : ReadData := ⟨[], [], []⟩
    (running (.blanking 7 true)).otg.raster = .blanking 7 true ∧ (running (.active 358 false)).otg.raster = .active (359 - 1) false
      ∧ (atPixel (.blanking 7 true) (8 * 704)).otg.blanking = some ⟨64, 8⟩
      ∧ 1000 * ((8 + 0) * (640 + 64)) < (atPixel (.blanking 7 true) (8 * 704)).otg.phase
      ∧ 1000 * ((8 + 359) * (640 + 64)) < (atPixel (.active 358 false) (367 * 704)).otg.phase
      ∧ ((record (.steady .c0)).primaryServes 360).has 359 = true ∧ ((record (.steady .c0)).secondaryServes 360).has 359 = false
      ∧ (⟨[⟨7, 359, .complete d⟩], 360⟩ : Window).rowsOf 359 = some d ∧ Window.empty.rowsOf 359 = none
      ∧ ({ record .frozen with primary := none } : Record).primaryServes 360 = ⟨0, 0⟩
      ∧ (({ record (.blend .c0 .c1 4 8 .forward) with secondary := some entry0 } : Record).secondaryServes 360).has 0 = true
      ∧ (({ record (.compare .c0 .c1 180) with secondary := some entry0 } : Record).secondaryServes 360).has 180 = true
      ∧ ((record (.compare .c0 .c1 180)).primaryServes 360).has 180 = false := by decide

theorem witness_FrameSyncSetAndPulsed :
    live.canAccept ∧ live.mode ≠ .booting ∧ 1 < (2 : Byte).toNat ∧ 1000 < (1001 : Half).toNat ∧ (1000 : Half).toNat ≤ 1000
      ∧ (live.otg.format = none ∧ live.mode = .config)
      ∧ startable.otg.format = some ⟨640, 360, 30000⟩ ∧ startable.otg.blanking = some ⟨64, 8⟩
      ∧ (live.otg.fsync.get .c3).high = true ∧ ({ Fsync.reset with high := false } : Fsync).high = false
      ∧ live.otg.lineActive.get .c3 = false
      ∧ (Quad.const (some (⟨5, 1, 6, true, false⟩ : Pulse))).get .c3 = some ⟨5, 1, 6, true, false⟩ ∧ 5 + 1 ≤ 6 ∧ 5 ≤ 5 ∧ 4 < 5
      ∧ live.otg.pulse.get .c3 = none := ⟨live_accepts, by decide⟩

/-- Seven and eight segments. -/
theorem witness_ZoomRampRequests :
    let g : Segment := ⟨1024, 1, .append, none⟩
    (running .stopped).canAccept ∧ (running .stopped).mode = .run ∧ (List.replicate 7 g).length < 8
      ∧ 8 ≤ (List.replicate 8 g).length ∧ 1 < (2 : Byte).toNat
      ∧ (running .stopped).zoom.current = some (record (.steady .c0)) := ⟨running_accepts _, by decide⟩

/-- Margins of 256 and 257, a split at the output height, cameras that are and are not eligible. -/
theorem witness_SetHandoffAndView :
    live.canAccept ∧ live.mode ≠ .booting ∧ (256 : Half).toNat ≤ 256 ∧ 256 < (257 : Half).toNat
      ∧ (table15.mode = .run ∧ table15.otg.format = some ⟨640, 360, 30000⟩ ∧ (360 : Half).toNat ≤ 360)
      ∧ 2 < (3 : Byte).toNat ∧ 3 < (4 : Byte).toNat ∧ table15.eligible .c0 = true ∧ table15.eligible .c3 = false
      ∧ max (table15.mOf .c0) (table15.mOf .c1) ≤ min (table15.zmaxOf .c0) (table15.zmaxOf .c1) := ⟨live_accepts, by decide⟩

/-- The view step: COMPARE of cameras that serve, of one that does not, of two without overlap, reached already with one pair
and with another, one camera lost; and a view that leaves COMPARE. -/
theorem witness_SetHandoffAndView_compare :
    let view := fun (v : View) (e : Engine) => { table15 with zoom := { table15.zoom with
      engine := e, view := v, selection := ⟨some ⟨0, 5, 100, false⟩, some ⟨0, 5, 100, false⟩, none, none⟩ } }
    let s := view (.compare .c0 .c1 180) (.steady .c0)
    let t := view (.compare .c0 .c2 180) (.compare .c0 .c1 90)
    let lost := s.setPort .c1 { s.port .c1 with state := .stalled }
    (s.zoom.view = .compare .c0 .c1 180 ∧ s.zoom.engine = .steady .c0 ∧ s.canServe .c0 = true ∧ s.canServe .c1 = true
        ∧ s.overlap .c0 .c1 = true)
      ∧ (s.canServe .c2 = false ∧ s.eligible .c2 = true ∧ s.overlap .c1 .c2 = true)
      ∧ (t.eligible .c0 = true ∧ t.eligible .c2 = true ∧ t.overlap .c0 .c2 = false ∧ t.zoom.engine = .compare .c0 .c1 90)
      ∧ ((lost.port .c0).state = .streaming ∧ (lost.port .c1).state ≠ .streaming)
      ∧ (view .normal (.compare .c0 .c1 90)).zoom.engine = .compare .c0 .c1 90 := by decide

theorem witness_SetDistanceTaken :
    live.canAccept ∧ (State.reset.canAccept ∧ State.reset.mode = .booting) ∧ live.mode ≠ .booting ∧ 1 ≤ (1 : Half).toNat
      ∧ (99 : Half).toNat ≤ 99 ∧ 100 ≤ (100 : Half).toNat ∧ (startable.port .c0).cal = some cal0 :=
  ⟨live_accepts, ⟨⟨rfl, by decide⟩, rfl⟩, by decide⟩

/-- The ends of a ramp and of a window; Table 15 for the cameras, and a view of each kind. -/
theorem witness_RampReachesTarget :
    let locked := { table15 with zoom := { table15.zoom with view := .locked .c1 } }
    (⟨3379, 4, .append, some ⟨1024, 2⟩⟩ : Segment).progress = some ⟨1024, 2⟩ ∧ 2 + 1 < 4 ∧ 4 ≤ 3 + 1
      ∧ 1 ≤ 1 ∧ 0 ≤ 0 ∧ 0 < 1 ∧ 3072 ≤ 4096 ∧ ¬ (3072 ≤ 3071) ∧ 4096 < 4097
      ∧ (table15.port .c0).cal = some { cal0 with m := 1024, zmax := 4096 }
      ∧ (Quad.set (Quad.const (none : Option Nat)) .c0 (some 4096)).get .c0 = some 4096 ∧ table15.zoom.priorM.get .c0 = none
      ∧ locked.zoom.view = .locked .c1 ∧ table15.zoom.view = .normal
      ∧ (table15.eligible .c0 = true ∧ table15.eligible .c2 = true ∧ table15.eligible .c3 = false)
      ∧ (Cam.c1.idx < Cam.c2.idx ∧ table15.upOf .c1 ≤ 3378 ∧ 3378 < table15.upOf .c2 ∧ 1023 < table15.upOf .c0)
      ∧ live.eligible .c0 = false := by decide

/-- Table 15 with frames for cameras 0 and 1, an engine state, and states for the cameras. -/
def handing (e : Engine) (x0 x1 x2 : CamState) : State :=
  let s := { table15 with zoom := { table15.zoom with
    engine := e, selection := ⟨some ⟨0, 5, 100, false⟩, some ⟨0, 5, 100, false⟩, none, none⟩ } }
  ((s.setPort .c0 { s.port .c0 with state := x0 }).setPort .c1 { s.port .c1 with state := x1 }).setPort .c2
    { s.port .c2 with state := x2 }

/-- STEADY: lost with others left and with none; the target the camera itself, one that overlaps in a state that is ready and
in one that is not, one reached through another, one behind a faulted camera. -/
theorem witness_HandoffInBlendAndLoss_steady :
    let s := handing (.steady .c0) .streaming .streaming .streaming
    let lost := handing (.steady .c0) .stalled .streaming .streaming
    let none := handing (.steady .c0) .stalled .off .off
    let gap := handing (.steady .c0) .streaming .faulted .streaming
    s.zoom.view = .normal ∧ s.zoom.engine = .steady .c0
      ∧ (lost.canServe .c1 = true ∧ lost.mOf .c1 ≤ 3072 ∧ 3071 < lost.mOf .c1)
      ∧ (none.canServe .c0 = false ∧ none.canServe .c1 = false ∧ none.canServe .c2 = false ∧ none.canServe .c3 = false)
      ∧ s.target .c0 3377 = .c0 ∧ (s.target .c0 3378 = .c1 ∧ s.overlap .c1 .c0 = true)
      ∧ (s.target .c0 11260 = .c2 ∧ s.overlap .c2 .c0 = false ∧ s.stepCamera .c0 .c2 = some .c1)
      ∧ ((lost.port .c0).state = .stalled ∧ (s.port .c1).state = .streaming)
      ∧ (gap.target .c0 11260 = .c2 ∧ gap.stepCamera .c0 .c2 = Option.none ∧ gap.canServe .c2 = false) := by decide

/-- PREPARE: the outgoing camera lost with an incoming one that serves and that does not; the incoming camera lost, awaited
and ready, with the last fresh frame; the target back at the outgoing camera, and at a third one. -/
theorem witness_HandoffInBlendAndLoss_prepare :
    let s := handing (.prepare .c0 .c1 2 true) .streaming .streaming .streaming
    let away := handing (.prepare .c0 .c1 2 false) .streaming .off .streaming
    let other := handing (.prepare .c0 .c2 2 true) .streaming .streaming .streaming
    s.zoom.engine = .prepare .c0 .c1 2 true ∧ s.canServe .c1 = true
      ∧ (handing (.prepare .c0 .c1 2 true) .stalled .waiting .off).canServe .c1 = false
      ∧ (s.target .c0 3377 = .c0 ∧ s.target .c0 3378 = .c1 ∧ s.stepCamera .c0 .c1 = some .c1)
      ∧ (s.zoom.settings.prepare = 3 ∧ 2 < 3 ∧ 3 ≤ 2 + 1) ∧ ((away.port .c1).state = .off ∧ away.stepCamera .c0 .c1 = some .c1)
      ∧ (other.target .c0 11260 = .c2 ∧ other.stepCamera .c0 .c2 = some .c1) := by decide

/-- BLEND with both cameras, one or none; FROZEN and STOPPED with cameras that serve and with none. -/
theorem witness_HandoffInBlendAndLoss :
    let s := handing (.blend .c0 .c1 7 8 .forward) .streaming .streaming .off
    let locked := { s with zoom := { s.zoom with view := .locked .c0 } }
    let none := handing .frozen .stalled .off .off
    s.zoom.view = .normal ∧ s.zoom.engine = .blend .c0 .c1 7 8 .forward ∧ (s.port .c0).state = .streaming
      ∧ (s.port .c1).state = .streaming ∧ 8 ≤ 7 + 1 ∧ decide (4096 < s.downOf .c1) = false
      ∧ decide (3000 < s.downOf .c1) = true ∧ locked.zoom.view = .locked .c0 ∧ 1 ≤ 1
      ∧ ((handing (.blend .c0 .c1 7 8 .back) .stalled .stalled .off).port .c0).state ≠ .streaming
      ∧ (none.zoom.engine = .frozen ∧ none.canServe .c0 = false ∧ none.canServe .c1 = false ∧ none.canServe .c2 = false)
      ∧ (handing .stopped .streaming .streaming .off).freshChoice 1024 = some .c0
      ∧ (handing .stopped .stalled .streaming .off).canServe .c0 = false := by decide

/-- The smallest and the largest sizes, the largest zoom, and heights below and above the active height. -/
theorem witness_CropInsideActiveArea :
    let x : GeometryIn := ⟨64, 64, 256, -4096, 4096, 0, 0, 0, 40960, 3840, 360⟩
    (64 ≤ x.ws ∧ x.ws % 2 = 0) ∧ (64 ≤ x.hs ∧ x.hs % 2 = 0) ∧ 256 ≤ x.m ∧ 256 ≤ x.z ∧ (640 ≤ x.wo ∧ x.wo ≤ 3840 ∧ x.wo % 2 = 0)
      ∧ (360 ≤ x.ho ∧ x.ho ≤ 2160 ∧ x.ho % 2 = 0) ∧ (16 * 360 + 1920) / 3840 ≤ x.hs
      ∧ 1728 < (3074 * 2160 + 1920) / 3840 := by decide

/-- The ends of the ranges; a camera with a narrower configured one and one without; a mean, and the slots of a
measurement. -/
theorem witness_SampleAndCorrectionArithmetic :
    let e := (Record.primary (record (.steady .c0)))
    256 ≤ 256 ∧ 255 ≤ 255 ∧ Corr.Law ⟨512, -32, 32, true⟩ ∧ Corr.Law ⟨2047, 32, -32, false⟩ ∧ (512 ≤ 1024 ∧ 1024 ≤ 2047)
      ∧ ((table15.port .c0).format = some fmt0 ∧ (table15.port .c1).cal.isSome = true ∧ (table15.port .c3).cal = none
        ∧ 64 % 2 = 0 ∧ 1024 < 3072)
      ∧ (⟨509, 2⟩ : Tally).count ≠ 0 ∧ 509 ≤ 255 * 2
      ∧ (let g : Region := ⟨2, 4, 2, 2⟩; 1 ≤ g.wr ∧ 1 ≤ g.hr ∧ (g.yr ≤ 5 ∧ 5 < g.yr + g.hr) ∧ (3 < g.yr ∧ g.yr + g.hr ≤ 6))
      ∧ (∀ z ∈ [(⟨7, 0, [1]⟩ : Span)], z.row ≠ 8) ∧ ([1, 2] : List Byte)[1]? = some 2
      ∧ ({ slot .ready with full := some ⟨1, 2, 3⟩ } : Slot).full = some ⟨1, 2, 3⟩
      ∧ e = some entry0 ∧ ((camera .streaming [slot .ready]).port entry0.camera).ring[entry0.slot]? = some (slot .ready)
      ∧ (Quad.const (some (⟨0, 5, 100, false⟩ : Selection))).get .c1 = some ⟨0, 5, 100, false⟩ :=
  ⟨by decide, by decide, ⟨by decide, by decide, by decide⟩, ⟨by decide, by decide, by decide⟩, by decide⟩

/-- Two lines of a region, one luma column of which carries chroma (R107). -/
theorem test_region_sums : let d : RowData := ⟨[1, 2, 3, 4], [5, 6], [7, 8]⟩
    Sums.zero.add (some ⟨1, 4, 2, 2⟩) 4 d = ⟨⟨⟨10, 4⟩, ⟨11, 2⟩, ⟨15, 2⟩⟩, ⟨⟨5, 2⟩, ⟨6, 1⟩, ⟨8, 1⟩⟩⟩
      ∧ (Sums.zero.add (some ⟨1, 4, 2, 2⟩) 6 d).region = Sums.zero.region := by decide

/-! The laws hold of the reset state, which answers a step: a lawful state with a next state. -/

theorem witness_StepKeepsOutboundPlaces : State.reset.link.Law ∧ ∃ t, step State.reset = .next t :=
  ⟨⟨by decide, by decide, by decide, by decide⟩, _, rfl⟩

theorem witness_StepKeepsOpenRequests : State.reset.OpenLaw := ⟨by decide, by decide, by decide⟩

theorem reset_run_law : State.reset.RunLaw :=
  ⟨every_cam (by decide) (by decide) (by decide) (by decide), every_cam (by decide) (by decide) (by decide) (by decide),
    by intro x r h; cases x <;> exact absurd h (by decide +revert)⟩

theorem witness_StepKeepsTablesAndCapacities : State.reset.arbiter.Law ∧ State.reset.Capacities ∧ State.reset.RunLaw
    ∧ State.reset.ChannelLaw ∧ live.ChannelLaw :=
  ⟨reset_arbiter_law _,
    ⟨every_cam (by decide) (by decide) (by decide) (by decide), by decide, by intro x; cases x <;> decide, by decide,
      every_cam (by decide) (by decide) (by decide) (by decide)⟩, reset_run_law, ⟨fun _ => rfl, fun _ => rfl⟩,
    ⟨fun h => (by cases h), fun h => (by cases h)⟩⟩

/-- A camera in STREAMING with its countdown armed, and the reset state. -/
theorem witness_StepKeepsCountdowns : (counting .streaming 0).CountdownLaw .c0 ∧ ∀ c, State.reset.CountdownLaw c :=
  ⟨⟨by decide, by decide, by decide, by decide, by decide, by decide⟩,
    every_cam ⟨by decide, by decide, by decide, by decide, by decide, by decide⟩
      ⟨by decide, by decide, by decide, by decide, by decide, by decide⟩
      ⟨by decide, by decide, by decide, by decide, by decide, by decide⟩
      ⟨by decide, by decide, by decide, by decide, by decide, by decide⟩⟩

/-- A ring whose slot 0 the record pins. -/
def pinnedState : State :=
  (running .stopped).setPort .c0 ((camera .streaming [{ slot .ready with pin := .primary }, slot .filling]).port .c0)

/-- Its FILLING slot has no write outstanding and nothing is DRAINING. -/
theorem pinned_drains : (pinnedState.port .c0).DrainLaw := by
  refine ⟨by decide, ?_, by decide, ?_, ?_, ?_⟩
  · intro f h; obtain rfl : fmt0 = f := Option.some.inj h; decide
  · intro k x h hx
    match k, h with
    | 0, h => obtain rfl : ({ slot .ready with pin := .primary } : Slot) = x := Option.some.inj h; exact absurd hx (by decide)
    | 1, h => obtain rfl : slot .filling = x := Option.some.inj h; exact absurd hx (by decide)
    | k + 2, h => exact absurd h (by simp [pinnedState, camera, State.port, State.setPort, Quad.get, Quad.set])
  · intro k x h _
    match k, h with
    | 0, h => obtain rfl : ({ slot .ready with pin := .primary } : Slot) = x := Option.some.inj h; decide
    | 1, h => obtain rfl : slot .filling = x := Option.some.inj h; decide
    | k + 2, h => exact absurd h (by simp [pinnedState, camera, State.port, State.setPort, Quad.get, Quad.set])
  · intro j x k y hj _ hx _ _
    match j, hj with
    | 0, h => obtain rfl : ({ slot .ready with pin := .primary } : Slot) = x := Option.some.inj h; exact absurd hx (by decide)
    | 1, h => obtain rfl : slot .filling = x := Option.some.inj h; exact absurd hx (by decide)
    | j + 2, h => exact absurd h (by simp [pinnedState, camera, State.port, State.setPort, Quad.get, Quad.set])

theorem witness_StepKeepsRingsAndPins : pinnedState.RingLaw .c0 ∧ pinnedState.StoreLaw := by
  refine ⟨⟨by decide, pinned_drains, ?_, ?_⟩, every_cam (by decide) (by decide) (by decide) (by decide)⟩
  · intro k x h
    match k, h with
    | 0, h => obtain rfl : ({ slot .ready with pin := .primary } : Slot) = x := Option.some.inj h; decide
    | 1, h => obtain rfl : slot .filling = x := Option.some.inj h; decide
    | k + 2, h => exact absurd h (by simp [pinnedState, camera, State.port, State.setPort, Quad.get, Quad.set])
  · intro k role h
    obtain ⟨rfl, rfl⟩ : 0 = k ∧ Pin.primary = role := by
      simpa [State.pinNow, pinnedState, running, record, entry0, State.setPort, Record.pinOf] using h
    exact ⟨{ slot .ready with pin := .primary }, rfl, rfl⟩

/-- An M from before, held in RUN for camera 1, which the engine does not name. -/
theorem witness_StepKeepsZoomLaws_prior :
    ({ lockedOne with zoom := { lockedOne.zoom with priorM := .set (.const none) .c1 (some 3072) } } : State).PriorLaw :=
  ⟨fun h => absurd rfl h, every_cam (by decide) (by decide) (by decide) (by decide),
    every_cam (by decide) (by decide) (by decide) (by decide)⟩

theorem witness_StepKeepsZoomLaws : Zoom.reset.EngineLaw ∧ Zoom.reset.RampLaw ∧ Zoom.reset.CorrLaw :=
  ⟨⟨trivial, trivial, ⟨by decide, by decide, by decide, by decide⟩, (fun _ h => by cases h), (fun _ h => by cases h)⟩,
    ⟨by decide, (fun _ h => by cases h), (fun _ h => by cases h)⟩,
    ⟨⟨by decide, by decide, by decide⟩, ⟨by decide, by decide, by decide⟩⟩⟩


end Sys2Proof.Tests
end

