-- ==== Sys2Proof/Proofs/CameraRecord.lean ====
section
/-!
PROOF. Removal of a camera (R1, step 2, and R3): what a camera byte names, what a removal does to the record, and its
three outcomes, which REMOVE_CAMERA and SET_CAMERA_FORMAT with slot count 0 share.
-/

namespace Sys2Proof.Machine

/-! ### The camera a camera byte names -/

/-- The index of a camera names that camera. -/
theorem camOf_of_idx {b : Byte} {c : Cam} (h : b.toNat = c.idx) : camOf b = some c := by
  cases c <;> simp [camOf, h, Cam.idx, Cam.ofNat?]

/-- A camera byte above 3 names no camera. -/
theorem camOf_of_gt {b : Byte} (h : 3 < b.toNat) : camOf b = none := by
  obtain ⟨n, hn⟩ : ∃ n, b.toNat = n + 4 := ⟨b.toNat - 4, by omega⟩
  simp [camOf, hn, Cam.ofNat?]

/-! ### Right after acceptance -/

@[simp] theorem State.taken_port (s : State) (c : Cam) : s.taken.port c = s.port c := rfl

@[simp] theorem State.taken_setPort (s : State) (c : Cam) (p : Port) :
    s.taken.setPort c p = (s.setPort c p).taken := rfl

/-! ### The record of a removed camera (R3) -/

/-- A camera with a format part loses both parts and its ring. -/
theorem State.removeCamera_of_format {s : State} {c : Cam} (h : (s.port c).format ≠ none) :
    s.removeCamera c = s.setPort c { s.port c with format := none, cal := none, ring := [] } := by
  obtain ⟨f, hf⟩ := Option.ne_none_iff_exists'.mp h
  simp [State.removeCamera, hf]

/-- A camera without a format part is left as it is. -/
theorem State.removeCamera_of_no_format {s : State} {c : Cam} (h : (s.port c).format = none) :
    s.removeCamera c = s := by
  simp [State.removeCamera, h]

/-! ### The outcomes of a removal (R1, R3) -/

/-- A removal of a camera there is not. -/
theorem State.takeRemoval_absent (s : State) (tag : Byte) {camera : Byte} (h : 3 < camera.toNat) :
    s.takeRemoval tag camera = s.reply 0x05 tag .badField := by
  simp [State.takeRemoval, camOf_of_gt h]

/-- A removal of a camera that is not OFF. -/
theorem State.takeRemoval_busy {s : State} (tag : Byte) {camera : Byte} {c : Cam} (hc : camera.toNat = c.idx)
    (h : (s.port c).state ≠ .off) : s.takeRemoval tag camera = s.reply 0x05 tag .busy := by
  simp [State.takeRemoval, camOf_of_idx hc, h]

/-- A removal of a camera that is OFF. -/
theorem State.takeRemoval_off {s : State} (tag : Byte) {camera : Byte} {c : Cam} (hc : camera.toNat = c.idx)
    (h : (s.port c).state = .off) : s.takeRemoval tag camera = (s.removeCamera c).reply 0x05 tag .ok := by
  simp [State.takeRemoval, camOf_of_idx hc, h]

/-! ### The two requests that remove a camera -/

/-- An accepted REMOVE_CAMERA in CONFIG is a removal, whatever Ws and Hs (R3). -/
theorem exec_removeCamera {s : State} (ha : s.canAccept) (hm : s.mode = .config) (tag camera : Byte) (ws hs : Half) :
    exec (.removeCamera tag camera ws hs) s = .next (s.taken.takeRemoval tag camera) :=
  congrArg Host.Outcome.next (State.acceptIn_ok ha hm 0x05 tag _)

/-- An accepted SET_CAMERA_FORMAT with slot count 0 in CONFIG is a removal, whatever Ws and Hs (R1, step 2). -/
theorem exec_setCameraFormat_zero {s : State} (ha : s.canAccept) (hm : s.mode = .config) (tag camera : Byte)
    (ws hs : Half) : exec (.setCameraFormat tag camera ws hs 0) s = .next (s.taken.takeRemoval tag camera) :=
  congrArg Host.Outcome.next (State.acceptIn_ok ha hm 0x05 tag _)

/-- What a removal answers, both requests that remove a camera answer. -/
theorem exec_removals {s t : State} (ha : s.canAccept) (hm : s.mode = .config) {tag camera : Byte} (ws hs : Half)
    (ht : s.taken.takeRemoval tag camera = t) :
    exec (.removeCamera tag camera ws hs) s = .next t ∧ exec (.setCameraFormat tag camera ws hs 0) s = .next t :=
  ⟨ht ▸ exec_removeCamera ha hm tag camera ws hs, ht ▸ exec_setCameraFormat_zero ha hm tag camera ws hs⟩

/-- Settles O15: both requests are one removal, and its outcomes are those of the camera byte, of the camera's state and
of its format part. -/
theorem removeCameraEmptiesRecord : Obligations.RemoveCameraEmptiesRecord := by
  unfold Obligations.RemoveCameraEmptiesRecord
  intro s tag camera ws hs ha hm both
  refine ⟨fun hgt => exec_removals ha hm ws hs ?absent, fun c hc =>
    ⟨fun hbusy => exec_removals ha hm ws hs ?busy, fun hoff hf => exec_removals ha hm ws hs ?removed,
      fun hoff hf => exec_removals ha hm ws hs ?unset⟩⟩
  case absent => rw [State.takeRemoval_absent _ tag hgt, State.taken_reply]
  case busy => rw [State.takeRemoval_busy (s := s.taken) tag hc hbusy, State.taken_reply]
  case removed =>
    rw [State.takeRemoval_off (s := s.taken) tag hc hoff, State.removeCamera_of_format (s := s.taken) hf,
      State.taken_port, State.taken_setPort, State.taken_reply]
  case unset =>
    rw [State.takeRemoval_off (s := s.taken) tag hc hoff, State.removeCamera_of_no_format (s := s.taken) hf,
      State.taken_reply]

end Sys2Proof.Machine
end

section
/-!
PROOF. The subject distance (R86): the value taken of each value sent, the request that keeps it, and the geometry that
reads it.
-/

namespace Sys2Proof.Machine

/-! ### The value taken (R86) -/

/-- A subject at infinity stays there. -/
theorem distanceTaken_zero : distanceTaken 0 = 0 := rfl

/-- A distance below the least one is raised to it. -/
theorem distanceTaken_of_near {d : Nat} (h1 : 1 ≤ d) (h99 : d ≤ 99) : distanceTaken d = 100 := if_pos ⟨h1, h99⟩

/-- A distance from the least one up is kept. -/
theorem distanceTaken_of_far {d : Nat} (h : 100 ≤ d) : distanceTaken d = d := if_neg (by omega)

/-! ### The request -/

/-- In BOOTING the request is refused (R183). -/
theorem exec_setDistance_booting {s : State} (ha : s.canAccept) (hm : s.mode = .booting) (tag : Byte) (d : Half) :
    exec (.setDistance tag d) s = .next (s.answered 0x12 tag .wrongMode) :=
  congrArg Host.Outcome.next (State.acceptLive_booting ha hm 0x12 tag _)

/-- Outside BOOTING the value taken is held and answered, with CLAMPED when it is not the value sent. -/
theorem exec_setDistance_live {s : State} (ha : s.canAccept) (hm : s.mode ≠ .booting) (tag : Byte) {d : Half} {n : Nat}
    (hn : distanceTaken d.toNat = n) :
    exec (.setDistance tag d) s = .next (({ s with zoom := { s.zoom with distance := n } }).answered 0x12 tag .ok
      (num16 n ++ [flagByte (n != d.toNat)])) := by
  subst hn
  exact congrArg Host.Outcome.next (State.acceptLive_ok ha hm 0x12 tag _)

/-- A value kept as sent is answered without CLAMPED. -/
theorem exec_setDistance_kept {s : State} (ha : s.canAccept) (hm : s.mode ≠ .booting) (tag : Byte) {d : Half}
    (hd : distanceTaken d.toNat = d.toNat) :
    exec (.setDistance tag d) s = .next (({ s with zoom := { s.zoom with distance := d.toNat } }).answered 0x12 tag .ok
      (num16 d.toNat ++ [0])) := by
  rw [exec_setDistance_live ha hm tag hd, bne_self_eq_false, flagByte, if_neg Bool.false_ne_true]

/-- A value taken as another one is answered with CLAMPED. -/
theorem exec_setDistance_clamped {s : State} (ha : s.canAccept) (hm : s.mode ≠ .booting) (tag : Byte) {d : Half} {n : Nat}
    (hn : distanceTaken d.toNat = n) (hd : n ≠ d.toNat) :
    exec (.setDistance tag d) s = .next (({ s with zoom := { s.zoom with distance := n } }).answered 0x12 tag .ok
      (num16 n ++ [1])) := by
  rw [exec_setDistance_live ha hm tag hn, bne_iff_ne.mpr hd, flagByte, if_pos rfl]

/-! ### The geometry (R85) -/

/-- The geometry of a camera with both parts, with an output format set, is that of the distance as it stands. -/
theorem State.geometry_of_parts {s : State} {c : Cam} {f : Format} {k : Cal} {o : OutFormat}
    (hf : (s.port c).format = some f) (hk : (s.port c).cal = some k) (ho : s.otg.format = some o) (z : Nat) :
    s.geometry c z = geometryOf ⟨f.ws, f.hs, k.m, k.cx, k.cy, k.px, k.py, s.zoom.distance, z, o.wo, o.ho⟩ := by
  simp only [State.geometry, hf, hk, ho]

/-- Settles O49: the reply and the distance held follow from the value taken, by the three ranges of the value sent, and
the geometry reads the distance held. -/
theorem setDistanceTaken : Obligations.SetDistanceTaken := by
  unfold Obligations.SetDistanceTaken
  refine ⟨fun s tag d ha => ⟨fun hm => exec_setDistance_booting ha hm tag d, ?infinity, ?near, ?far⟩,
    fun s c z f k o hf hk ho => State.geometry_of_parts hf hk ho z⟩
  case infinity =>
    rintro hm rfl
    exact exec_setDistance_kept ha hm tag distanceTaken_zero
  case near =>
    intro hm h1 h99
    exact exec_setDistance_clamped ha hm tag (distanceTaken_of_near h1 h99) (by omega)
  case far =>
    intro hm h100
    exact exec_setDistance_kept ha hm tag (distanceTaken_of_far h100)

end Sys2Proof.Machine
end

section
/-!
PROOF. The output format (R133): the ranges as propositions, the two outcomes of an accepted SET_OUTPUT_FORMAT, and the
request by mode.
-/

namespace Sys2Proof.Machine

/-! ### The ranges (R133) -/

theorem inRange_iff {lo hi n : Nat} : inRange lo hi n = true ↔ lo ≤ n ∧ n ≤ hi := decide_eq_true_iff

theorem evenInRange_iff {lo hi n : Nat} : evenInRange lo hi n = true ↔ lo ≤ n ∧ n ≤ hi ∧ n % 2 = 0 := by
  rw [evenInRange, Bool.and_eq_true, inRange_iff, beq_iff_eq, and_assoc]

theorem outFormatOk_iff {wo ho rate : Nat} :
    outFormatOk wo ho rate = true ↔ (640 ≤ wo ∧ wo ≤ 3840 ∧ wo % 2 = 0) ∧ (360 ≤ ho ∧ ho ≤ 2160 ∧ ho % 2 = 0) ∧
      (25000 ≤ rate ∧ rate ≤ 600000) := by
  rw [outFormatOk, Bool.and_eq_true, Bool.and_eq_true, evenInRange_iff, evenInRange_iff, inRange_iff, and_assoc]

theorem blankingOk_iff {hb vb : Nat} :
    blankingOk hb vb = true ↔ (64 ≤ hb ∧ hb ≤ 4096) ∧ (8 ≤ vb ∧ vb ≤ 1024) := by
  rw [blankingOk, Bool.and_eq_true, inRange_iff, inRange_iff]

/-! ### Right after acceptance -/

@[simp] theorem State.taken_otg (s : State) : s.taken.otg = s.otg := rfl

theorem State.taken_withOtg (s : State) (o : Otg) :
    { s.taken with otg := o } = ({ s with otg := o } : State).taken := rfl

/-! ### The outcomes of an accepted request (R133) -/

/-- With every field in its range, format and active blanking are replaced and the shadow is absent. -/
theorem State.takeOutputFormat_ok (s : State) (tag : Byte) {f : OutFormat} {b : Blanking}
    (hf : outFormatOk f.wo f.ho f.rate = true) (hb : blankingOk b.hb b.vb = true) :
    s.takeOutputFormat tag f b =
      ({ s with otg := { s.otg with format := some f, blanking := some b, shadow := none } }).reply 0x03 tag .ok :=
  if_pos (Bool.and_eq_true_iff.mpr ⟨hf, hb⟩)

/-- With a field outside its range, the refusal is all there is. -/
theorem State.takeOutputFormat_badField (s : State) (tag : Byte) {f : OutFormat} {b : Blanking}
    (h : ¬ (outFormatOk f.wo f.ho f.rate = true ∧ blankingOk b.hb b.vb = true)) :
    s.takeOutputFormat tag f b = s.reply 0x03 tag .badField :=
  if_neg fun hand => h (Bool.and_eq_true_iff.mp hand)

/-! ### The request -/

/-- Outside CONFIG the request is refused. -/
theorem exec_setOutputFormat_wrong {s : State} (ha : s.canAccept) (hm : s.mode ≠ .config) (tag : Byte) (wo ho : Half)
    (rate : Word) (hb vb : Half) :
    exec (.setOutputFormat tag wo ho rate hb vb) s = .next (s.answered 0x03 tag .wrongMode) :=
  congrArg Host.Outcome.next (State.acceptIn_wrong ha hm 0x03 tag _)

/-- In CONFIG the accepted request takes the values sent. -/
theorem exec_setOutputFormat_config {s : State} (ha : s.canAccept) (hm : s.mode = .config) (tag : Byte) (wo ho : Half)
    (rate : Word) (hb vb : Half) :
    exec (.setOutputFormat tag wo ho rate hb vb) s =
      .next (s.taken.takeOutputFormat tag ⟨wo.toNat, ho.toNat, rate.toNat⟩ ⟨hb.toNat, vb.toNat⟩) :=
  congrArg Host.Outcome.next (State.acceptIn_ok ha hm 0x03 tag _)

/-- Settles O39: the mode decides whether the values are taken, and the ranges which of the two outcomes they have. -/
theorem setOutputFormatReplaces : Obligations.SetOutputFormatReplaces := by
  unfold Obligations.SetOutputFormatReplaces
  intro s tag wo ho rate hb vb ha fields
  refine ⟨fun hm => exec_setOutputFormat_wrong ha hm tag wo ho rate hb vb, ?badField, ?ok⟩
  case badField =>
    intro hm hout
    have hbad : ¬ (outFormatOk wo.toNat ho.toNat rate.toNat = true ∧ blankingOk hb.toNat vb.toNat = true) := by
      rintro ⟨hfmt, hblank⟩
      obtain ⟨hwo, hho, hrate⟩ := outFormatOk_iff.mp hfmt
      exact hout ⟨hwo, hho, hrate, blankingOk_iff.mp hblank⟩
    rw [exec_setOutputFormat_config ha hm, State.takeOutputFormat_badField _ tag hbad, State.taken_reply]
  case ok =>
    rintro hm ⟨hwo, hho, hrate, hblank⟩
    rw [exec_setOutputFormat_config ha hm,
      State.takeOutputFormat_ok _ tag (outFormatOk_iff.mpr ⟨hwo, hho, hrate⟩) (blankingOk_iff.mpr hblank),
      State.taken_otg, State.taken_withOtg, State.taken_reply]

end Sys2Proof.Machine
end

section
/-!
PROOF. HELLO and SET_NOTICES (R182, R185): what HELLO reports of the part in each mode, the mask as SET_NOTICES takes
it, a notice the mask disables, and the two requests.
-/

namespace Sys2Proof.Machine

/-! ### The body of HELLO (R185, Table 31) -/

/-- Vendor code, part code, revision and capacities as bytes, the mode's code after them. -/
theorem helloBody_eq (m : Mode) : helloBody m = [0x5A, 0x4E, 0x40, 0x4D, 1, 4, 4, 8, 8, m.code] := rfl

/-- An accepted HELLO is answered at once, whatever the mode. -/
theorem exec_hello_accepted {s : State} (ha : s.canAccept) (tag : Byte) :
    exec (.hello tag) s = .next (s.answered 0x01 tag .ok (helloBody s.mode)) :=
  congrArg Host.Outcome.next (State.accept_ok ha _)

/-- Settles O8: acceptance and the reply leave all but the link alone, and the body's last byte is the mode's code. -/
theorem helloAnswersInEveryMode : Obligations.HelloAnswersInEveryMode := by
  unfold Obligations.HelloAnswersInEveryMode
  intro s tag ha
  rw [exec_hello_accepted ha, helloBody_eq]
  cases s.mode <;> rfl

/-! ### The notice mask (R182, Table 32) -/

/-- The mask taken enables READY. -/
theorem maskTaken_getLsbD_zero (mask : Byte) : (maskTaken mask).getLsbD 0 = true := by
  simp [maskTaken]

/-- The mask taken is the mask sent in every other bit. -/
theorem maskTaken_getLsbD_of_pos (mask : Byte) {k : Nat} (hk : 0 < k) :
    (maskTaken mask).getLsbD k = mask.getLsbD k := by
  have hbit : BitVec.getLsbD (1 : Byte) k = false := by simp [hk.ne']
  rw [maskTaken, BitVec.getLsbD_or, hbit, Bool.or_false]

/-- A disabled notice changes nothing: it is neither queued nor coalesced, and leaves no loss mark. -/
theorem Link.raise_of_disabled {l : Link} {n : Notice} (h : l.mask.getLsbD n.bit = false) : l.raise n = l :=
  if_pos (by rw [Link.enables, h, Bool.not_false])

/-- The default mask enables the kinds of bits 0 to 6. -/
theorem Link.defaultMask_getLsbD_of_lt : ∀ {k : Nat}, k < 7 → Link.defaultMask.getLsbD k = true := by decide

/-- FRAME_DONE, the kind of bit 7, is the one the default mask disables. -/
theorem Link.defaultMask_getLsbD_seven : Link.defaultMask.getLsbD 7 = false := by decide

/-! ### SET_NOTICES (R182, R183) -/

theorem State.taken_withMask (s : State) (mask : Byte) :
    { s.taken with link := { s.taken.link with mask := mask } } =
      ({ s with link := { s.link with mask := mask } } : State).taken := rfl

/-- In BOOTING the request is refused. -/
theorem exec_setNotices_booting {s : State} (ha : s.canAccept) (hm : s.mode = .booting) (tag mask : Byte) :
    exec (.setNotices tag mask) s = .next (s.answered 0x0A tag .wrongMode) :=
  congrArg Host.Outcome.next (State.acceptLive_booting ha hm 0x0A tag _)

/-- Outside BOOTING the accepted request replaces the mask and returns it. -/
theorem exec_setNotices_live {s : State} (ha : s.canAccept) (hm : s.mode ≠ .booting) (tag mask : Byte) :
    exec (.setNotices tag mask) s =
      .next (({ s with link := { s.link with mask := maskTaken mask } } : State).answered 0x0A tag .ok
        [maskTaken mask]) := by
  rw [← State.taken_reply, ← State.taken_withMask]
  exact congrArg Host.Outcome.next (State.acceptLive_ok ha hm 0x0A tag _)

/-- Settles O10: the request by mode, the mask it takes bit by bit, and what a mask lets through. -/
theorem setNoticesReplacesMask : Obligations.SetNoticesReplacesMask := by
  unfold Obligations.SetNoticesReplacesMask
  refine ⟨?live, ?booting, ?taken, ?disabled, ?default⟩
  case live => exact fun s tag mask ha hm => exec_setNotices_live ha hm tag mask
  case booting => exact fun s tag mask ha hm => exec_setNotices_booting ha hm tag mask
  case taken => exact fun mask => ⟨maskTaken_getLsbD_zero mask, fun _ hk => maskTaken_getLsbD_of_pos mask hk⟩
  case disabled => exact fun l n h => Link.raise_of_disabled h
  case default =>
    intro n
    cases n with
    | frameDone => exact Link.defaultMask_getLsbD_seven
    | _ => exact Link.defaultMask_getLsbD_of_lt (by simp [Notice.bit])

end Sys2Proof.Machine
end

section
/-!
PROOF. What one step can do, said once for every law of the state: `Kept P` lists the pieces of work the meanings of the
commands are made of, and a law that each of them keeps is kept by every step.
-/

namespace Sys2Proof.Machine

/-! ### Requests and the commands that carry them -/

/-- The steps of a script are as many as the raw steps they come from. -/
theorem stepsOfRaw_length {raw : List RawStep} {steps : List Step}
    (h : stepsOfRaw raw = some steps) : steps.length = raw.length := by
  induction raw generalizing steps with
  | nil => cases h; rfl
  | cons r rest ih =>
    unfold stepsOfRaw at h
    split at h
    · rename_i x xs hx hxs
      cases h
      simp [ih hxs]
    · cases h

/-- A frame's request runs as the command of its own does; the commands that no frame carries do nothing. -/
theorem runRequest_cases (i : Instr) (s : State) : runRequest i s = exec i s ∨ runRequest i s = .next s := by
  cases i <;> first | exact .inl rfl | exact .inr rfl

/-! ### The pieces of work -/

/-- A law `P d` of the state, where `d` is the number of reply places that are claimed for requests taken up now and not
yet answered or kept open, is kept by every piece of work of a step. -/
structure Kept (P : Nat → State → Prop) : Prop where
  pending : ∀ {s : State} (q : List Instr), P 0 s → P 0 { s with pending := q }
  tick : ∀ {s : State}, P 0 s → P 0 s.tick
  pinReset : ∀ {s : State}, P 0 s → P 0 s.pinReset
  released : ∀ {s : State}, P 0 s → P 0 { s with resetHeld := false }
  bootingEnd : ∀ {s : State}, P 0 s → P 0 s.bootingEnd
  read : ∀ {s : State} (n : Nat) (ends : Bool), P 0 s → P 0 { s with link := s.link.read n ends }
  endRead : ∀ {s : State}, P 0 s → P 0 s.endRead
  beginWrite : ∀ {s : State}, P 0 s → P 0 s.beginWrite
  discard : ∀ {s : State} (reason : RejectReason), P 0 s → P 0 { s with link := s.link.discard reason }
  taken : ∀ {s : State}, s.canAccept → P 0 s → P 1 s.taken
  reply : ∀ {s : State} (kind tag : Byte) (status : Status) (body : List Byte), P 1 s → P 0 (s.reply kind tag status body)
  resetPart : ∀ {s : State} (tag : Byte), P 1 s → P 0 (s.resetPart tag)
  mask : ∀ {s : State} (mask : Byte), P 1 s → P 1 { s with link := { s.link with mask := mask } }
  outputFormat : ∀ {s : State} (f : OutFormat) (b : Blanking), P 1 s →
    P 1 { s with otg := { s.otg with format := some f, blanking := some b, shadow := none } }
  blanking : ∀ {s : State} (b : Blanking), P 1 s → P 1 (s.setBlanking b)
  setFormat : ∀ {s : State} (c : Cam) (f : Format), s.mode = .config → (s.port c).state = .off →
    formatOk f.ws f.hs f.slots = true → P 1 s → P 1 (s.setFormat c f)
  removeCamera : ∀ {s : State} (c : Cam), s.mode = .config → (s.port c).state = .off → P 1 s → P 1 (s.removeCamera c)
  withCal : ∀ {s : State} (c : Cam) (k : Cal) (f : Format), (s.port c).format = some f →
    ¬ (s.mode = .run ∧ s.names c = true) → P 1 s → P 1 (s.withCal c k f)
  handoff : ∀ {s : State} (b : HandoffBody), marginsOk b = true → P 1 s →
    P 1 { s with zoom := { s.zoom with pendingSettings := some (handoffTaken b) } }
  setTable : ∀ {s : State} (b : ArbiterBody) (t : ArbTable), s.mode ≠ .booting → arbTableOf b = some t →
    t.servesAll = true → P 0 s → P 0 (s.setTable t)
  setFsync : ∀ {s : State} (c : Cam) (x : Fsync), P 1 s → P 1 (s.setFsync c x)
  setScript : ∀ {s : State} (c : Cam) (sel : Selector) (steps : List Step), steps.length ≤ Config.scriptSteps →
    P 1 s → P 1 (s.setScript c sel steps)
  startIn : ∀ {s : State} (c : Cam) (mode : StartMode), (s.port c).configured = true → (s.port c).state = .off →
    P 0 s → P 0 (s.startIn c mode)
  stopCamera : ∀ {s : State} (c : Cam), (s.port c).configured = true → (s.port c).state ≠ .off →
    (s.port c).state ≠ .stopping → P 0 s → P 0 (s.stopCamera c)
  clearCounters : ∀ {s : State} (c : Cam), P 1 s → P 1 (s.clearCounters c)
  beginOutput : ∀ {s : State} (f : OutFormat) (z : Nat) (tag : Byte) (body : List Byte), s.mode = .config →
    P 1 s → P 0 ((s.withMaxima f.wo).beginOutput f z fun u => u.reply 0x0E tag .ok body)
  stopOutput : ∀ {s : State} (tag : Byte), s.mode = .run → s.otg.stopPending = none → P 1 s → P 0 (s.takeStopOutput tag)
  zoomTo : ∀ {s : State} (target frames : Nat) (mode : RampMode),
    (mode = .append → s.zoom.queue.length < Config.rampDepth) → P 1 s →
    P 1 { s with zoom := { s.zoom with queue := joinQueue s.zoom.queue (s.segmentOf target frames mode) mode } }
  zoomCancel : ∀ {s : State}, P 1 s → P 1 { s with zoom := { s.zoom with queue := [], rest := s.zoom.lastApplied } }
  distance : ∀ {s : State} (d : Nat), P 1 s → P 1 { s with zoom := { s.zoom with distance := d } }
  view : ∀ {s : State} (mode first second : Byte) (split : Nat) (v : View), s.viewOf mode first second split = some v →
    P 1 s → P 1 { s with zoom := { s.zoom with view := v } }
  queuePass : ∀ {s : State} (kind tag : Byte) (x : Bus) (t : Transaction),
    (s.bus x).passQueue.length < Config.passPlaces → P 1 s → P 0 (s.queuePass kind tag x t)
  frameStart : ∀ {s : State} (c : Cam), P 0 s → P 0 (s.frameStart c)
  linePacket : ∀ {s : State} (c : Cam) (luma u v : List Byte), P 0 s → P 0 (s.linePacket c luma u v)
  frameEnd : ∀ {s : State} (c : Cam), P 0 s → P 0 (s.frameEnd c)
  patternStart : ∀ {s : State} (c : Cam), P 0 s → P 0 (s.patternStart c)
  patternTo : ∀ {s : State} (c : Cam) (g : PatternGen) (row : Nat), P 0 s → P 0 (s.patternTo c g row)
  expire : ∀ {s : State} (c : Cam), P 0 s → P 0 (s.expire c)
  boundary : ∀ {s : State}, s.mode = .run → P 0 s → P 0 s.boundary
  blankingLine : ∀ {s : State}, P 0 s → P 0 s.blankingLine
  outputFrameStart : ∀ {s : State}, P 0 s → P 0 s.outputFrameStart
  lineStart : ∀ {s : State}, P 0 s → P 0 s.lineStart
  outputFrameEnd : ∀ {s : State}, P 0 s → P 0 s.outputFrameEnd
  opportunity : ∀ {s : State}, s.opportunity = true → P 0 s → P 0 s.takeOpportunity
  completeTransfer : ∀ {s : State}, P 0 s → P 0 s.completeTransfer
  endTransaction : ∀ {s : State} (x : Bus) (o : BusOutcome), P 0 s → P 0 (s.endTransaction x o)
  endWait : ∀ {s : State} (x : Bus), P 0 s → P 0 (s.endWait x)
  endRetry : ∀ {s : State} (x : Bus), P 0 s → P 0 (s.endRetry x)
  pulseStart : ∀ {s : State} (c : Cam), P 0 s → P 0 { s with otg := s.otg.pulseStart c }
  pulseEnd : ∀ {s : State} (c : Cam), P 0 s → P 0 { s with otg := s.otg.pulseEnd c }

namespace Kept

variable {P : Nat → State → Prop}

/-! ### Acceptance -/

/-- A request that is discarded, ignored or handled keeps what its handling keeps. -/
theorem accept (h : Kept P) {s : State} (f : State → State) (hf : ∀ t : State, P 1 t → P 0 (f t)) (hs : P 0 s) :
    P 0 (s.accept f) := by
  rcases s.accept_cases f with ⟨-, he⟩ | ⟨-, -, he⟩ | ⟨ha, he⟩ <;> rw [he]
  · exact hs
  · exact h.discard .full (h.beginWrite hs)
  · exact hf _ (h.taken ha hs)

/-- A request that is refused in BOOTING. -/
theorem acceptLive (h : Kept P) {s : State} (kind tag : Byte) (f : State → State)
    (hf : ∀ t : State, t.mode ≠ .booting → P 1 t → P 0 (f t)) (hs : P 0 s) : P 0 (s.acceptLive kind tag f) := by
  refine h.accept _ (fun t ht => ?_) hs
  split
  · exact h.reply _ _ _ _ ht
  · exact hf t ‹_› ht

/-- A request that is taken in one mode. -/
theorem acceptIn (h : Kept P) {s : State} (m : Mode) (kind tag : Byte) (f : State → State)
    (hf : ∀ t : State, t.mode = m → P 1 t → P 0 (f t)) (hs : P 0 s) : P 0 (s.acceptIn m kind tag f) := by
  refine h.accept _ (fun t ht => ?_) hs
  split
  · exact hf t ‹_› ht
  · exact h.reply _ _ _ _ ht

/-! ### The requests with checks -/

theorem takeOutputFormat (h : Kept P) {s : State} (tag : Byte) (f : OutFormat) (b : Blanking) (hs : P 1 s) :
    P 0 (s.takeOutputFormat tag f b) := by
  unfold State.takeOutputFormat
  split
  · exact h.reply _ _ _ _ (h.outputFormat f b hs)
  · exact h.reply _ _ _ _ hs

theorem takeBlanking (h : Kept P) {s : State} (tag : Byte) (b : Blanking) (hs : P 1 s) : P 0 (s.takeBlanking tag b) := by
  unfold State.takeBlanking
  split
  · exact h.reply _ _ _ _ hs
  split
  · exact h.reply _ _ _ _ hs
  · exact h.reply _ _ _ _ (h.blanking b hs)

theorem takeRemoval (h : Kept P) {s : State} (tag camera : Byte) (hm : s.mode = .config) (hs : P 1 s) :
    P 0 (s.takeRemoval tag camera) := by
  unfold State.takeRemoval
  split
  · exact h.reply _ _ _ _ hs
  split
  · exact h.reply _ _ _ _ (h.removeCamera _ hm ‹_› hs)
  · exact h.reply _ _ _ _ hs

theorem takeFormat (h : Kept P) {s : State} (tag camera : Byte) (f : Format) (hm : s.mode = .config) (hs : P 1 s) :
    P 0 (s.takeFormat tag camera f) := by
  unfold State.takeFormat
  split
  · exact h.reply _ _ _ _ hs
  split
  · exact h.reply _ _ _ _ hs
  split
  · exact h.reply _ _ _ _ hs
  split
  · exact h.reply _ _ _ _ hs
  · exact h.reply _ _ _ _ (h.setFormat _ f hm (by simp_all) (by simp_all) hs)

theorem takeCal (h : Kept P) {s : State} (tag camera : Byte) (k : Cal) (hs : P 1 s) : P 0 (s.takeCal tag camera k) := by
  unfold State.takeCal
  split
  · exact h.reply _ _ _ _ hs
  split
  · exact h.reply _ _ _ _ hs
  split
  · exact h.reply _ _ _ _ hs
  split
  · exact h.reply _ _ _ _ hs
  split
  · exact h.reply _ _ _ _ hs
  split
  · exact h.reply _ _ _ _ hs
  · exact h.reply _ _ _ _ (h.withCal _ k _ ‹_› ‹_› hs)

theorem takeHandoff (h : Kept P) {s : State} (tag : Byte) (b : HandoffBody) (hs : P 1 s) : P 0 (s.takeHandoff tag b) := by
  unfold State.takeHandoff
  split
  · exact h.reply _ _ _ _ (h.handoff b ‹_› hs)
  · exact h.reply _ _ _ _ hs

theorem takeArbiter (h : Kept P) {s : State} (tag : Byte) (b : ArbiterBody) (hm : s.mode ≠ .booting) (hs : P 1 s) :
    P 0 (s.takeArbiter tag b) := by
  unfold State.takeArbiter
  split
  · exact h.reply _ _ _ _ hs
  split
  · exact h.setTable b _ hm ‹_› ‹_› (h.reply _ _ _ _ hs)
  · exact h.reply _ _ _ _ hs

theorem takeScript (h : Kept P) {s : State} (tag camera selector : Byte) (raw : List RawStep) (hs : P 1 s) :
    P 0 (s.takeScript tag camera selector raw) := by
  unfold State.takeScript
  split
  · rename_i c sel steps _ _ hsteps
    split
    · exact h.reply _ _ _ _ hs
    split
    · exact h.reply _ _ _ _ hs
    · exact h.reply _ _ _ _ (h.setScript c sel steps (by rw [stepsOfRaw_length hsteps]; omega) hs)
  · exact h.reply _ _ _ _ hs

theorem takeStart (h : Kept P) {s : State} (tag camera : Byte) (mode : Option StartMode) (hs : P 1 s) :
    P 0 (s.takeStart tag camera mode) := by
  unfold State.takeStart
  split
  · split
    · exact h.reply _ _ _ _ hs
    split
    · exact h.reply _ _ _ _ hs
    · exact h.startIn _ _ (by simp_all) (by simp_all) (h.reply _ _ _ _ hs)
  · exact h.reply _ _ _ _ hs

theorem takeStop (h : Kept P) {s : State} (tag camera : Byte) (hs : P 1 s) : P 0 (s.takeStop tag camera) := by
  unfold State.takeStop
  split
  · exact h.reply _ _ _ _ hs
  split
  · exact h.reply _ _ _ _ hs
  split
  · exact h.reply _ _ _ _ hs
  · exact h.stopCamera _ (by simp_all) (by simp_all) (by simp_all) (h.reply _ _ _ _ hs)

theorem takeStartOutput (h : Kept P) {s : State} (tag : Byte) (z : Nat) (hm : s.mode = .config) (hs : P 1 s) :
    P 0 (s.takeStartOutput tag z) := by
  unfold State.takeStartOutput
  split
  · exact h.reply _ _ _ _ hs
  split
  · exact h.reply _ _ _ _ hs
  dsimp only
  split
  · exact h.reply _ _ _ _ hs
  · exact h.beginOutput _ _ _ _ hm hs

theorem takeStopOutput (h : Kept P) {s : State} (tag : Byte) (hm : s.mode = .run) (hs : P 1 s) :
    P 0 (s.takeStopOutput tag) := by
  by_cases hp : s.otg.stopPending = none
  · exact h.stopOutput tag hm hp hs
  · obtain ⟨id, hid⟩ := Option.ne_none_iff_exists'.mp hp
    simpa only [State.takeStopOutput, hid] using h.reply _ _ _ _ hs

theorem takeZoomTo (h : Kept P) {s : State} (tag : Byte) (target frames : Nat) (mode : Option RampMode) (hs : P 1 s) :
    P 0 (s.takeZoomTo tag target frames mode) := by
  unfold State.takeZoomTo
  split
  · exact h.reply _ _ _ _ hs
  · split
    · exact h.reply _ _ _ _ hs
    · exact h.reply _ _ _ _ (h.zoomTo target frames .append (fun _ => by omega) hs)
  · exact h.reply _ _ _ _ (h.zoomTo target frames .replace (by simp) hs)

theorem takePass (h : Kept P) {s : State} (kind tag : Byte) (b : SensorBody) (action : Action) (hs : P 1 s) :
    P 0 (s.takePass kind tag b action) := by
  unfold State.takePass
  split
  · exact h.reply _ _ _ _ hs
  split
  · exact h.reply _ _ _ _ hs
  · exact h.queuePass _ _ _ _ (by omega) hs

/-! ### The pattern generator's packets -/

theorem patternRow (h : Kept P) {s : State} (c : Cam) (hs : P 0 s) : P 0 (s.patternRow c) := by
  unfold State.patternRow
  split
  · split
    · exact h.linePacket _ _ _ _ (h.patternTo _ _ _ hs)
    · exact hs
  · exact hs

theorem patternEnd (h : Kept P) {s : State} (c : Cam) (hs : P 0 s) : P 0 (s.patternEnd c) := by
  unfold State.patternEnd
  split
  · split
    · exact h.frameEnd _ (h.patternTo _ _ _ hs)
    · exact hs
  · exact hs

/-! ### Every command -/

/-- A command that is taken or finds no occasion. -/
theorem ite {s : State} {t : State} {p : Prop} [Decidable p] (hs : P 0 s) (ht : p → P 0 t) :
    P 0 (if p then t else s) := by
  split
  · exact ht ‹_›
  · exact hs

/-- Every command but a write transaction. -/
theorem exec_of_ne_write (h : Kept P) {i : Instr} (hi : ∀ command data, i ≠ .writeTransaction command data) {s t : State}
    (hs : P 0 s) (he : exec i s = .next t) : P 0 t := by
  cases i with
  | writeTransaction command data => exact absurd rfl (hi command data)
  | pinReset => cases he; exact h.pinReset hs
  | bootingEnd => cases he; exact h.bootingEnd hs
  | readTransaction n ends =>
    cases he
    show P 0 (if s.resetHeld = true then s else _)
    split
    · exact hs
    · exact h.read n ends hs
  | unknownKind tag kind =>
    cases he
    show P 0 (if isRequestKind kind = true then s else _)
    split
    · exact hs
    · exact h.accept _ (fun _ ht => h.reply _ _ _ _ ht) hs
  | hello tag => cases he; exact h.accept _ (fun _ ht => h.reply _ _ _ _ ht) hs
  | resetPart tag => cases he; exact h.acceptLive _ _ _ (fun _ _ ht => h.resetPart tag ht) hs
  | setOutputFormat tag wo ho rate hb vb => cases he; exact h.acceptIn _ _ _ _ (fun _ _ ht => h.takeOutputFormat _ _ _ ht) hs
  | setOutputBlanking tag hb vb => cases he; exact h.acceptLive _ _ _ (fun _ _ ht => h.takeBlanking _ _ ht) hs
  | setCameraFormat tag camera ws hs' slots =>
    cases he
    refine h.acceptIn _ _ _ _ (fun t hm ht => ?_) hs
    split
    · exact h.takeRemoval _ _ hm ht
    · exact h.takeFormat _ _ _ hm ht
  | removeCamera tag camera ws hs' => cases he; exact h.acceptIn _ _ _ _ (fun _ hm ht => h.takeRemoval _ _ hm ht) hs
  | setCameraCal tag camera body => cases he; exact h.acceptLive _ _ _ (fun _ _ ht => h.takeCal _ _ _ ht) hs
  | setHandoff tag body => cases he; exact h.acceptLive _ _ _ (fun _ _ ht => h.takeHandoff _ _ ht) hs
  | setArbiter tag body => cases he; exact h.acceptLive _ _ _ (fun _ hm ht => h.takeArbiter _ _ hm ht) hs
  | setFsync tag camera body =>
    cases he
    refine h.acceptLive _ _ _ (fun t _ ht => ?_) hs
    split
    · exact h.reply _ _ _ _ (h.setFsync _ _ ht)
    · exact h.reply _ _ _ _ ht
  | setNotices tag mask => cases he; exact h.acceptLive _ _ _ (fun _ _ ht => h.reply _ _ _ _ (h.mask _ ht)) hs
  | loadScript tag camera selector steps => cases he; exact h.acceptLive _ _ _ (fun _ _ ht => h.takeScript _ _ _ _ ht) hs
  | startCamera tag camera mode => cases he; exact h.acceptLive _ _ _ (fun _ _ ht => h.takeStart _ _ _ ht) hs
  | startCameraPattern tag camera => cases he; exact h.acceptLive _ _ _ (fun _ _ ht => h.takeStart _ _ _ ht) hs
  | stopCamera tag camera => cases he; exact h.acceptLive _ _ _ (fun _ _ ht => h.takeStop _ _ ht) hs
  | startOutput tag z0 => cases he; exact h.acceptIn _ _ _ _ (fun _ hm ht => h.takeStartOutput _ _ hm ht) hs
  | stopOutput tag => cases he; exact h.acceptIn _ _ _ _ (fun _ hm ht => h.takeStopOutput _ hm ht) hs
  | zoomToAppend tag target frames mode => cases he; exact h.acceptIn _ _ _ _ (fun _ _ ht => h.takeZoomTo _ _ _ _ ht) hs
  | zoomToReplace tag target frames => cases he; exact h.acceptIn _ _ _ _ (fun _ _ ht => h.takeZoomTo _ _ _ _ ht) hs
  | zoomCancel tag => cases he; exact h.acceptIn _ _ _ _ (fun _ _ ht => h.reply _ _ _ _ (h.zoomCancel ht)) hs
  | setDistance tag distance => cases he; exact h.acceptLive _ _ _ (fun _ _ ht => h.reply _ _ _ _ (h.distance _ ht)) hs
  | setView tag mode first second split' =>
    cases he
    refine h.acceptIn _ _ _ _ (fun t _ ht => ?_) hs
    split
    · exact h.reply _ _ _ _ (h.view _ _ _ _ _ ‹_› ht)
    · exact h.reply _ _ _ _ ht
  | sensorRead tag body => cases he; exact h.acceptLive _ _ _ (fun _ _ ht => h.takePass _ _ _ _ ht) hs
  | sensorWrite tag body data => cases he; exact h.acceptLive _ _ _ (fun _ _ ht => h.takePass _ _ _ _ ht) hs
  | getStatus tag part =>
    cases he
    refine h.acceptLive _ _ _ (fun t _ ht => ?_) hs
    split <;> exact h.reply _ _ _ _ ht
  | getCamera tag camera =>
    cases he
    refine h.acceptLive _ _ _ (fun t _ ht => ?_) hs
    split <;> exact h.reply _ _ _ _ ht
  | getStats tag camera clear =>
    cases he
    refine h.acceptLive _ _ _ (fun t _ ht => ?_) hs
    split
    · refine h.reply _ _ _ _ ?_
      split
      · exact h.clearCounters _ ht
      · exact ht
    · exact h.reply _ _ _ _ ht
  | getComposition tag selector =>
    cases he
    refine h.acceptLive _ _ _ (fun t _ ht => ?_) hs
    split <;> exact h.reply _ _ _ _ ht
  | frameStart c => cases he; exact ite hs fun _ => h.frameStart c hs
  | linePacket c luma u v => cases he; exact ite hs fun _ => h.linePacket c luma u v hs
  | frameEnd c => cases he; exact ite hs fun _ => h.frameEnd c hs
  | patternFrameStart c => cases he; exact ite hs fun _ => h.patternStart c hs
  | patternRow c => cases he; exact ite hs fun _ => h.patternRow c hs
  | patternFrameEnd c => cases he; exact ite hs fun _ => h.patternEnd c hs
  | expiry c => cases he; exact h.expire c hs
  | boundary => cases he; exact ite hs fun hm => ite hs fun _ => h.boundary hm hs
  | blankingLineStart => cases he; exact ite hs fun _ => h.blankingLine hs
  | outputFrameStart => cases he; exact ite hs fun _ => h.outputFrameStart hs
  | lineStart => cases he; exact ite hs fun _ => h.lineStart hs
  | outputFrameEnd => cases he; exact ite hs fun _ => h.outputFrameEnd hs
  | grantOpportunity => cases he; exact ite hs fun ho => h.opportunity ho hs
  | transferCompletion => cases he; exact h.completeTransfer hs
  | transactionEnd x acked received => cases he; exact h.endTransaction x _ hs
  | busTimeout x => cases he; exact h.endTransaction x _ hs
  | waitEnd x => cases he; exact h.endWait x hs
  | pollRetry x => cases he; exact h.endRetry x hs
  | fsyncPulseStart c => cases he; exact h.pulseStart c hs
  | fsyncPulseEnd c => cases he; exact h.pulseEnd c hs
  | resetnReleased => cases he; exact h.released hs

/-- The request a frame carries. -/
theorem runRequest (h : Kept P) {i : Instr} {s t : State} (hs : P 0 s) (he : runRequest i s = .next t) : P 0 t := by
  by_cases hi : ∃ command data, i = .writeTransaction command data
  · obtain ⟨command, data, rfl⟩ := hi
    cases he
    exact hs
  · rcases runRequest_cases i s with hr | hr <;> rw [hr] at he
    · exact h.exec_of_ne_write (fun command data hc => hi ⟨command, data, hc⟩) hs he
    · cases he
      exact hs

/-- A write transaction: ignored, discarded, or run as the request it carries. -/
theorem writeTransaction (h : Kept P) {command : Byte} {data : List Byte} {s t : State} (hs : P 0 s)
    (he : execWriteTransaction command data s = .next t) : P 0 t := by
  unfold execWriteTransaction at he
  split at he
  · cases he
    exact hs
  split at he
  · cases he
    exact h.endRead hs
  have hb : P 0 s.beginWrite := h.beginWrite hs
  unfold State.judged at he
  split at he
  · cases he
    exact h.discard _ hb
  unfold runFrame at he
  dsimp only at he
  split at he
  · cases he
    exact h.accept _ (fun _ ht => h.reply _ _ _ _ ht) hb
  · cases he
    exact h.accept _ (fun _ ht => h.reply _ _ _ _ ht) hb
  · exact h.runRequest hb he

/-- A law that every piece of work keeps is kept by every command. -/
theorem exec (h : Kept P) {i : Instr} {s t : State} (hs : P 0 s) (he : exec i s = .next t) : P 0 t := by
  by_cases hi : ∃ command data, i = .writeTransaction command data
  · obtain ⟨command, data, rfl⟩ := hi
    exact h.writeTransaction hs he
  · exact h.exec_of_ne_write (fun command data hc => hi ⟨command, data, hc⟩) hs he

/-- A law that every piece of work keeps is kept by every step. -/
theorem step (h : Kept P) {s t : State} (hs : P 0 s) (he : step s = .next t) : P 0 t := by
  unfold Machine.step at he
  split at he
  · exact h.exec (h.pending _ hs) he
  unfold idle at he
  split at he
  · cases he
    exact hs
  split at he
  · exact h.exec hs he
  · cases he
    exact h.tick hs

end Kept
end Sys2Proof.Machine
end

section
/-!
PROOF. What the work of the Camera Ports, the Arrival Monitor and the relay is made of: `Port.Move` lists the changes of
one port, `State.Frames` what packets, completions and expiries do to the state, `State.Work` what script runs, starts and
stops do besides, and every such piece of work is shown to be made of them. A law that the moves keep is kept by all of it.
-/

namespace Sys2Proof.Machine

/-! ### Slots of a changed ring -/

theorem Port.modSlot_ring_get (p : Port) (k j : Nat) (f : Slot → Slot) :
    (p.modSlot k f).ring[j]? = if k = j then p.ring[j]?.map f else p.ring[j]? := by
  simp only [Port.modSlot, List.getElem?_modify]
  split <;> simp

/-- A change of a slot that leaves its state alone leaves the first slot in a state alone. -/
theorem Port.slotIn_modSlot (p : Port) (k : Nat) {f : Slot → Slot} (hf : ∀ x, (f x).state = x.state) (st : SlotState) :
    (p.modSlot k f).slotIn st = p.slotIn st := by
  have hmap : (p.modSlot k f).ring.map Slot.state = p.ring.map Slot.state := by
    apply List.ext_getElem?
    intro j
    rw [List.getElem?_map, Port.modSlot_ring_get, List.getElem?_map]
    split
    · cases p.ring[j]? <;> simp [hf]
    · rfl
  have hidx : ∀ ring : List Slot, (ring.findIdx? fun t => t.state == st) = (ring.map Slot.state).findIdx? (· == st) := by
    intro ring
    rw [List.findIdx?_map]
    rfl
  unfold Port.slotIn
  rw [hidx, hidx, hmap]

/-- The first slot in a state is there, in that state. -/
theorem Port.slotIn_get {p : Port} {k : Nat} {st : SlotState} (h : p.slotIn st = some k) :
    ∃ x, p.ring[k]? = some x ∧ x.state = st := by
  unfold Port.slotIn at h
  obtain ⟨hlt, hx, -⟩ := List.findIdx?_eq_some_iff_getElem.mp h
  exact ⟨p.ring[k], List.getElem?_eq_getElem hlt, by simpa using hx⟩

/-! ### One port -/

/-- The changes of a port that keep its format part, its calibration part and the camera's state. -/
inductive Port.Move : Port → Port → Prop
  | refl (p : Port) : Move p p
  | trans {p q r : Port} : Move p q → Move q r → Move p r
  /-- Fields that no frame in the ring depends on. -/
  | fields (p : Port) (mode : StartMode) (reason : Reason) (counters : Counters) (pattern : Option PatternGen) :
      Move p { p with startMode := mode, faultReason := reason, counters := counters, pattern := pattern }
  | beginFrame (p : Port) (now : Word) (region : Option Region) : Move p (p.beginFrame now region)
  | takeLine (p : Port) (f : Format) (k : Nat) (luma u v : List Byte) :
      p.format = some f → p.slotIn .filling = some k → Move p (p.takeLine f k luma u v)
  | endStamp (p : Port) (k : Nat) (now : Word) : Move p (p.modSlot k fun t => { t with stop := some now })
  | formMeans (p : Port) (k : Nat) : Move p (p.formMeans k)
  | discardFrame (p : Port) (k : Nat) (counters : Counters) :
      p.slotIn .filling = some k → Move p (p.discardFrame k counters)
  | drain (p : Port) (f : Format) (k : Nat) (x : Slot) : p.format = some f → p.ring[k]? = some x → x.state = .filling →
      x.dropped = false → f.hs ≤ x.lines → x.outstanding ≠ 0 →
      Move p (p.modSlot k fun t => { t with state := .draining })
  | ready (p : Port) (k : Nat) : Move p (p.modSlot k fun t => { t with state := .ready })
  | landedStray (p : Port) (l : BufferedLine) (rest : List BufferedLine) : p.buffer = l :: rest →
      (∀ x, p.ring[l.slot]? = some x → x.counts l = false) →
      Move p ({ p with buffer := rest, inFlight := false }.storeLine l)
  | landed (p : Port) (l : BufferedLine) (rest : List BufferedLine) (x : Slot) : p.buffer = l :: rest →
      p.ring[l.slot]? = some x → x.counts l = true → ¬ (x.state = .draining ∧ x.outstanding ≤ 1) →
      Move p (({ p with buffer := rest, inFlight := false }.storeLine l).modSlot l.slot fun y =>
        { y with outstanding := x.outstanding - 1 })
  | landedLast (p : Port) (l : BufferedLine) (rest : List BufferedLine) (x : Slot) : p.buffer = l :: rest →
      p.ring[l.slot]? = some x → x.counts l = true → x.state = .draining ∧ x.outstanding ≤ 1 →
      Move p ((({ p with buffer := rest, inFlight := false }.storeLine l).modSlot l.slot fun y =>
        { y with outstanding := x.outstanding - 1 }).modSlot l.slot fun y => { y with state := .ready })
  | inFlight (p : Port) (b : Bool) : Move p { p with inFlight := b }
  | discardWork (p : Port) : Move p p.discardWork
  | stopWork (p : Port) : Move p p.stopWork

namespace Port.Move

theorem counters (p : Port) (n : Counters) : p.Move { p with counters := n } :=
  fields p p.startMode p.faultReason n p.pattern

theorem faultReason (p : Port) (r : Reason) : p.Move { p with faultReason := r } :=
  fields p p.startMode r p.counters p.pattern

theorem pattern (p : Port) (g : Option PatternGen) : p.Move { p with pattern := g } :=
  fields p p.startMode p.faultReason p.counters g

/-- Camera state, format part and calibration part are not a move's to change. -/
theorem frame {p q : Port} (h : p.Move q) : q.state = p.state ∧ q.format = p.format ∧ q.cal = p.cal := by
  have withdraw : ∀ (p : Port) (keep : BufferedLine → Bool), (p.withdraw keep).state = p.state
      ∧ (p.withdraw keep).format = p.format ∧ (p.withdraw keep).cal = p.cal := by
    intro p keep
    rw [Port.withdraw_eq]
    exact ⟨rfl, rfl, rfl⟩
  have discard : ∀ (p : Port) (k : Nat), (p.discardSlot k).state = p.state ∧ (p.discardSlot k).format = p.format
      ∧ (p.discardSlot k).cal = p.cal := by
    intro p k
    unfold Port.discardSlot
    split
    · exact withdraw (p.modSlot k Slot.freed) _
    · exact ⟨rfl, rfl, rfl⟩
  have truncate : ∀ p : Port, p.truncate.state = p.state ∧ p.truncate.format = p.format ∧ p.truncate.cal = p.cal := by
    intro p
    unfold Port.truncate
    split
    · exact discard p _
    · exact ⟨rfl, rfl, rfl⟩
  have offer : ∀ (p : Port) (k row : Nat) (d : RowData), (p.offer k row d).state = p.state
      ∧ (p.offer k row d).format = p.format ∧ (p.offer k row d).cal = p.cal := by
    intro p k row d
    unfold Port.offer
    split
    · exact ⟨rfl, rfl, rfl⟩
    · split <;> exact ⟨rfl, rfl, rfl⟩
  induction h with
  | trans _ _ ih1 ih2 =>
    obtain ⟨s1, f1, c1⟩ := ih1
    obtain ⟨s2, f2, c2⟩ := ih2
    exact ⟨s2.trans s1, f2.trans f1, c2.trans c1⟩
  | beginFrame p now region =>
    unfold Port.beginFrame
    dsimp only
    split <;> exact truncate p
  | takeLine p f k luma u v _ _ =>
    unfold Port.takeLine
    split
    · exact ⟨rfl, rfl, rfl⟩
    split
    · exact ⟨rfl, rfl, rfl⟩
    · exact offer { p.modSlot k _ with sums := _ } _ _ _
  | discardFrame p k counters _ => exact discard p k
  | discardWork p => exact withdraw p _
  | stopWork p => exact withdraw p _
  | _ => exact ⟨rfl, rfl, rfl⟩

end Port.Move

/-! ### Frames -/

/-- Countdown and stall count as Table 11 has them for a camera state. -/
structure Monitor.Fits (m : Monitor) (x : CamState) : Prop where
  armed : m.countdown.isSome = x.takes
  none : x = .loading ∨ x = .waiting ∨ x = .streaming → m.stallCount = 0
  some : x = .stalled → m.stallCount = 1 ∨ m.stallCount = 2
  range : m.stallCount ≤ 3

/-- What packets, write completions and expiries do: changes of ports, notices, and changes of state and countdown between
the states that take packets, or from one of them to FAULTED. -/
inductive State.Frames : State → State → Prop
  | refl (s : State) : Frames s s
  | trans {s t u : State} : Frames s t → Frames t u → Frames s u
  | raise (s : State) (n : Notice) : Frames s (s.raise n)
  | port (s : State) (c : Cam) (p : Port) : (s.port c).Move p → Frames s (s.setPort c p)
  | status (s : State) (c : Cam) (x : CamState) (m : Monitor) : (s.port c).state.takes = true →
      (x.takes = true ∨ x = .faulted) → ((s.monitor c).Fits (s.port c).state → m.Fits x) →
      Frames s ((s.setPort c { s.port c with state := x }).setMonitor c m)

/-- Arming after the monitor was replaced. -/
theorem State.arm_setMonitor (s : State) (c : Cam) (m : Monitor) (k : Cal → Nat) :
    (s.setMonitor c m).arm c k = s.setMonitor c { m with countdown := ((s.port c).cal.map k).or m.countdown } := by
  cases h : (s.port c).cal <;> simp [State.arm, h]

namespace State.Frames

theorem ite {s t u : State} {p : Prop} [Decidable p] (ht : p → s.Frames t) (hu : ¬ p → s.Frames u) :
    s.Frames (if p then t else u) := by
  split
  · exact ht ‹_›
  · exact hu ‹_›

/-- The countdown or the stall count of a camera that takes packets. -/
theorem monitor (s : State) (c : Cam) (m : Monitor) (ht : (s.port c).state.takes = true)
    (hm : (s.monitor c).Fits (s.port c).state → m.Fits (s.port c).state) : s.Frames (s.setMonitor c m) := by
  have h := status s c (s.port c).state m ht (.inl ht) hm
  rwa [show ({ s.port c with state := (s.port c).state } : Port) = s.port c from rfl, State.setPort_self] at h

theorem arm (s : State) (c : Cam) (k : Cal → Nat) (ht : (s.port c).state.takes = true) : s.Frames (s.arm c k) := by
  unfold State.arm
  split
  · exact monitor s c _ ht fun h => ⟨ht.symm, h.none, h.some, h.range⟩
  · exact refl s

/-- A change of state with the countdown or the stall count that goes with it. -/
theorem changeState (s : State) (c : Cam) (x : CamState) (r : Reason) (m : Monitor) (ht : (s.port c).state.takes = true)
    (hx : x.takes = true ∨ x = .faulted) (hm : (s.monitor c).Fits (s.port c).state → m.Fits x) :
    s.Frames ((s.setMonitor c m).changeState c x r) :=
  (status s c x m ht hx hm).trans (raise _ _)

theorem enterFaulted (s : State) (c : Cam) (r : Reason) (m : Monitor) (ht : (s.port c).state.takes = true)
    (hm : (s.monitor c).Fits (s.port c).state → m.Fits .faulted) :
    s.Frames ((s.setMonitor c m).enterFaulted c r) :=
  (changeState s c .faulted r m ht (.inr rfl) hm).trans
    (port _ c _ ((Port.Move.discardWork _).trans (Port.Move.faultReason _ r)))

theorem frameReady (s : State) (c : Cam) : s.Frames (s.frameReady c) := by
  unfold State.frameReady
  split
  · rename_i hs
    have h := changeState s c .streaming .frame (s.monitor c) (by rw [hs]; rfl) (.inl rfl) fun h =>
      ⟨by rw [h.armed, hs]; rfl, fun _ => h.none (by simp [hs]), nofun, h.range⟩
    rwa [State.setMonitor_self] at h
  · rename_i hs
    exact ite (fun _ => refl s) fun _ => changeState s c .streaming .frame _ (by rw [hs]; rfl) (.inl rfl) fun h =>
      ⟨h.armed.trans (by rw [hs]; rfl), fun _ => rfl, nofun, Nat.zero_le _⟩
  · exact refl s

theorem slotReady (s : State) (c : Cam) (k : Nat) : s.Frames (s.slotReady c k) := by
  unfold State.slotReady
  split
  · exact (port s c _ ((Port.Move.ready _ k).trans (Port.Move.counters _ _))).trans (frameReady _ c)
  · exact refl s

theorem frameStart (s : State) (c : Cam) : s.Frames (s.frameStart c) :=
  ite (fun ht => (port s c _ (Port.Move.beginFrame _ _ _)).trans (arm _ c _ (by
    rw [State.port_setPort_same, (Port.Move.beginFrame _ _ _).frame.1]
    exact ht))) fun _ => refl s

theorem linePacket (s : State) (c : Cam) (luma u v : List Byte) : s.Frames (s.linePacket c luma u v) := by
  unfold State.linePacket
  dsimp only
  split
  · rename_i k f _ hk hf
    exact port s c _ (Port.Move.takeLine _ f k luma u v hf hk)
  · exact refl s

theorem frameEnd (s : State) (c : Cam) : s.Frames (s.frameEnd c) := by
  unfold State.frameEnd
  dsimp only
  split
  case h_2 => exact refl s
  rename_i k f _ hk hf
  split
  · exact refl s
  rename_i x hx
  have hq : ((s.port c).modSlot k fun t => { t with stop := some s.timebase }).slotIn .filling = some k :=
    (Port.slotIn_modSlot (f := fun t => { t with stop := some s.timebase }) _ _ (fun _ => rfl) _).trans hk
  have stamp := Port.Move.endStamp (s.port c) k s.timebase
  refine ite (fun _ => port s c _ (stamp.trans (Port.Move.discardFrame _ k _ hq))) fun hd =>
    ite (fun _ => port s c _ (stamp.trans (Port.Move.discardFrame _ k _ hq))) fun hl =>
    ite (fun _ => (port s c _ (stamp.trans (Port.Move.formMeans _ k))).trans (slotReady _ c k)) fun ho => ?_
  have hfill : x.state = .filling := by
    obtain ⟨y, hy, hs⟩ := Port.slotIn_get hk
    rw [hx] at hy
    cases hy
    exact hs
  refine port s c _ (stamp.trans ((Port.Move.formMeans _ k).trans (Port.Move.drain _ f k
    { x with stop := some s.timebase, full := some (s.port c).sums.full.means
             region := (s.port c).region.map fun _ => (s.port c).sums.region.means } hf ?_ hfill (by simpa using hd)
    (Nat.le_of_not_lt hl) ho)))
  simp [Port.formMeans, Port.modSlot_ring_get, hx]
  exact ⟨rfl, rfl⟩

theorem writeDone (s : State) (c : Cam) : s.Frames (s.writeDone c) := by
  unfold State.writeDone
  dsimp only
  split
  · exact port s c _ (Port.Move.inFlight _ false)
  rename_i l rest hb
  split
  · rename_i hx
    exact port s c _ (Port.Move.landedStray _ l rest hb (by simp [hx]))
  rename_i x hx
  refine ite (fun hc => ?_) fun hc => port s c _ (Port.Move.landedStray _ l rest hb fun y hy => ?_)
  · refine ite (fun hl => ?_) fun hl => port s c _ (Port.Move.landed _ l rest x hb hx hc hl)
    unfold State.slotReady
    split
    · rw [State.port_setPort_same, State.setPort_setPort]
      exact (port s c _ ((Port.Move.landedLast _ l rest x hb hx hc hl).trans (Port.Move.counters _ _))).trans
        (frameReady _ c)
    · rename_i hn
      simp [Port.modSlot_ring_get, Port.storeLine, hx] at hn
  · rw [hx] at hy
    cases hy
    simpa using hc

theorem patternStart (s : State) (c : Cam) : s.Frames (s.patternStart c) := by
  unfold State.patternStart
  split
  · exact (port s c _ (Port.Move.pattern _ _)).trans (frameStart _ c)
  · exact refl s

theorem patternTo (s : State) (c : Cam) (g : PatternGen) (row : Nat) : s.Frames (s.patternTo c g row) :=
  port s c _ (Port.Move.pattern _ _)

theorem clearCounters (s : State) (c : Cam) : s.Frames (s.clearCounters c) := port s c _ (Port.Move.counters _ _)

theorem expire (s : State) (c : Cam) : s.Frames (s.expire c) := by
  unfold State.expire
  split
  · exact refl s
  · exact refl s
  split
  · rename_i hs
    exact enterFaulted s c _ _ (by rw [hs]; rfl) fun h => ⟨rfl, nofun, nofun, h.range⟩
  · rename_i hs
    have htakes : ∀ n, ((s.setPort c { s.port c with counters := n }).port c).state.takes = true := by
      intro n
      rw [State.port_setPort_same]
      exact hs ▸ rfl
    dsimp only
    refine (port s c _ (Port.Move.counters _
      { (s.port c).counters with stalls := bump (s.port c).counters.stalls })).trans ?_
    rw [State.arm_setMonitor]
    refine changeState _ c .stalled .stall _ (htakes _) (.inl rfl) fun h => ?_
    have harmed := h.armed.trans (htakes _)
    exact ⟨by rw [Option.isSome_or, harmed, Bool.or_true]; rfl, nofun, fun _ => .inl rfl, show 1 ≤ 3 by omega⟩
  · rename_i hs
    have htakes : (s.port c).state.takes = true := hs ▸ rfl
    dsimp only
    refine ite (fun h3 => ?_) fun h3 => ?_
    · rw [State.disarm_eq, State.setMonitor_setMonitor]
      refine enterFaulted s c _ _ htakes fun h => ?_
      have := h.some hs
      refine ⟨rfl, nofun, nofun, ?_⟩
      simp only [State.monitor_setMonitor_same]
      omega
    · rw [State.arm_setMonitor]
      refine monitor s c _ htakes fun h => ?_
      have := h.some hs
      have harmed := h.armed.trans htakes
      rw [hs]
      exact ⟨by rw [Option.isSome_or, harmed, Bool.or_true]; rfl, nofun, fun _ => .inr (by simp only; omega), by simp only; omega⟩
  · exact refl s

theorem raiseAll (s : State) (ns : List Notice) : s.Frames (s.raiseAll ns) := by
  unfold State.raiseAll
  induction ns generalizing s with
  | nil => exact refl s
  | cons n ns ih => exact (raise s n).trans (ih _)

end State.Frames

/-! ### The buses -/

/-- Changes of engines, runners and waiting-script lists; the queued pass-throughs stay. -/
inductive State.Buses : State → State → Prop
  | refl (s : State) : Buses s s
  | trans {s t u : State} : Buses s t → Buses t u → Buses s u
  | bus (s : State) (x : Bus) (b : BusState) : b.passQueue = (s.bus x).passQueue → Buses s (s.setBus x b)

namespace State.Buses

theorem setRunning (s : State) (x : Bus) (r : Option Running) : s.Buses (s.setRunning x r) := bus s x _ rfl

theorem waiting (s : State) (x : Bus) (runs : List Run) : s.Buses (s.setBus x { s.bus x with waiting := runs }) :=
  bus s x _ rfl

theorem beginStep (s : State) (x : Bus) (r : Running) (k : Nat) : s.Buses (s.beginStep x r k) := by
  unfold State.beginStep
  split <;> exact setRunning s x _

theorem startRun (s : State) (x : Bus) (r : Run) : s.Buses (s.startRun x r) := beginStep s x _ 0

theorem startWaiting (s : State) (x : Bus) : s.Buses (s.startWaiting x) := by
  unfold State.startWaiting
  split
  · exact refl s
  · exact (waiting s x _).trans (startRun _ x _)

theorem giveBus (s : State) (x : Bus) : s.Buses (s.giveBus x) := by
  have pass : s.Buses (match (s.bus x).passQueue with
      | [] => s
      | p :: _ => s.setBus x { s.bus x with engine := some ⟨.pass, p.transaction⟩ }) := by
    split
    · exact refl s
    · exact bus s x _ rfl
  unfold State.giveBus
  dsimp only
  split
  · exact refl s
  split
  · exact pass
  split
  case isFalse => exact pass
  split
  · exact bus s x _ rfl
  · exact pass

theorem queueRun (s : State) (c : Cam) (sel : Selector) : s.Buses (s.queueRun c sel) := by
  unfold State.queueRun
  split
  · exact refl s
  dsimp only
  split
  · exact (startRun s _ _).trans (giveBus _ _)
  · exact bus s _ _ rfl

/-- The bus changes leave the cameras and the link alone. -/
theorem frame {s t : State} (h : s.Buses t) : t.ports = s.ports ∧ t.monitors = s.monitors ∧ t.link = s.link := by
  induction h with
  | trans _ _ ih1 ih2 =>
    obtain ⟨p1, m1, l1⟩ := ih1
    obtain ⟨p2, m2, l2⟩ := ih2
    exact ⟨p2.trans p1, m2.trans m1, l2.trans l1⟩
  | _ => exact ⟨rfl, rfl, rfl⟩

end State.Buses

/-! ### Script runs, starts and stops -/

/-- What script runs, starts and stops do besides. The queued pass-throughs and the scripts stay as they are, as do all parts
of the state but ports, monitors, buses and the outbound queue. -/
inductive State.Work : State → State → Prop
  | frames {s t : State} : s.Frames t → Work s t
  | trans {s t u : State} : Work s t → Work t u → Work s u
  | state (s : State) (c : Cam) (x : CamState) : Work s (s.setPort c { s.port c with state := x })
  | monitor (s : State) (c : Cam) (m : Monitor) : Work s (s.setMonitor c m)
  | buses {s t : State} : s.Buses t → Work s t

namespace State.Work

theorem refl (s : State) : s.Work s := frames (.refl s)

theorem raise (s : State) (n : Notice) : s.Work (s.raise n) := frames (.raise s n)

theorem port (s : State) (c : Cam) (p : Port) (h : (s.port c).Move p) : s.Work (s.setPort c p) := frames (.port s c p h)

theorem ite {s t u : State} {p : Prop} [Decidable p] (ht : p → s.Work t) (hu : ¬ p → s.Work u) :
    s.Work (if p then t else u) := by
  split
  · exact ht ‹_›
  · exact hu ‹_›

theorem arm (s : State) (c : Cam) (k : Cal → Nat) : s.Work (s.arm c k) := by
  unfold State.arm
  split
  · exact monitor s c _
  · exact refl s

theorem disarm (s : State) (c : Cam) : s.Work (s.disarm c) := monitor s c _

theorem changeState (s : State) (c : Cam) (x : CamState) (r : Reason) : s.Work (s.changeState c x r) :=
  (state s c x).trans (raise _ _)

theorem enterFaulted (s : State) (c : Cam) (r : Reason) : s.Work (s.enterFaulted c r) :=
  (changeState s c .faulted r).trans (port _ c _ ((Port.Move.discardWork _).trans (Port.Move.faultReason _ r)))

theorem reportScript (s : State) (c : Cam) (sel : Selector) (result : ScriptResult) :
    s.Work (s.reportScript c sel result) := by
  unfold State.reportScript
  split
  · refine ite (fun _ => ?_) fun _ => refl s
    split
    · exact (changeState s c _ _).trans (arm _ c _)
    · exact enterFaulted s c _
    · exact refl s
  · exact ite (fun _ => changeState s c _ _) fun _ => refl s

theorem endScript (s : State) (x : Bus) (r : Run) (result : ScriptResult) (step : Nat) (cause : ScriptCause) :
    s.Work (s.endScript x r result step cause) :=
  (((raise s _).trans (reportScript _ _ _ _)).trans (buses (.setRunning _ x _))).trans (buses (.startWaiting _ x))

theorem stepDone (s : State) (x : Bus) (r : Running) : s.Work (s.stepDone x r) :=
  ite (fun _ => buses (.beginStep s x r _)) fun _ => endScript s x _ _ _ _

theorem scriptOutcome (s : State) (x : Bus) (r : Running) (o : BusOutcome) : s.Work (s.scriptOutcome x r o) := by
  unfold State.scriptOutcome
  split
  · exact endScript s x _ _ _ _
  · exact endScript s x _ _ _ _
  split
  · exact ite (fun _ => stepDone s x r) fun _ => ite (fun _ => buses (.setRunning s x _)) fun _ => endScript s x _ _ _ _
  · exact stepDone s x r

/-- The end of a script step's transaction, or of its wait. -/
theorem serveScript (s : State) (x : Bus) (r : Running) (o : BusOutcome) :
    s.Work (if r.abort then s.endScript x r.run .aborted r.step .none else s.scriptOutcome x r o) :=
  ite (fun _ => endScript s x _ _ _ _) fun _ => scriptOutcome s x r o

theorem endWait (s : State) (x : Bus) : s.Work (s.endWait x) := by
  unfold State.endWait
  split
  · split
    · exact (stepDone s x _).trans (buses (.giveBus _ x))
    · exact refl s
  · exact refl s

theorem endRetry (s : State) (x : Bus) : s.Work (s.endRetry x) := by
  unfold State.endRetry
  split
  · split
    · exact (buses (.setRunning s x _)).trans (buses (.giveBus _ x))
    · exact refl s
  · exact refl s

theorem abortOn (s : State) (x : Bus) (c : Cam) : s.Work (s.abortOn x c) := by
  unfold State.abortOn
  dsimp only
  refine ite (fun _ => (buses (.waiting s x _)).trans (raise _ _)) fun _ => ?_
  split
  · exact ite (fun _ => ite (fun _ => buses (.setRunning s x _)) fun _ =>
      (endScript s x _ _ _ _).trans (buses (.giveBus _ x))) fun _ => refl s
  · exact refl s

theorem abortStart (s : State) (c : Cam) : s.Work (s.abortStart c) := (abortOn s .a c).trans (abortOn _ .b c)

/-! ### Start and stop of a camera -/

theorem markStart (s : State) (c : Cam) (mode : StartMode) : s.Work (s.markStart c mode) :=
  (port s c _ (Port.Move.fields _ mode .none _ _)).trans (monitor _ c _)

theorem enterWaiting (s : State) (c : Cam) (r : Reason) : s.Work (s.enterWaiting c r) :=
  (changeState s c _ r).trans (arm _ c _)

theorem startLive (s : State) (c : Cam) (r : Reason) : s.Work (s.startLive c r) :=
  (markStart s c .live).trans <| ite (fun _ => enterWaiting _ c r) fun _ =>
    (changeState _ c _ r).trans (buses (.queueRun _ c _))

theorem startPattern (s : State) (c : Cam) : s.Work (s.startPattern c) :=
  ((markStart s c .pattern).trans (enterWaiting _ c _)).trans (frames (.patternStart _ c))

theorem startIn (s : State) (c : Cam) (mode : StartMode) : s.Work (s.startIn c mode) := by
  cases mode with
  | live => exact startLive s c _
  | pattern => exact startPattern s c

theorem autoStart (s : State) (c : Cam) : s.Work (s.autoStart c) := ite (fun _ => startLive s c _) fun _ => refl s

theorem stopCamera (s : State) (c : Cam) : s.Work (s.stopCamera c) := by
  have abort : s.Work (s.abortLoading c) := ite (fun _ => abortStart s c) fun _ => refl s
  have clear := (abort.trans (port _ c _ (Port.Move.stopWork _))).trans (disarm _ c)
  exact clear.trans <| ite (fun _ => (changeState _ c _ _).trans (buses (.queueRun _ c _))) fun _ => changeState _ c _ _

end State.Work
end Sys2Proof.Machine
end

section
/-!
PROOF. What the clock, the raster, the composition of a frame and the frame store's channel are made of: `State.Quiet` lists
changes that leave the mode, the open requests, the queued pass-throughs, the scripts and the cameras' records alone, and
reach the outbound queue by notices only. A law of those parts that the moves keep is kept by all of it.
-/

namespace Sys2Proof.Machine

/-! ### Fetch windows (R141) -/

/-- Both fetch windows hold what they can at most. -/
def Composer.Fits (k : Composer) : Prop :=
  k.rp.lines.length ≤ Config.windowLines ∧ k.rs.lines.length ≤ Config.windowLines

theorem Window.fill_length {w : Window} (h : w.lines.length ≤ Config.windowLines) (frame : Word) (x : Served) :
    (w.fill frame x).lines.length ≤ Config.windowLines := by
  simp [Window.fill] at h ⊢
  omega

theorem Window.leave_length {w : Window} (h : w.lines.length ≤ Config.windowLines) (r : Nat) :
    (w.leave r).lines.length ≤ Config.windowLines :=
  Nat.le_trans (List.length_filter_le _ _) h

theorem Window.start_length (frame : Word) (x : Served) : (Window.start frame x).lines.length ≤ Config.windowLines :=
  Window.fill_length (w := ⟨[], x.lo⟩) (Nat.zero_le _) frame x

theorem Composer.Fits.openFrame (k : Composer) (r : Record) (ho : Nat) : (k.openFrame r ho).Fits :=
  ⟨Window.start_length _ _, Window.start_length _ _⟩

theorem Composer.Fits.advance {k : Composer} (h : k.Fits) (rec : Record) (ho r : Nat) : (k.advance rec ho r).Fits :=
  ⟨Window.fill_length (Window.leave_length h.1 r) _ _, Window.fill_length (Window.leave_length h.2 r) _ _⟩

/-- A line whose request goes from one state to another stays in its window. -/
theorem Composer.Fits.moveFetch {k : Composer} (h : k.Fits) (secondary : Bool) (frame : Word) (line : Nat)
    (old new : Fetch) : (k.setWindow secondary ((k.windowOf secondary).moveFetch frame line old new)).Fits := by
  obtain ⟨hp, hs⟩ := h
  cases secondary
  · exact ⟨by simpa [Composer.setWindow, Composer.windowOf, Window.moveFetch] using hp, hs⟩
  · exact ⟨hp, by simpa [Composer.setWindow, Composer.windowOf, Window.moveFetch] using hs⟩

/-! ### The ramp queue (R40) -/

/-- The ramp step makes the head active and clamps; it adds no segment. -/
theorem rampStart_length (b : Nat × Nat) (zs : Nat) (frame : Word) (queue : List Segment) (rest : Nat) :
    (rampStart b zs frame queue rest).1.length = queue.length := by
  cases queue <;> rfl

/-- The advance adds no segment. -/
theorem rampAdvance_length (queue : List Segment) (rest : Nat) : (rampAdvance queue rest).1.length ≤ queue.length := by
  unfold rampAdvance
  split
  · exact Nat.le_refl _
  split
  · exact Nat.le_refl _
  · split
    · exact Nat.le_succ _
    · exact Nat.le_refl _

/-! ### The arbitration tables (R154, R159) -/

theorem ptrOk_zero (n : Nat) : ptrOk 0 n := by
  rcases Nat.eq_zero_or_pos n with h | h
  · exact .inr ⟨rfl, h⟩
  · exact .inl h

theorem ptrOk_nextPtr {k n : Nat} (h : 0 < n) : ptrOk (nextPtr k n) n := by
  unfold nextPtr
  split
  · exact .inl ‹_›
  · exact .inl h

theorem Arbiter.Law.apply {a : Arbiter} {t : ArbTable} (h : t.Law) : (a.apply t).Law :=
  ⟨h, fun _ ht => (nomatch ht), ptrOk_zero _, ptrOk_zero _⟩

theorem Arbiter.Law.applyPending {a : Arbiter} (h : a.Law) : a.applyPending.Law := by
  unfold Arbiter.applyPending
  split
  · exact .apply (h.pending _ ‹_›)
  · exact h

theorem Arbiter.applyPending_channel (a : Arbiter) : a.applyPending.channel = a.channel := by
  unfold Arbiter.applyPending
  split <;> rfl

theorem Arbiter.turnWheel_frame (a : Arbiter) : a.turnWheel.table = a.table ∧ a.turnWheel.pendingTable = a.pendingTable
    ∧ a.turnWheel.robinPtr = a.robinPtr ∧ a.turnWheel.channel = a.channel := by
  unfold Arbiter.turnWheel
  split <;> exact ⟨rfl, rfl, rfl, rfl⟩

theorem Arbiter.Law.turnWheel {a : Arbiter} (h : a.Law) : a.turnWheel.Law := by
  unfold Arbiter.turnWheel
  split
  · exact h
  · rename_i hw
    refine ⟨h.table, h.pending, ptrOk_nextPtr ?_, h.robin⟩
    exact List.length_pos_iff.mpr (by simpa using hw)

/-- The entries examined in the round-robin step keep the indices they have in the list. -/
theorem rotated_index {k : Nat} {xs : List ArbEntry} {x : ArbEntry × Nat} (h : x ∈ rotated k xs) : x.2 < xs.length := by
  have : x ∈ xs.zipIdx := by
    rcases List.mem_append.mp h with h | h
    · exact List.mem_of_mem_drop h
    · exact List.mem_of_mem_take h
  have := List.snd_lt_of_mem_zipIdx this
  omega

/-- After an opportunity the round-robin pointer is in range (R156). -/
theorem State.winner_robinPtr {s : State} (h : ptrOk s.arbiter.robinPtr s.arbiter.table.robin.length) :
    ptrOk s.winner.2 s.arbiter.table.robin.length := by
  unfold State.winner
  split
  · exact h
  split
  · exact h
  split
  · rename_i r k hr
    obtain ⟨x, hx, he⟩ := List.exists_of_findSome?_eq_some hr
    exact ptrOk_nextPtr (Nat.lt_of_le_of_lt (Nat.zero_le _) (rotated_index hx))
  · exact h

/-- As many entries as bytes (R160). -/
theorem entriesOf_length {bytes : List Byte} {es : List ArbEntry} (h : entriesOf bytes = some es) :
    es.length = bytes.length := by
  induction bytes generalizing es with
  | nil => cases h; rfl
  | cons b rest ih =>
    unfold entriesOf at h
    split at h
    · rename_i x xs _ hxs
      cases h
      simp [ih hxs]
    · cases h

theorem Client.mem_all (c : Client) : c ∈ Client.all := by
  cases c with
  | w c => cases c <;> simp [Client.all]
  | rp => simp [Client.all]
  | rs => simp [Client.all]

/-- Every client of a table that passes the last check has an entry with qualifier ANY (R159, R160). -/
theorem ArbTable.servesAll_iff {t : ArbTable} :
    t.servesAll = true ↔ ∀ c : Client, ⟨c, .any⟩ ∈ t.wheel ++ t.priority ++ t.robin := by
  simp only [ArbTable.servesAll, List.all_eq_true, List.contains_iff_mem, ArbTable.entries]
  exact ⟨fun h c => h c (Client.mem_all c), fun h c _ => h c⟩

/-- A table that a request carries and that passes the checks is lawful (R160). -/
theorem arbTableOf_law {b : ArbiterBody} {t : ArbTable} (h : arbTableOf b = some t) (hs : t.servesAll = true) : t.Law := by
  unfold arbTableOf at h
  split at h
  · rename_i w p r hw hp hr
    cases h
    have lw := entriesOf_length hw
    have lp := entriesOf_length hp
    have lr := entriesOf_length hr
    simp only [List.length_take, arbCounts] at lw lp lr
    exact ⟨show w.length ≤ 32 by omega, show p.length ≤ 6 by omega, show r.length ≤ 6 by omega, ArbTable.servesAll_iff.mp hs⟩
  · cases h

/-- At an opportunity the channel is FREE (R153). -/
theorem State.opportunity_free {s : State} (h : s.opportunity = true) : s.arbiter.channel = .free := by
  simp only [State.opportunity, Bool.and_eq_true, beq_iff_eq] at h
  exact h.1

/-! ### The start a hand-off asks for (R11, R63, R64) -/

/-- A verdict asks for the start of a camera with auto-start only. -/
def Verdict.Asks (v : Verdict) (s : State) : Prop := ∀ c, v.autoStart = some c → s.autoStarts c = true

theorem Verdict.asks_none {v : Verdict} {s : State} (h : v.autoStart = none) : v.Asks s := by
  intro c hc
  rw [h] at hc
  cases hc

theorem State.needs_asks {s : State} {i c : Cam} (h : (s.needs i).2 = some c) : s.autoStarts c = true := by
  unfold State.needs at h
  split at h
  · split at h
    · cases h
      assumption
    · cases h
  · cases h

theorem State.fallback_asks (s : State) (x : HandoffIn) (lost : Option Cam) : (s.fallback x lost).Asks s := by
  unfold State.fallback
  split <;> exact Verdict.asks_none rfl

theorem State.enterPrepare_asks (s : State) (x : HandoffIn) (o i : Cam) : (s.enterPrepare x o i).Asks s :=
  fun _ h => State.needs_asks h

theorem State.steadyStep_asks (s : State) (x : HandoffIn) (p : Cam) : (s.steadyStep x p).Asks s := by
  unfold State.steadyStep
  dsimp only
  split
  · exact Verdict.asks_none rfl
  split
  · split
    · exact s.enterPrepare_asks x p _
    · exact Verdict.asks_none rfl
  · unfold State.waitForCut
    split
    · exact Verdict.asks_none rfl
    · intro c h
      dsimp only at h
      split at h
      · cases h
      · exact State.needs_asks h

theorem State.prepareStep_asks (s : State) (x : HandoffIn) (o i : Cam) (count : Nat) (started : Bool) :
    (s.prepareStep x o i count started).Asks s := by
  unfold State.prepareStep
  dsimp only
  split
  · exact Verdict.asks_none rfl
  split
  · split
    · unfold State.prepareOn
      dsimp only
      split
      · split <;> split <;> exact Verdict.asks_none rfl
      · exact Verdict.asks_none rfl
    · split
      · exact s.enterPrepare_asks x o _
      · exact Verdict.asks_none rfl
  · exact Verdict.asks_none rfl

theorem State.blendStep_asks (s : State) (x : HandoffIn) (o i : Cam) (k n : Nat) (dir : Direction) :
    (s.blendStep x o i k n dir).Asks s := by
  unfold State.blendStep
  dsimp only
  split <;> split <;> exact Verdict.asks_none rfl

theorem State.stateStep_asks (s : State) (x : HandoffIn) : (s.stateStep x).Asks s := by
  unfold State.stateStep
  split
  · exact s.steadyStep_asks x _
  · exact s.prepareStep_asks x _ _ _ _
  · exact s.blendStep_asks x _ _ _ _ _
  · unfold State.frozenStep
    split <;> exact Verdict.asks_none rfl
  · exact Verdict.asks_none rfl
  · exact Verdict.asks_none rfl

theorem State.lossStep_asks {s : State} {x : HandoffIn} {v : Verdict} (h : s.lossStep x = some v) : v.Asks s := by
  unfold State.lossStep at h
  split at h
  case h_1 =>
    split at h <;> cases h
    exact s.fallback_asks x _
  case h_2 =>
    split at h
    · cases h
      split
      · exact Verdict.asks_none rfl
      · exact s.fallback_asks x _
    · split at h <;> cases h
      exact Verdict.asks_none rfl
  case h_3 =>
    split at h <;> cases h
    · exact Verdict.asks_none rfl
    · exact Verdict.asks_none rfl
    · exact s.fallback_asks x _
  case h_4 =>
    split at h <;> cases h
    · exact Verdict.asks_none rfl
    · exact Verdict.asks_none rfl
    · exact s.fallback_asks x _
  all_goals cases h

theorem State.viewStep_asks {s : State} {x : HandoffIn} {v : Verdict} (h : s.viewStep x = some v) : v.Asks s := by
  unfold State.viewStep at h
  repeat' split at h
  all_goals cases h
  · exact Verdict.asks_none rfl
  · exact Verdict.asks_none rfl
  · unfold State.leaveCompare
    split
    · exact Verdict.asks_none rfl
    · exact s.fallback_asks x _

theorem State.firstStep_asks (s : State) (x : HandoffIn) : (s.firstStep x).Asks s := by
  unfold State.firstStep
  split
  · split
    · exact Verdict.asks_none rfl
    · exact s.fallback_asks x none
  · exact s.fallback_asks x none

theorem State.handoff_asks (s : State) (x : HandoffIn) : (s.handoff x).Asks s := by
  have view : ∀ v : Verdict, v.Asks s.withViewNow → v.Asks s := fun _ h => h
  unfold State.handoff
  dsimp only
  split
  · exact view _ (State.firstStep_asks _ x)
  split
  · exact view _ (State.viewStep_asks ‹_›)
  split
  · exact view _ (State.lossStep_asks ‹_›)
  · exact view _ (State.stateStep_asks _ x)

/-! ### The changes -/

/-- The changes that leave the mode, the open requests and what is held for them, the scripts and the cameras' records
alone. -/
inductive State.Quiet : State → State → Prop
  | frames {s t : State} : s.Frames t → Quiet s t
  | autoStart (s : State) (c : Cam) : s.autoStarts c = true → Quiet s (s.autoStart c)
  | trans {s t u : State} : Quiet s t → Quiet t u → Quiet s u
  | tick (s : State) : Quiet s s.tick
  | zoom (s : State) (z : Zoom) : (s.zoom.queue.length ≤ Config.rampDepth → z.queue.length ≤ Config.rampDepth) →
      Quiet s { s with zoom := z }
  | otg (s : State) (o : Otg) : o.stopPending = s.otg.stopPending → Quiet s { s with otg := o }
  | composer (s : State) (k : Composer) : (s.composer.Fits → k.Fits) → Quiet s { s with composer := k }
  | arbiter (s : State) (a : Arbiter) : (s.arbiter.Law → a.Law) →
      (a.channel = .initialising ↔ s.arbiter.channel = .initialising) → Quiet s { s with arbiter := a }
  | pins (s : State) (named : Cam → Option (Nat × Pin)) : Quiet s (s.applyPins named)

namespace State.Quiet

theorem refl (s : State) : s.Quiet s := frames (.refl s)

theorem ite {s t u : State} {p : Prop} [Decidable p] (ht : p → s.Quiet t) (hu : ¬ p → s.Quiet u) :
    s.Quiet (if p then t else u) := by
  split
  · exact ht ‹_›
  · exact hu ‹_›

/-! ### Before the composition -/

theorem applyShadowed (s : State) : s.Quiet s.applyShadowed := by
  refine (otg s s.otg.applyShadow.applyFsync ?_).trans
    (arbiter _ s.arbiter.applyPending Arbiter.Law.applyPending (by rw [Arbiter.applyPending_channel]))
  show s.otg.applyShadow.stopPending = _
  unfold Otg.applyShadow
  split <;> rfl

theorem send (s : State) (x : Packet) : s.Quiet (s.send x) := otg s _ rfl

theorem sendMetadata (s : State) : s.Quiet s.sendMetadata := by
  unfold State.sendMetadata
  split
  · exact send s _
  · exact refl s

theorem raise (s : State) (n : Notice) : s.Quiet (s.raise n) := frames (.raise s n)

theorem frameDone (s : State) : s.Quiet s.frameDone := by
  unfold State.frameDone
  split
  · exact raise s _
  · exact refl s

/-! ### The composition (R59) -/

theorem applySettings (s : State) : s.Quiet s.applySettings := by
  unfold State.applySettings
  split
  · exact zoom s _ id
  · exact refl s

theorem rampStep (s : State) (frame : Word) : s.Quiet (s.rampStep frame) :=
  (zoom s _ (rampStart_length _ _ _ _ _ ▸ id)).trans (frames (.raiseAll _ _))

theorem askStart (s : State) (o : Option Cam) (h : ∀ c, o = some c → s.autoStarts c = true) : s.Quiet (s.askStart o) := by
  cases o with
  | none => exact refl s
  | some c => exact autoStart s c (h c rfl)

theorem settle (s : State) (v : Verdict) (h : v.Asks s) : s.Quiet (s.settle v) := by
  refine ((zoom s _ (by exact id)).trans (frames (.raiseAll _ _))).trans (askStart _ _ fun c hc => ?_)
  unfold State.autoStarts State.port
  rw [State.raiseAll_ports]
  exact h c hc

theorem settleZoom (s : State) (window : Option (Nat × Nat)) (w : Windowed) (frame : Word) :
    s.Quiet (s.settleZoom window w frame) := by
  refine (zoom s _ fun h => ?_).trans (frames (.raiseAll _ _))
  dsimp only
  split
  · exact Nat.le_trans (rampAdvance_length _ _) h
  · exact h

theorem publish (s : State) (r : Record) : s.Quiet (s.publish r) := (zoom s _ (by exact id)).trans (pins _ _)

theorem finishComposition (s : State) (target : Word) (zc : Nat) (forcing : Bool) (corr : CorrStep) :
    s.Quiet (s.finishComposition target zc forcing corr) :=
  ((settleZoom s _ _ _).trans (zoom _ _ (by exact id))).trans (publish _ _)

theorem composeFrom (s : State) (target : Word) : s.Quiet (s.composeFrom target) :=
  ((zoom s _ (by exact id)).trans (settle _ _ (State.handoff_asks _ _))).trans (finishComposition _ _ _ _ _)

theorem compose (s : State) : s.Quiet s.compose :=
  (((zoom s _ (by exact id)).trans (applySettings _)).trans (rampStep _ _)).trans (composeFrom _ _)

theorem openWindows (s : State) : s.Quiet s.openWindows := by
  unfold State.openWindows
  split
  · exact composer s _ fun _ => .openFrame _ _ _
  · exact refl s

theorem beginFrame (s : State) (phase : Nat) : s.Quiet (s.beginFrame phase) := by
  refine (((((applyShadowed s).trans (sendMetadata _)).trans (frameDone _)).trans (compose _)).trans
    (openWindows _)).trans (otg _ _ ?_)
  show (Otg.begin _).stopPending = _
  unfold Otg.begin
  split <;> rfl

/-! ### The raster -/

theorem raster (s : State) (x : Raster) (p : Option Packet) :
    s.Quiet { s with otg := { s.otg with raster := x, outPort := p } } := otg s _ rfl

theorem blankingLine (s : State) : s.Quiet s.blankingLine := by
  unfold State.blankingLine
  split
  · exact otg s _ rfl
  · exact refl s

theorem outputFrameStart (s : State) : s.Quiet s.outputFrameStart := by
  unfold State.outputFrameStart
  split
  · exact ite (fun _ => otg s _ rfl) fun _ => refl s
  · exact refl s

theorem startLine (s : State) (rec : Record) (wo ho r : Nat) : s.Quiet (s.startLine rec wo ho r) :=
  let x := s.decideLine rec wo ho r
  ((composer s ((s.composer.advance rec ho r).keepSent r x.1) fun h => h.advance rec ho r).trans
    (zoom _ { s.zoom with current := some (rec.countLine x.2) } id)).trans
      (raster _ (.active r false) (some (.line r x.1.luma x.1.u x.1.v)))

theorem lineStart (s : State) : s.Quiet s.lineStart := by
  unfold State.lineStart
  split
  · split
    · exact startLine s _ _ _ _
    · exact refl s
  · exact refl s

theorem reportUnderrun (s : State) : s.Quiet s.reportUnderrun := by
  unfold State.reportUnderrun
  split
  · exact ite (fun _ => raise s _) fun _ => refl s
  · exact refl s

theorem outputFrameEnd (s : State) : s.Quiet s.outputFrameEnd := by
  unfold State.outputFrameEnd
  split
  · exact ite (fun _ => (raster s _ _).trans (reportUnderrun _)) fun _ => refl s
  · exact refl s

theorem pulseStart (s : State) (c : Cam) : s.Quiet { s with otg := s.otg.pulseStart c } := by
  refine otg s _ ?_
  unfold Otg.pulseStart
  split
  · split <;> rfl
  · rfl

theorem pulseEnd (s : State) (c : Cam) : s.Quiet { s with otg := s.otg.pulseEnd c } := by
  refine otg s _ ?_
  unfold Otg.pulseEnd
  split
  · split <;> rfl
  · rfl

/-! ### The frame store's channel -/

theorem markGranted (s : State) (g : Grant) : s.Quiet (s.markGranted g) := by
  cases g with
  | write c => exact frames (.port s c _ (Port.Move.inFlight _ true))
  | read secondary frame line => exact composer s _ fun h => h.moveFetch _ _ _ _ _

theorem takeOpportunity (s : State) (h : s.arbiter.channel = .free) : s.Quiet s.takeOpportunity := by
  obtain ⟨ht, -, -, hc⟩ := s.arbiter.turnWheel_frame
  have law : s.arbiter.Law → ({ s.arbiter.turnWheel with robinPtr := s.winner.2 } : Arbiter).Law := fun hl =>
    ⟨hl.turnWheel.table, hl.turnWheel.pending, hl.turnWheel.wheel, by rw [ht]; exact State.winner_robinPtr hl.robin⟩
  unfold State.takeOpportunity
  dsimp only
  split
  · refine Quiet.trans (arbiter s _ (fun hl => ?_) ?_) (markGranted _ _)
    · exact ⟨(law hl).table, (law hl).pending, (law hl).wheel, (law hl).robin⟩
    · simp [h]
  · exact arbiter s _ law (by rw [hc])

theorem readDone (s : State) (secondary : Bool) (frame : Word) (line : Nat) : s.Quiet (s.readDone secondary frame line) := by
  unfold State.readDone
  split
  · exact refl s
  · exact composer s _ fun h => h.moveFetch _ _ _ _ _

theorem completeTransfer (s : State) : s.Quiet s.completeTransfer := by
  unfold State.completeTransfer
  split
  · exact refl s
  · exact refl s
  rename_i g hg
  have free : s.Quiet { s with arbiter := { s.arbiter with channel := .free } } :=
    arbiter s _ (fun h => ⟨h.table, h.pending, h.wheel, h.robin⟩) (by simp [hg])
  dsimp only
  split
  · exact free.trans (frames (.writeDone _ _))
  · exact free.trans (readDone _ _ _ _)

/-! ### What requests set -/

theorem setBlanking (s : State) (b : Blanking) : s.Quiet (s.setBlanking b) :=
  ite (fun _ => otg s _ rfl) fun _ => otg s _ rfl

theorem setTable (s : State) {t : ArbTable} (h : t.Law) : s.Quiet (s.setTable t) :=
  ite (fun _ => arbiter s _ (fun hl => ⟨hl.table, fun _ hu => Option.some.inj hu ▸ h, hl.wheel, hl.robin⟩) Iff.rfl) fun _ =>
    arbiter s _ (fun _ => .apply h) Iff.rfl

theorem setFsync (s : State) (c : Cam) (x : Fsync) : s.Quiet (s.setFsync c x) :=
  ite (fun _ => otg s _ rfl) fun _ => otg s _ rfl

end State.Quiet

/-! ### The bus given on, and the end of a transaction -/

/-- The engine is IDLE, before its owner is served. -/
def State.freeEngine (s : State) (x : Bus) (o : BusOutcome) : State :=
  s.setBus x { s.bus x with engine := none, lastEnd := o.lineEnd }

theorem State.Buses.freeEngine (s : State) (x : Bus) (o : BusOutcome) : s.Buses (s.freeEngine x o) := .bus s x _ rfl

/-- What the end of a transaction does: nothing on an IDLE bus, script work, or an answer to the head pass-through. -/
theorem State.endTransaction_cases (s : State) (x : Bus) (o : BusOutcome) :
    s.Work (s.endTransaction x o) ∨
    ∃ t p rest bytes, s.Buses t ∧ (s.bus x).passQueue = p :: rest ∧
      s.endTransaction x o =
        ((t.setBus x { t.bus x with passQueue := rest }).answer p.id o.status bytes).giveBus x := by
  unfold State.endTransaction
  split
  · exact .inl (Work.refl s)
  rename_i b hb
  have hfree : s.Buses (s.freeEngine x o) := .freeEngine s x o
  have give : ∀ t : State, t.Work (t.giveBus x) := fun t => .buses (.giveBus t x)
  unfold State.serveOwner
  split
  · split
    · exact .inl ((Work.buses hfree).trans (give _))
    · rename_i p rest hq
      refine .inr ⟨s.freeEngine x o, p, rest, _, hfree, ?_, rfl⟩
      rw [State.bus_setBus_same] at hq
      exact hq
  · split
    · exact .inl ((Work.buses hfree).trans (give _))
    · exact .inl (((Work.buses hfree).trans (Work.serveScript _ x _ o)).trans (give _))

end Sys2Proof.Machine
end

section
/-!
PROOF. The places of the outbound queue (R179 to R181): every step keeps the law of the Control Link. `Link.Due d` is that law
with `d` places claimed for requests that are taken up and not yet answered or kept open.
-/

namespace Sys2Proof.Machine

/-- The law of the link, with `d` claims for requests taken up now. -/
structure Link.Due (d : Nat) (l : Link) : Prop where
  claims : l.claims = l.opened.length + replyCount l.outbound + d
  places : l.claims ≤ Config.replyPlaces
  notices : noticeCount l.outbound ≤ Config.noticePlaces
  holder : rejectCount l.outbound = if l.holder then 1 else 0

theorem Link.due_zero {l : Link} : l.Due 0 ↔ l.Law :=
  ⟨fun h => ⟨h.claims, h.places, h.notices, h.holder⟩, fun h => ⟨h.claims, h.places, h.notices, h.holder⟩⟩

theorem Link.Due.raise {d : Nat} {l : Link} (h : l.Due d) (n : Notice) : (l.raise n).Due d := by
  obtain ⟨hr, hj, hc, ho, hh, -, -, -⟩ := l.raise_frame n
  exact ⟨by rw [hc, ho, hr]; exact h.claims, by rw [hc]; exact h.places, l.raise_notices n h.notices,
    by rw [hj, hh]; exact h.holder⟩

/-- A reply takes one claimed place. -/
theorem Link.Due.reply {l : Link} (h : l.Due 1) (kind tag : Byte) (status : Status) (body : List Byte) :
    (l.reply kind tag status body).Due 0 := by
  obtain ⟨hc, hp, hn, hh⟩ := h
  refine ⟨?_, hp, ?_, ?_⟩
  · simp [Link.reply, replyCount, OutFrame.isReply] at hc ⊢
    omega
  · simpa [Link.reply, noticeCount, OutFrame.isNotice] using hn
  · show rejectCount (l.outbound ++ [OutFrame.reply kind tag status body]) = _
    rw [rejectCount_append]
    exact hh

/-- An open request stands for one claimed place. -/
theorem Link.Due.keepOpen {l : Link} (h : l.Due 1) (kind tag : Byte) : (l.keepOpen kind tag).Due 0 := by
  obtain ⟨hc, hp, hn, hh⟩ := h
  refine ⟨?_, hp, hn, hh⟩
  simp [Link.keepOpen] at hc ⊢
  omega

/-- A flush turns every open request into a queued reply. -/
theorem Link.Due.flush {d : Nat} {l : Link} (h : l.Due d) : l.flush.Due d := by
  obtain ⟨hc, hp, hn, hh⟩ := h
  have replies : ∀ os : List OpenRequest, let q := os.map fun o => OutFrame.reply o.kind o.tag .flushed []
      replyCount q = os.length ∧ noticeCount q = 0 ∧ rejectCount q = 0 := by
    intro os
    induction os with
    | nil => exact ⟨rfl, rfl, rfl⟩
    | cons o os ih =>
      obtain ⟨h1, h2, h3⟩ := ih
      simp only [replyCount, noticeCount, rejectCount] at h1 h2 h3
      refine ⟨?_, ?_, ?_⟩ <;>
        simp [replyCount, noticeCount, rejectCount, List.countP_cons, OutFrame.isReply, OutFrame.isNotice,
          OutFrame.isReject, h1, h2, h3]
  obtain ⟨h1, h2, h3⟩ := replies l.opened
  refine ⟨?_, hp, ?_, ?_⟩
  · simp only [Link.flush, replyCount_append, h1, List.length_nil]
    omega
  · simpa only [Link.flush, noticeCount_append, h2, Nat.add_zero] using hn
  · show rejectCount (l.outbound ++ l.opened.map fun o => OutFrame.reply o.kind o.tag .flushed []) = _
    rw [rejectCount_append, h3]
    exact hh

/-- A read shifts bytes, and may remove the head. -/
theorem Link.Law.read {l : Link} (h : l.Law) (n : Nat) (ends : Bool) : (l.read n ends).Law := by
  have field : ∀ {k : Link} (r : Reading) (bytes : List Byte), k.Law → ({ k with reading := r, spiOut := bytes } : Link).Law :=
    fun r bytes hk => ⟨hk.claims, hk.places, hk.notices, hk.holder⟩
  have shift : ∀ k, (l.shift k n).Law := by
    intro k
    unfold Link.shift
    split
    · exact field _ _ h
    · dsimp only
      split
      · exact field _ _ h.removeHead
      · exact field _ _ h
  have bytes : (l.readBytes n).Law := by
    unfold Link.readBytes
    split
    · exact field _ _ h
    split
    · exact field l.reading _ h
    · exact shift _
    · exact shift _
    · exact shift _
  unfold Link.read
  split
  · exact field .idle (l.readBytes n).spiOut bytes
  · exact bytes

/-! ### The work of the blocks reaches the link by notices -/

theorem State.Frames.due {d : Nat} {s t : State} (h : s.Frames t) (hs : s.link.Due d) : t.link.Due d := by
  induction h with
  | trans _ _ ih1 ih2 => exact ih2 (ih1 hs)
  | raise s n => exact Link.Due.raise hs n
  | _ => exact hs

theorem State.Work.due {d : Nat} {s t : State} (h : s.Work t) (hs : s.link.Due d) : t.link.Due d := by
  induction h with
  | frames h => exact h.due hs
  | trans _ _ ih1 ih2 => exact ih2 (ih1 hs)
  | buses h => rw [h.frame.2.2]; exact hs
  | _ => exact hs

theorem State.Quiet.due {d : Nat} {s t : State} (h : s.Quiet t) (hs : s.link.Due d) : t.link.Due d := by
  induction h with
  | frames h => exact h.due hs
  | autoStart s c _ => exact (State.Work.autoStart s c).due hs
  | trans _ _ ih1 ih2 => exact ih2 (ih1 hs)
  | _ => exact hs

/-! ### Where requests are answered, kept open or flushed -/

theorem Link.Due.answer {l : Link} (h : l.Due 0) (id : Nat) (status : Status) (body : List Byte) :
    (l.answer id status body).Due 0 :=
  Link.due_zero.mpr ((Link.due_zero.mp h).answer id status body)

theorem State.endTransaction_due {s : State} (x : Bus) (o : BusOutcome) (h : s.link.Due 0) :
    (s.endTransaction x o).link.Due 0 := by
  rcases s.endTransaction_cases x o with hw | ⟨t, p, rest, bytes, hw, -, he⟩
  · exact hw.due h
  · rw [he]
    exact (State.Work.buses (.giveBus _ x)).due (Link.Due.answer (l := t.link) (by rwa [hw.frame.2.2]) _ _ _)

theorem State.endOutput_due {s : State} (id : Nat) (h : s.link.Due 0) : (s.endOutput id).link.Due 0 := by
  have quiet : s.Quiet (s.applyShadowed.sendMetadata.frameDone) :=
    ((State.Quiet.applyShadowed s).trans (State.Quiet.sendMetadata _)).trans (State.Quiet.frameDone _)
  exact Link.Due.answer (quiet.due h) id .ok []

theorem State.boundary_due {s : State} (h : s.link.Due 0) : s.boundary.link.Due 0 := by
  unfold State.boundary
  split
  · exact s.endOutput_due _ h
  · exact (State.Quiet.beginFrame s _).due h

theorem State.removeCamera_link (s : State) (c : Cam) : (s.removeCamera c).link = s.link := by
  unfold State.removeCamera
  split <;> rfl

theorem State.withCal_link (s : State) (c : Cam) (k : Cal) (f : Format) : (s.withCal c k f).link = s.link := by
  unfold State.withCal
  dsimp only
  split <;> rfl

/-- Every piece of work keeps the law of the link. -/
theorem link_kept : Kept fun d s => s.link.Due d where
  pending _ h := h
  tick h := h
  pinReset _ := ⟨rfl, Nat.zero_le _, Nat.zero_le _, rfl⟩
  released h := h
  bootingEnd {s} h := by
    unfold State.bootingEnd
    split
    · exact Link.Due.raise (l := s.link) h _
    · exact h
  read n ends h := Link.due_zero.mpr ((Link.due_zero.mp h).read n ends)
  endRead h := ⟨h.claims, h.places, h.notices, h.holder⟩
  beginWrite h := ⟨h.claims, h.places, h.notices, h.holder⟩
  discard reason h := Link.due_zero.mpr ((Link.due_zero.mp h).discard reason)
  taken ha h := ⟨congrArg (· + 1) h.claims, ha.2, h.notices, h.holder⟩
  reply kind tag status body h := h.reply kind tag status body
  resetPart {s} tag h := by
    have hr := (Link.Due.flush h).reply 0x02 tag .ok []
    exact ⟨hr.claims, hr.places, hr.notices, hr.holder⟩
  mask _ h := ⟨h.claims, h.places, h.notices, h.holder⟩
  outputFormat _ _ h := h
  blanking b h := (State.Quiet.setBlanking _ b).due h
  setFormat _ _ _ _ _ h := h
  removeCamera {s} c _ _ h := by rwa [State.removeCamera_link]
  withCal {s} c k f _ _ h := by rwa [State.withCal_link]
  handoff _ _ h := h
  setTable _ _ _ ht hs h := (State.Quiet.setTable _ (arbTableOf_law ht hs)).due h
  setFsync c x h := (State.Quiet.setFsync _ c x).due h
  setScript _ _ _ _ h := h
  startIn c mode _ _ h := (State.Work.startIn _ c mode).due h
  stopCamera c _ _ _ h := (State.Work.stopCamera _ c).due h
  clearCounters _ h := h
  beginOutput {s} f z tag body _ h := by
    exact (State.Quiet.beginFrame _ _).due (Link.Due.reply (l := s.link) h _ _ _ _)
  stopOutput {s} tag _ hp h := by
    unfold State.takeStopOutput
    rw [hp]
    exact Link.Due.keepOpen h _ _
  zoomTo _ _ _ _ h := h
  zoomCancel h := h
  distance _ h := h
  view _ _ _ _ _ _ h := h
  queuePass {s} kind tag x t _ h := by
    exact (State.Work.buses (.giveBus _ x)).due (Link.Due.keepOpen (l := s.link) h kind tag)
  frameStart c h := (State.Frames.frameStart _ c).due h
  linePacket c luma u v h := (State.Frames.linePacket _ c luma u v).due h
  frameEnd c h := (State.Frames.frameEnd _ c).due h
  patternStart c h := (State.Frames.patternStart _ c).due h
  patternTo _ _ _ h := h
  expire c h := (State.Frames.expire _ c).due h
  boundary _ h := State.boundary_due h
  blankingLine h := (State.Quiet.blankingLine _).due h
  outputFrameStart h := (State.Quiet.outputFrameStart _).due h
  lineStart h := (State.Quiet.lineStart _).due h
  outputFrameEnd h := (State.Quiet.outputFrameEnd _).due h
  opportunity ho h := (State.Quiet.takeOpportunity _ (State.opportunity_free ho)).due h
  completeTransfer h := (State.Quiet.completeTransfer _).due h
  endTransaction x o h := State.endTransaction_due x o h
  endWait x h := (State.Work.endWait _ x).due h
  endRetry x h := (State.Work.endRetry _ x).due h
  pulseStart _ h := h
  pulseEnd _ h := h

/-- Settles O54: the pieces of work keep the law, and the frames of a lawful queue are 8 replies, 15 notices and one
LINK_REJECT at most. -/
theorem stepKeepsOutboundPlaces : Obligations.StepKeepsOutboundPlaces := by
  unfold Obligations.StepKeepsOutboundPlaces
  refine ⟨fun s t hs he => Link.due_zero.mp (link_kept.step (Link.due_zero.mpr hs) he), fun l hl => ?_⟩
  have hlen := outbound_length l.outbound
  have hc : l.opened.length + replyCount l.outbound ≤ 8 := hl.claims ▸ hl.places
  have hn : noticeCount l.outbound ≤ 15 := hl.notices
  have hj : rejectCount l.outbound ≤ 1 := by
    rw [hl.holder]
    split <;> omega
  omega

end Sys2Proof.Machine
end

section
/-!
PROOF. Open requests and their holders (R166, R167, R138, R139, R180): every step keeps that each open request is held by exactly
one queued pass-through or by the stop-pending mark.
-/

namespace Sys2Proof.Machine

/-! ### What the quiet changes leave alone -/

/-- The names of the pass-throughs that both buses hold. -/
def State.passIds (s : State) : List Nat :=
  (s.bus .a).passQueue.map PassThrough.id ++ (s.bus .b).passQueue.map PassThrough.id

theorem State.held_eq (s : State) : s.held = s.passIds ++ s.otg.stopPending.toList := rfl

/-- Open requests, the next name and the holders are as they were. -/
structure State.SameOpen (s t : State) : Prop where
  opened : t.link.opened = s.link.opened
  nextId : t.link.nextId = s.link.nextId
  passes : ∀ x, (t.bus x).passQueue = (s.bus x).passQueue
  stop : t.otg.stopPending = s.otg.stopPending

theorem State.SameOpen.refl (s : State) : s.SameOpen s := ⟨rfl, rfl, fun _ => rfl, rfl⟩

theorem State.SameOpen.trans {s t u : State} (h : s.SameOpen t) (k : t.SameOpen u) : s.SameOpen u :=
  ⟨k.opened.trans h.opened, k.nextId.trans h.nextId, fun x => (k.passes x).trans (h.passes x), k.stop.trans h.stop⟩

theorem State.SameOpen.law {s t : State} (h : s.SameOpen t) (hs : s.OpenLaw) : t.OpenLaw := by
  have hheld : t.held = s.held := by
    rw [State.held_eq, State.held_eq, State.passIds, State.passIds, h.passes, h.passes, h.stop]
  exact ⟨by rw [h.opened, hheld]; exact hs.held, by rw [h.opened]; exact hs.once, by rw [h.opened, h.nextId]; exact hs.named⟩

theorem State.OpenLaw.same {s t : State} (h : s.OpenLaw) (ho : t.link.opened = s.link.opened)
    (hn : t.link.nextId = s.link.nextId) (hp : ∀ x, (t.bus x).passQueue = (s.bus x).passQueue)
    (hs : t.otg.stopPending = s.otg.stopPending) : t.OpenLaw := State.SameOpen.law ⟨ho, hn, hp, hs⟩ h

theorem State.Frames.sameOpen {s t : State} (h : s.Frames t) : s.SameOpen t := by
  induction h with
  | trans _ _ ih1 ih2 => exact ih1.trans ih2
  | raise s n =>
    obtain ⟨-, -, -, ho, -, hn, -⟩ := s.link.raise_frame n
    exact ⟨ho, hn, fun _ => rfl, rfl⟩
  | _ => exact ⟨rfl, rfl, fun _ => rfl, rfl⟩

theorem State.Buses.sameOpen {s t : State} (h : s.Buses t) : s.SameOpen t := by
  induction h with
  | refl s => exact .refl s
  | trans _ _ ih1 ih2 => exact ih1.trans ih2
  | bus s x b hb =>
    refine ⟨rfl, rfl, fun y => ?_, rfl⟩
    by_cases hy : y = x
    · rw [hy, State.bus_setBus_same, hb]
    · rw [State.bus_setBus_ne s b hy]

theorem State.Work.sameOpen {s t : State} (h : s.Work t) : s.SameOpen t := by
  induction h with
  | frames h => exact h.sameOpen
  | trans _ _ ih1 ih2 => exact ih1.trans ih2
  | buses h => exact h.sameOpen
  | _ => exact ⟨rfl, rfl, fun _ => rfl, rfl⟩

theorem State.Quiet.sameOpen {s t : State} (h : s.Quiet t) : s.SameOpen t := by
  induction h with
  | frames h => exact h.sameOpen
  | autoStart s c _ => exact (State.Work.autoStart s c).sameOpen
  | trans _ _ ih1 ih2 => exact ih1.trans ih2
  | otg s o ho => exact ⟨rfl, rfl, fun _ => rfl, ho⟩
  | tick s => exact ⟨rfl, rfl, fun x => by cases x <;> rfl, rfl⟩
  | _ => exact ⟨rfl, rfl, fun _ => rfl, rfl⟩

/-! ### A request kept open, and one answered -/

/-- A request that is kept open and whose name a block takes up. -/
theorem State.OpenLaw.keep {s t : State} (h : s.OpenLaw) (kind tag : Byte)
    (ho : t.link.opened = s.link.opened ++ [⟨s.link.nextId, kind, tag⟩]) (hn : t.link.nextId = s.link.nextId + 1)
    (hh : t.held.Perm (s.link.nextId :: s.held)) : t.OpenLaw := by
  have fresh : s.link.nextId ∉ s.link.opened.map OpenRequest.id := by
    intro hm
    obtain ⟨o, hmem, hid⟩ := List.mem_map.mp hm
    exact absurd (h.named o hmem) (by omega)
  have names : t.link.opened.map OpenRequest.id = s.link.opened.map OpenRequest.id ++ [s.link.nextId] := by
    simp [ho]
  refine ⟨?_, ?_, ?_⟩
  · rw [names]
    exact (List.perm_append_singleton _ _).trans ((h.held.cons _).trans hh.symm)
  · rw [names, List.nodup_append_comm]
    exact List.nodup_cons.mpr ⟨fresh, h.once⟩
  · intro o hm
    rw [ho] at hm
    rcases List.mem_append.mp hm with hm | hm
    · have := h.named o hm
      omega
    · rw [List.mem_singleton.mp hm, hn]
      exact Nat.lt_succ_self _

theorem Link.answer_opened (l : Link) (id : Nat) (status : Status) (body : List Byte) :
    (l.answer id status body).opened = l.opened.eraseP (fun o => o.id == id) := by
  unfold Link.answer
  split
  · rfl
  · rename_i h
    exact (List.eraseP_of_forall_not (by simpa [List.find?_eq_none] using h)).symm

theorem Link.answer_nextId (l : Link) (id : Nat) (status : Status) (body : List Byte) :
    (l.answer id status body).nextId = l.nextId := by
  unfold Link.answer
  split <;> rfl

theorem map_id_eraseP (id : Nat) (os : List OpenRequest) :
    (os.eraseP (fun o => o.id == id)).map OpenRequest.id = (os.map OpenRequest.id).erase id := by
  induction os with
  | nil => rfl
  | cons o os ih =>
    by_cases h : o.id = id
    · simp [h]
    · simp [h, ih]

/-- A request whose holder lets go of it as it is answered. -/
theorem State.OpenLaw.release {s t : State} (h : s.OpenLaw) (id : Nat)
    (ho : t.link.opened = s.link.opened.eraseP (fun o => o.id == id)) (hn : t.link.nextId = s.link.nextId)
    (hh : s.held.Perm (id :: t.held)) : t.OpenLaw := by
  refine ⟨?_, ?_, ?_⟩
  · rw [ho, map_id_eraseP]
    simpa using (h.held.trans hh).erase id
  · rw [ho, map_id_eraseP]
    exact h.once.erase id
  · intro o hm
    rw [ho] at hm
    rw [hn]
    exact h.named o (List.mem_of_mem_eraseP hm)

/-! ### The holders -/

theorem State.held_queued (s : State) (x : Bus) (p : PassThrough) :
    (s.setBus x { s.bus x with passQueue := (s.bus x).passQueue ++ [p] }).held.Perm (p.id :: s.held) := by
  cases x <;>
    simp only [State.held, State.setBus, State.bus, Duo.get, Duo.set, List.map_append, List.append_assoc,
      List.map_singleton, List.singleton_append]
  · exact List.perm_middle
  · rw [← List.append_assoc, ← List.append_assoc]
    exact List.perm_middle

theorem State.held_served {s : State} {x : Bus} {p : PassThrough} {rest : List PassThrough}
    (h : (s.bus x).passQueue = p :: rest) :
    s.held.Perm (p.id :: (s.setBus x { s.bus x with passQueue := rest }).held) := by
  cases x <;> simp only [State.bus, Duo.get] at h <;>
    simp only [State.held, State.setBus, State.bus, Duo.get, Duo.set, h, List.map_cons, List.append_assoc,
      List.cons_append]
  · exact List.Perm.refl _
  · exact List.perm_middle

/-! ### The commands that open and answer requests -/

theorem State.OpenLaw.queuePass {s : State} (h : s.OpenLaw) (kind tag : Byte) (x : Bus) (t : Transaction) :
    (s.queuePass kind tag x t).OpenLaw :=
  (State.Buses.giveBus _ x).sameOpen.law (h.keep kind tag rfl rfl (s.held_queued x ⟨s.link.nextId, t⟩))

theorem State.OpenLaw.takeStopOutput {s : State} (h : s.OpenLaw) (tag : Byte) (hp : s.otg.stopPending = none) :
    (s.takeStopOutput tag).OpenLaw := by
  unfold State.takeStopOutput
  rw [hp]
  refine h.keep 0x0F tag rfl rfl ?_
  rw [s.held_eq, hp, Option.toList_none, List.append_nil]
  exact List.perm_append_singleton s.link.nextId s.passIds

theorem State.OpenLaw.endTransaction {s : State} (h : s.OpenLaw) (x : Bus) (o : BusOutcome) :
    (s.endTransaction x o).OpenLaw := by
  rcases s.endTransaction_cases x o with hw | ⟨t, p, rest, bytes, hw, hq, he⟩
  · exact hw.sameOpen.law h
  · rw [he]
    have ht := hw.sameOpen.law h
    have hqt : (t.bus x).passQueue = p :: rest := (hw.sameOpen.passes x).trans hq
    exact (State.Buses.giveBus _ x).sameOpen.law
      (ht.release p.id (Link.answer_opened _ _ _ _) (Link.answer_nextId _ _ _ _) (State.held_served hqt))

theorem State.OpenLaw.endOutput {s : State} (h : s.OpenLaw) {id : Nat} (hp : s.otg.stopPending = some id) :
    (s.endOutput id).OpenLaw := by
  have quiet : s.Quiet (s.applyShadowed.sendMetadata.frameDone) :=
    ((State.Quiet.applyShadowed s).trans (State.Quiet.sendMetadata _)).trans (State.Quiet.frameDone _)
  refine (quiet.sameOpen.law h).release id (Link.answer_opened _ _ _ _) (Link.answer_nextId _ _ _ _) ?_
  rw [State.held_eq, quiet.sameOpen.stop, hp]
  exact (List.perm_append_singleton id (State.passIds _)).trans (.of_eq (congrArg _ (List.append_nil _).symm))

theorem State.OpenLaw.boundary {s : State} (h : s.OpenLaw) : s.boundary.OpenLaw := by
  unfold State.boundary
  split
  · exact h.endOutput ‹_›
  · exact (State.Quiet.beginFrame s _).sameOpen.law h

/-- After a reset no request is open and none is held. -/
theorem State.OpenLaw.of_none {s : State} (ho : s.link.opened = []) (hh : s.held = []) : s.OpenLaw :=
  ⟨by rw [ho, hh]; exact List.Perm.refl _, by rw [ho]; exact List.nodup_nil, by rw [ho]; exact fun _ h => nomatch h⟩

/-- A read shifts out of the queue; the open requests stay. -/
theorem Link.read_opened (l : Link) (n : Nat) (ends : Bool) :
    (l.read n ends).opened = l.opened ∧ (l.read n ends).nextId = l.nextId := by
  have head : l.removeHead.opened = l.opened ∧ l.removeHead.nextId = l.nextId := by
    unfold Link.removeHead
    split <;> exact ⟨rfl, rfl⟩
  have shift : ∀ k, (l.shift k n).opened = l.opened ∧ (l.shift k n).nextId = l.nextId := by
    intro k
    unfold Link.shift
    split
    · exact ⟨rfl, rfl⟩
    · dsimp only
      split
      · exact head
      · exact ⟨rfl, rfl⟩
  have bytes : (l.readBytes n).opened = l.opened ∧ (l.readBytes n).nextId = l.nextId := by
    unfold Link.readBytes
    split
    · exact ⟨rfl, rfl⟩
    split
    · exact ⟨rfl, rfl⟩
    · exact shift _
    · exact shift _
    · exact shift _
  unfold Link.read
  split <;> exact bytes

theorem Link.discard_opened (l : Link) (reason : RejectReason) :
    (l.discard reason).opened = l.opened ∧ (l.discard reason).nextId = l.nextId := by
  unfold Link.discard
  split <;> exact ⟨rfl, rfl⟩

theorem State.sameOpen_of_link {s : State} {l : Link} (h : l.opened = s.link.opened ∧ l.nextId = s.link.nextId) :
    s.SameOpen { s with link := l } := ⟨h.1, h.2, fun _ => rfl, rfl⟩

theorem State.removeCamera_sameOpen (s : State) (c : Cam) : s.SameOpen (s.removeCamera c) := by
  unfold State.removeCamera
  split <;> exact ⟨rfl, rfl, fun _ => rfl, rfl⟩

theorem State.withCal_sameOpen (s : State) (c : Cam) (k : Cal) (f : Format) : s.SameOpen (s.withCal c k f) := by
  unfold State.withCal
  dsimp only
  split <;> exact ⟨rfl, rfl, fun _ => rfl, rfl⟩

/-- Every piece of work keeps the law of the open requests. -/
theorem open_kept : Kept fun _ s => s.OpenLaw where
  pending _ h := h.same rfl rfl (fun _ => rfl) rfl
  tick h := (State.Quiet.tick _).sameOpen.law h
  pinReset _ := .of_none rfl rfl
  released h := h.same rfl rfl (fun _ => rfl) rfl
  bootingEnd {s} h := by
    unfold State.bootingEnd
    split
    · exact (State.Frames.raise _ _).sameOpen.law (State.SameOpen.law (s := s) ⟨rfl, rfl, fun _ => rfl, rfl⟩ h)
    · exact h
  read {s} n ends h := (State.sameOpen_of_link (s.link.read_opened n ends)).law h
  endRead h := h.same rfl rfl (fun _ => rfl) rfl
  beginWrite h := h.same rfl rfl (fun _ => rfl) rfl
  discard {s} reason h := (State.sameOpen_of_link (s.link.discard_opened reason)).law h
  taken _ h := h.same rfl rfl (fun _ => rfl) rfl
  reply _ _ _ _ h := h.same rfl rfl (fun _ => rfl) rfl
  resetPart _ _ := .of_none rfl rfl
  mask _ h := h.same rfl rfl (fun _ => rfl) rfl
  outputFormat _ _ h := h.same rfl rfl (fun _ => rfl) rfl
  blanking b h := (State.Quiet.setBlanking _ b).sameOpen.law h
  setFormat _ _ _ _ _ h := h.same rfl rfl (fun _ => rfl) rfl
  removeCamera {s} c _ _ h := (s.removeCamera_sameOpen c).law h
  withCal {s} c k f _ _ h := (s.withCal_sameOpen c k f).law h
  handoff _ _ h := h.same rfl rfl (fun _ => rfl) rfl
  setTable _ _ _ ht hs h := (State.Quiet.setTable _ (arbTableOf_law ht hs)).sameOpen.law h
  setFsync c x h := (State.Quiet.setFsync _ c x).sameOpen.law h
  setScript _ _ _ _ h := h.same rfl rfl (fun _ => rfl) rfl
  startIn c mode _ _ h := (State.Work.startIn _ c mode).sameOpen.law h
  stopCamera c _ _ _ h := (State.Work.stopCamera _ c).sameOpen.law h
  clearCounters c h := (State.Frames.clearCounters _ c).sameOpen.law h
  beginOutput {s} f z tag body _ h := by
    have hstart : s.SameOpen (State.reply { s.withMaxima f.wo with
        mode := .run, zoom := { (s.withMaxima f.wo).zoom with rest := z } } 0x0E tag .ok body) :=
      ⟨rfl, rfl, fun _ => rfl, rfl⟩
    exact (State.Quiet.beginFrame _ _).sameOpen.law (hstart.law h)
  stopOutput tag _ hp h := h.takeStopOutput tag hp
  zoomTo _ _ _ _ h := h.same rfl rfl (fun _ => rfl) rfl
  zoomCancel h := h.same rfl rfl (fun _ => rfl) rfl
  distance _ h := h.same rfl rfl (fun _ => rfl) rfl
  view _ _ _ _ _ _ h := h.same rfl rfl (fun _ => rfl) rfl
  queuePass kind tag x t _ h := h.queuePass kind tag x t
  frameStart c h := (State.Frames.frameStart _ c).sameOpen.law h
  linePacket c luma u v h := (State.Frames.linePacket _ c luma u v).sameOpen.law h
  frameEnd c h := (State.Frames.frameEnd _ c).sameOpen.law h
  patternStart c h := (State.Frames.patternStart _ c).sameOpen.law h
  patternTo c g row h := (State.Frames.patternTo _ c g row).sameOpen.law h
  expire c h := (State.Frames.expire _ c).sameOpen.law h
  boundary _ h := h.boundary
  blankingLine h := (State.Quiet.blankingLine _).sameOpen.law h
  outputFrameStart h := (State.Quiet.outputFrameStart _).sameOpen.law h
  lineStart h := (State.Quiet.lineStart _).sameOpen.law h
  outputFrameEnd h := (State.Quiet.outputFrameEnd _).sameOpen.law h
  opportunity ho h := (State.Quiet.takeOpportunity _ (State.opportunity_free ho)).sameOpen.law h
  completeTransfer h := (State.Quiet.completeTransfer _).sameOpen.law h
  endTransaction x o h := h.endTransaction x o
  endWait x h := (State.Work.endWait _ x).sameOpen.law h
  endRetry x h := (State.Work.endRetry _ x).sameOpen.law h
  pulseStart c h := (State.Quiet.pulseStart _ c).sameOpen.law h
  pulseEnd c h := (State.Quiet.pulseEnd _ c).sameOpen.law h

/-- Settles O55: names and holders change together, when a request is kept open and when it is answered. -/
theorem stepKeepsOpenRequests : Obligations.StepKeepsOpenRequests := by
  unfold Obligations.StepKeepsOpenRequests
  exact fun s t hs he => open_kept.step hs he

end Sys2Proof.Machine
end

section
/-!
PROOF. What the buffers, queues and tables hold, and the channel's use in BOOTING (R18, R40, R141, R154, R159, R162, R164, R169):
every step keeps the law of the arbiter, the capacities and the law of the channel.
-/

namespace Sys2Proof.Machine

/-! ### The line buffer (R18) -/

theorem Port.withdraw_length (p : Port) (keep : BufferedLine → Bool) : (p.withdraw keep).buffer.length ≤ p.buffer.length := by
  rw [Port.withdraw_eq]
  dsimp only
  split
  · have := List.length_filter_le keep (p.buffer.drop 1)
    simp only [List.length_append, List.length_take, List.length_drop] at this ⊢
    omega
  · exact List.length_filter_le _ _

theorem Port.discardSlot_length (p : Port) (k : Nat) : (p.discardSlot k).buffer.length ≤ p.buffer.length := by
  unfold Port.discardSlot
  split
  · exact Port.withdraw_length (p.modSlot k Slot.freed) _
  · exact Nat.le_refl _

theorem Port.truncate_length (p : Port) : p.truncate.buffer.length ≤ p.buffer.length := by
  unfold Port.truncate
  split
  · exact p.discardSlot_length _
  · exact Nat.le_refl _

theorem Port.beginFrame_buffer (p : Port) (now : Word) (region : Option Region) :
    (p.beginFrame now region).buffer = p.truncate.buffer := by
  unfold Port.beginFrame
  dsimp only
  split <;> rfl

theorem Port.offer_length {p : Port} (h : p.buffer.length ≤ Config.bufferLines) (k row : Nat) (d : RowData) :
    (p.offer k row d).buffer.length ≤ Config.bufferLines := by
  unfold Port.offer
  split
  · exact h
  split
  · simp only [List.length_append, List.length_singleton]
    omega
  · exact h

theorem Port.takeLine_length {p : Port} (h : p.buffer.length ≤ Config.bufferLines) (f : Format) (k : Nat)
    (luma u v : List Byte) : (p.takeLine f k luma u v).buffer.length ≤ Config.bufferLines := by
  unfold Port.takeLine
  split
  · exact h
  split
  · exact h
  · exact Port.offer_length (p := { p.modSlot k _ with sums := _ }) h _ _ _

/-- A line buffer never holds more than four lines. -/
theorem Port.Move.buffer {p q : Port} (h : p.Move q) (hp : p.buffer.length ≤ Config.bufferLines) :
    q.buffer.length ≤ Config.bufferLines := by
  have tail : ∀ {p : Port} {l : BufferedLine} {rest : List BufferedLine}, p.buffer = l :: rest →
      p.buffer.length ≤ Config.bufferLines → rest.length ≤ Config.bufferLines := by
    intro p l rest hb h
    rw [hb] at h
    exact Nat.le_of_succ_le h
  induction h with
  | trans _ _ ih1 ih2 => exact ih2 (ih1 hp)
  | beginFrame p now region => rw [Port.beginFrame_buffer]; exact Nat.le_trans p.truncate_length hp
  | takeLine p f k luma u v _ _ => exact Port.takeLine_length hp f k luma u v
  | discardFrame p k counters _ => exact Nat.le_trans (p.discardSlot_length k) hp
  | landedStray p l rest hb _ => exact tail hb hp
  | landed p l rest x hb _ _ _ => exact tail hb hp
  | landedLast p l rest x hb _ _ _ => exact tail hb hp
  | discardWork p => exact Nat.le_trans (p.withdraw_length _) hp
  | stopWork p => exact Nat.le_trans (p.withdraw_length _) hp
  | _ => exact hp

/-! ### The laws over the work of the blocks -/

/-- The arbiter, the mode, the Zoom Controller, the composer and the scripts are as they were. -/
structure State.SameParts (s t : State) : Prop where
  arbiter : t.arbiter = s.arbiter
  mode : t.mode = s.mode
  zoom : t.zoom = s.zoom
  composer : t.composer = s.composer
  scripts : t.relay.scripts = s.relay.scripts

theorem State.SameParts.refl (s : State) : s.SameParts s := ⟨rfl, rfl, rfl, rfl, rfl⟩

theorem State.SameParts.trans {s t u : State} (h : s.SameParts t) (k : t.SameParts u) : s.SameParts u :=
  ⟨k.arbiter.trans h.arbiter, k.mode.trans h.mode, k.zoom.trans h.zoom, k.composer.trans h.composer,
    k.scripts.trans h.scripts⟩

theorem State.Frames.sameParts {s t : State} (h : s.Frames t) : s.SameParts t := by
  induction h with
  | trans _ _ ih1 ih2 => exact ih1.trans ih2
  | _ => exact ⟨rfl, rfl, rfl, rfl, rfl⟩

theorem State.Buses.sameParts {s t : State} (h : s.Buses t) : s.SameParts t := by
  induction h with
  | trans _ _ ih1 ih2 => exact ih1.trans ih2
  | _ => exact ⟨rfl, rfl, rfl, rfl, rfl⟩

theorem State.Work.sameParts {s t : State} (h : s.Work t) : s.SameParts t := by
  induction h with
  | frames h => exact h.sameParts
  | buses h => exact h.sameParts
  | trans _ _ ih1 ih2 => exact ih1.trans ih2
  | _ => exact ⟨rfl, rfl, rfl, rfl, rfl⟩

/-- What holds of every port holds of every port after one of them was replaced. -/
theorem State.forall_port_setPort {s : State} {c : Cam} {p : Port} {q : Cam → Port → Prop} (h : ∀ d, q d (s.port d))
    (hp : q c p) : ∀ d, q d ((s.setPort c p).port d) := by
  intro d
  by_cases hd : d = c
  · rw [hd, State.port_setPort_same]
    exact hp
  · rw [State.port_setPort_ne s p hd]
    exact h d

theorem State.Frames.buffers {s t : State} (h : s.Frames t) (hs : ∀ c, (s.port c).buffer.length ≤ Config.bufferLines) :
    ∀ c, (t.port c).buffer.length ≤ Config.bufferLines := by
  induction h with
  | trans _ _ ih1 ih2 => exact ih2 (ih1 hs)
  | port s c p hp => exact State.forall_port_setPort (q := fun _ p => p.buffer.length ≤ _) hs (hp.buffer (hs c))
  | status s c x m _ _ _ => exact State.forall_port_setPort (q := fun _ p => p.buffer.length ≤ _) hs (hs c)
  | _ => exact hs

theorem State.Work.buffers {s t : State} (h : s.Work t) (hs : ∀ c, (s.port c).buffer.length ≤ Config.bufferLines) :
    ∀ c, (t.port c).buffer.length ≤ Config.bufferLines := by
  induction h with
  | frames h => exact h.buffers hs
  | trans _ _ ih1 ih2 => exact ih2 (ih1 hs)
  | buses h =>
    intro c
    rw [State.port, h.frame.1]
    exact hs c
  | state s c x => exact State.forall_port_setPort (q := fun _ p => p.buffer.length ≤ _) hs (hs c)
  | _ => exact hs

theorem State.Work.capacities {s t : State} (h : s.Work t) (hs : s.Capacities) : t.Capacities := by
  obtain ⟨-, -, hz, hk, hr⟩ := h.sameParts
  exact ⟨h.buffers hs.buffers, by rw [hz]; exact hs.ramp, fun x => by rw [h.sameOpen.passes]; exact hs.passes x,
    by rw [hk]; exact hs.windows, by rw [hr]; exact hs.scripts⟩

theorem State.Quiet.capacities {s t : State} (h : s.Quiet t) (hs : s.Capacities) : t.Capacities := by
  obtain ⟨hb, hr, hp, hw, hc⟩ := hs
  induction h with
  | frames h => exact (State.Work.frames h).capacities ⟨hb, hr, hp, hw, hc⟩
  | autoStart s c _ => exact (State.Work.autoStart s c).capacities ⟨hb, hr, hp, hw, hc⟩
  | trans _ _ ih1 ih2 =>
    obtain ⟨hb', hr', hp', hw', hc'⟩ := ih1 hb hr hp hw hc
    exact ih2 hb' hr' hp' hw' hc'
  | tick s => exact ⟨fun c => by cases c <;> exact hb _, hr, fun x => by cases x <;> exact hp _, hw, hc⟩
  | zoom s z hz => exact ⟨hb, hz hr, hp, hw, hc⟩
  | otg s o _ => exact ⟨hb, hr, hp, hw, hc⟩
  | composer s k hk => exact ⟨hb, hr, hp, hk hw, hc⟩
  | arbiter s a _ _ => exact ⟨hb, hr, hp, hw, hc⟩
  | pins s named => exact ⟨fun c => by cases c <;> exact hb _, hr, hp, hw, hc⟩

theorem State.Quiet.arbiterLaw {s t : State} (h : s.Quiet t) (hs : s.arbiter.Law) : t.arbiter.Law := by
  induction h with
  | frames h => rw [h.sameParts.arbiter]; exact hs
  | autoStart s c _ => rw [(State.Work.autoStart s c).sameParts.arbiter]; exact hs
  | trans _ _ ih1 ih2 => exact ih2 (ih1 hs)
  | arbiter s a ha _ => exact ha hs
  | _ => exact hs

theorem State.Quiet.mode {s t : State} (h : s.Quiet t) : t.mode = s.mode := by
  induction h with
  | frames h => exact h.sameParts.mode
  | autoStart s c _ => exact (State.Work.autoStart s c).sameParts.mode
  | trans _ _ ih1 ih2 => exact ih2.trans ih1
  | _ => rfl

theorem State.Quiet.initialising {s t : State} (h : s.Quiet t) :
    t.arbiter.channel = .initialising ↔ s.arbiter.channel = .initialising := by
  induction h with
  | frames h => rw [h.sameParts.arbiter]
  | autoStart s c _ => rw [(State.Work.autoStart s c).sameParts.arbiter]
  | trans _ _ ih1 ih2 => exact ih2.trans ih1
  | arbiter s a _ ha => exact ha
  | _ => exact Iff.rfl

theorem State.Quiet.channelLaw {s t : State} (h : s.Quiet t) (hs : s.ChannelLaw) : t.ChannelLaw := by
  unfold State.ChannelLaw
  rw [h.mode, h.initialising]
  exact hs

/-! ### Laws that the quiet changes keep -/

/-- What every boundary begins with, whether the output goes on or stops. -/
theorem State.Quiet.beforeBoundary (s : State) : s.Quiet (s.applyShadowed.sendMetadata.frameDone) :=
  ((applyShadowed s).trans (sendMetadata _)).trans (frameDone _)

/-- A ZOOM_TO that is taken leaves at most eight segments (R43, R44). -/
theorem joinQueue_length {queue : List Segment} {mode : RampMode} (g : Segment)
    (hm : mode = .append → queue.length < Config.rampDepth) : (joinQueue queue g mode).length ≤ Config.rampDepth := by
  cases mode with
  | append => simpa [joinQueue] using hm rfl
  | replace => exact Nat.succ_le_succ (Nat.zero_le _)

/-- A law that says nothing of the link, kept by the quiet changes and by what sets the mode, the records, the scripts and
the queued pass-throughs. -/
structure KeptQuietly (Q : State → Prop) : Prop where
  quiet : ∀ {s t : State}, s.Quiet t → Q s → Q t
  link : ∀ {s : State} (l : Link), Q s → Q { s with link := l }
  pending : ∀ {s : State} (q : List Instr), Q s → Q { s with pending := q }
  released : ∀ {s : State}, Q s → Q { s with resetHeld := false }
  pinReset : ∀ {s : State}, Q s → Q s.pinReset
  partReset : ∀ {s : State}, Q s → Q s.partReset
  booted : ∀ {s : State}, s.mode = .booting → Q s →
    Q { s with mode := .config, arbiter := { s.arbiter with channel := .free } }
  begins : ∀ {s : State}, s.mode = .config → Q s → Q { s with mode := .run }
  stops : ∀ {s : State}, s.mode = .run → Q s →
    Q { s with zoom := s.zoom.stopped, composer := .reset, otg := s.otg.halted, mode := .config }
  stopPending : ∀ {s : State} (id : Nat), Q s → Q { s with otg := { s.otg with stopPending := some id } }
  setFormat : ∀ {s : State} (c : Cam) (f : Format), (s.port c).state = .off → Q s → Q (s.setFormat c f)
  removeCamera : ∀ {s : State} (c : Cam), (s.port c).state = .off → Q s → Q (s.removeCamera c)
  withCal : ∀ {s : State} (c : Cam) (k : Cal) (f : Format), (s.port c).format = some f → Q s → Q (s.withCal c k f)
  setScript : ∀ {s : State} (c : Cam) (sel : Selector) (steps : List Step), steps.length ≤ Config.scriptSteps → Q s →
    Q (s.setScript c sel steps)
  passes : ∀ {s : State} (x : Bus) (q : List PassThrough),
    ((s.bus x).passQueue.length ≤ Config.passPlaces → q.length ≤ Config.passPlaces) → Q s →
    Q (s.setBus x { s.bus x with passQueue := q })
  startIn : ∀ {s : State} (c : Cam) (mode : StartMode), (s.port c).configured = true → (s.port c).state = .off →
    Q s → Q (s.startIn c mode)
  stopCamera : ∀ {s : State} (c : Cam), (s.port c).configured = true → (s.port c).state ≠ .off →
    (s.port c).state ≠ .stopping → Q s → Q (s.stopCamera c)
  giveBus : ∀ {s : State} (x : Bus), Q s → Q (s.giveBus x)
  freed : ∀ {s : State} (x : Bus) (o : BusOutcome), Q s → Q (s.freeEngine x o)
  serveScript : ∀ {s : State} (x : Bus) (r : Running) (o : BusOutcome), (s.bus x).running = some r → Q s →
    Q (if r.abort then s.endScript x r.run .aborted r.step .none else s.scriptOutcome x r o)
  endWait : ∀ {s : State} (x : Bus), Q s → Q (s.endWait x)
  endRetry : ∀ {s : State} (x : Bus), Q s → Q (s.endRetry x)

namespace KeptQuietly

variable {Q : State → Prop}

theorem zoom (h : KeptQuietly Q) {s : State} (z : Zoom)
    (hz : s.zoom.queue.length ≤ Config.rampDepth → z.queue.length ≤ Config.rampDepth) (hs : Q s) :
    Q { s with zoom := z } := h.quiet (.zoom s z hz) hs

theorem otg (h : KeptQuietly Q) {s : State} (o : Otg) (ho : o.stopPending = s.otg.stopPending) (hs : Q s) :
    Q { s with otg := o } := h.quiet (.otg s o ho) hs

theorem endTransaction (h : KeptQuietly Q) {s : State} (x : Bus) (o : BusOutcome) (hs : Q s) : Q (s.endTransaction x o) := by
  unfold State.endTransaction
  split
  · exact hs
  rename_i b _
  have hfree : Q (s.freeEngine x o) := h.freed x o hs
  have hserved : Q ((s.freeEngine x o).serveOwner x b o) := by
    unfold State.serveOwner
    split
    · split
      · exact hfree
      · rename_i p rest hq
        refine h.link _ (h.passes x rest (fun hlen => ?_) hfree)
        rw [hq] at hlen
        exact Nat.le_of_succ_le hlen
    · split
      · exact hfree
      · exact h.serveScript x _ o ‹_› hfree
  exact h.giveBus x hserved

theorem boundary (h : KeptQuietly Q) {s : State} (hm : s.mode = .run) (hs : Q s) : Q s.boundary := by
  unfold State.boundary
  split
  · have hq := (State.Quiet.beforeBoundary s).trans (.pins _ fun _ => none)
    exact h.link _ (h.stops (hq.mode.trans hm) (h.quiet hq hs))
  · exact h.quiet (.beginFrame s _) hs

theorem kept (h : KeptQuietly Q) : Kept fun _ => Q where
  pending q hs := h.pending q hs
  tick hs := h.quiet (.tick _) hs
  pinReset hs := h.pinReset hs
  released hs := h.released hs
  bootingEnd {s} hs := by
    unfold State.bootingEnd
    split
    · rename_i hb
      exact h.link _ (h.booted hb.1 hs)
    · exact hs
  read _ _ hs := h.link _ hs
  endRead hs := h.link _ hs
  beginWrite hs := h.link _ hs
  discard _ hs := h.link _ hs
  taken _ hs := h.link _ hs
  reply _ _ _ _ hs := h.link _ hs
  resetPart _ hs := h.partReset (h.link _ (h.link _ hs))
  mask _ hs := h.link _ hs
  outputFormat _ _ hs := h.otg _ rfl hs
  blanking b hs := h.quiet (.setBlanking _ b) hs
  setFormat c f _ ho _ hs := h.setFormat c f ho hs
  removeCamera c _ ho hs := h.removeCamera c ho hs
  withCal c k f hf _ hs := h.withCal c k f hf hs
  handoff _ _ hs := h.zoom _ id hs
  setTable _ _ _ ht ha hs := h.quiet (.setTable _ (arbTableOf_law ht ha)) hs
  setFsync c x hs := h.quiet (.setFsync _ c x) hs
  setScript c sel steps hn hs := h.setScript c sel steps hn hs
  startIn c mode hc ho hs := h.startIn c mode hc ho hs
  stopCamera c hc ho hp hs := h.stopCamera c hc ho hp hs
  clearCounters c hs := h.quiet (.frames <| .clearCounters _ c) hs
  beginOutput {s} f z tag body hm hs := by
    have hz : Q (s.withMaxima f.wo) := h.zoom _ id hs
    have hr : Q { s.withMaxima f.wo with mode := .run } := h.begins hm hz
    have hv : Q { s.withMaxima f.wo with mode := .run, zoom := { (s.withMaxima f.wo).zoom with rest := z } } :=
      h.zoom (s := { s.withMaxima f.wo with mode := .run }) _ id hr
    exact h.quiet (.beginFrame _ _) (h.link _ hv)
  stopOutput {s} tag _ hp hs := by
    unfold State.takeStopOutput
    rw [hp]
    exact h.link _ (h.stopPending _ hs)
  zoomTo _ _ _ hm hs := h.zoom _ (fun _ => joinQueue_length _ hm) hs
  zoomCancel hs := h.zoom _ (fun _ => Nat.zero_le _) hs
  distance _ hs := h.zoom _ id hs
  view _ _ _ _ _ _ hs := h.zoom _ id hs
  queuePass {s} kind tag x t hx hs :=
    h.giveBus x (h.link _ (h.passes x _ (fun _ => by simpa using hx) hs))
  frameStart c hs := h.quiet (.frames <| .frameStart _ c) hs
  linePacket c luma u v hs := h.quiet (.frames <| .linePacket _ c luma u v) hs
  frameEnd c hs := h.quiet (.frames <| .frameEnd _ c) hs
  patternStart c hs := h.quiet (.frames <| .patternStart _ c) hs
  patternTo c g row hs := h.quiet (.frames <| .patternTo _ c g row) hs
  expire c hs := h.quiet (.frames <| .expire _ c) hs
  boundary hm hs := h.boundary hm hs
  blankingLine hs := h.quiet (.blankingLine _) hs
  outputFrameStart hs := h.quiet (.outputFrameStart _) hs
  lineStart hs := h.quiet (.lineStart _) hs
  outputFrameEnd hs := h.quiet (.outputFrameEnd _) hs
  opportunity ho hs := h.quiet (.takeOpportunity _ (State.opportunity_free ho)) hs
  completeTransfer hs := h.quiet (.completeTransfer _) hs
  endTransaction x o hs := h.endTransaction x o hs
  endWait x hs := h.endWait x hs
  endRetry x hs := h.endRetry x hs
  pulseStart c hs := h.quiet (.pulseStart _ c) hs
  pulseEnd c hs := h.quiet (.pulseEnd _ c) hs

end KeptQuietly

/-! ### The three laws -/

theorem State.Capacities.same {s t : State} (h : s.Capacities) (hb : ∀ c, (t.port c).buffer = (s.port c).buffer)
    (hz : t.zoom.queue = s.zoom.queue) (hp : ∀ x, (t.bus x).passQueue = (s.bus x).passQueue)
    (hk : t.composer = s.composer) (hr : t.relay.scripts = s.relay.scripts) : t.Capacities :=
  ⟨fun c => by rw [hb]; exact h.buffers c, by rw [hz]; exact h.ramp, fun x => by rw [hp]; exact h.passes x,
    by rw [hk]; exact h.windows, by rw [hr]; exact h.scripts⟩

/-- A port replaced by one with the same line buffer. -/
theorem State.Capacities.setPort {s : State} (h : s.Capacities) (c : Cam) {p : Port} (hp : p.buffer = (s.port c).buffer) :
    (s.setPort c p).Capacities := by
  refine h.same (fun d => ?_) rfl (fun _ => rfl) rfl rfl
  by_cases hd : d = c
  · rw [hd, State.port_setPort_same, hp]
  · rw [State.port_setPort_ne s p hd]

theorem State.Capacities.setPasses {s : State} (h : s.Capacities) (x : Bus) {b : BusState}
    (hb : b.passQueue.length ≤ Config.passPlaces) : (s.setBus x b).Capacities := by
  refine ⟨h.buffers, h.ramp, fun y => ?_, h.windows, h.scripts⟩
  by_cases hy : y = x
  · rw [hy, State.bus_setBus_same]
    exact hb
  · rw [State.bus_setBus_ne s b hy]
    exact h.passes y

theorem State.Capacities.setScript {s : State} (h : s.Capacities) (c : Cam) (sel : Selector) {steps : List Step}
    (hn : steps.length ≤ Config.scriptSteps) : (s.setScript c sel steps).Capacities := by
  refine ⟨h.buffers, h.ramp, h.passes, h.windows, fun d => ?_⟩
  obtain ⟨hstart, hstop⟩ := h.scripts d
  unfold State.setScript
  dsimp only
  by_cases hd : d = c
  · rw [hd] at hstart hstop ⊢
    rw [Quad.get_set_same]
    cases sel
    · exact ⟨hn, hstop⟩
    · exact ⟨hstart, hn⟩
  · rw [Quad.get_set_ne _ _ hd]
    exact ⟨hstart, hstop⟩

/-- Nothing is held after a reset. -/
theorem State.Capacities.of_reset {s : State} (hp : s.ports = State.reset.ports) (hz : s.zoom = State.reset.zoom)
    (hr : s.relay = State.reset.relay) (hk : s.composer = State.reset.composer) : s.Capacities := by
  refine ⟨fun c => ?_, by rw [hz]; exact Nat.zero_le _, fun x => ?_, by rw [hk]; exact ⟨Nat.zero_le _, Nat.zero_le _⟩, ?_⟩
  · rw [State.port, hp]
    cases c <;> exact Nat.zero_le _
  · rw [State.bus, hr]
    cases x <;> exact Nat.zero_le _
  · rw [hr]
    intro c
    cases c <;> exact ⟨Nat.zero_le _, Nat.zero_le _⟩

theorem State.removeCamera_capacities {s : State} (c : Cam) (h : s.Capacities) : (s.removeCamera c).Capacities := by
  unfold State.removeCamera
  split
  · exact h.setPort c rfl
  · exact h

theorem State.withCal_capacities {s : State} (c : Cam) (k : Cal) (f : Format) (h : s.Capacities) :
    (s.withCal c k f).Capacities := by
  have hp : (s.setPort c { s.port c with cal := some k }).Capacities := h.setPort c rfl
  unfold State.withCal
  dsimp only
  split
  · exact hp.same (fun _ => rfl) rfl (fun _ => rfl) rfl rfl
  · exact hp

/-- What a removal and a calibration leave of the parts the three laws speak of. -/
theorem State.removeCamera_parts (s : State) (c : Cam) : (s.removeCamera c).arbiter = s.arbiter
    ∧ (s.removeCamera c).mode = s.mode := by
  unfold State.removeCamera
  split <;> exact ⟨rfl, rfl⟩

theorem State.withCal_parts (s : State) (c : Cam) (k : Cal) (f : Format) : (s.withCal c k f).arbiter = s.arbiter
    ∧ (s.withCal c k f).mode = s.mode := by
  unfold State.withCal
  dsimp only
  split <;> exact ⟨rfl, rfl⟩

theorem ArbTable.default_law : ArbTable.default.Law :=
  ⟨by decide, by decide, by decide, ArbTable.servesAll_iff.mp (by decide)⟩

theorem Arbiter.Law.channel {a : Arbiter} (h : a.Law) (x : Channel) : ({ a with channel := x } : Arbiter).Law :=
  ⟨h.table, h.pending, h.wheel, h.robin⟩

theorem Arbiter.reset_law : Arbiter.reset.Law :=
  ⟨ArbTable.default_law, fun _ h => (nomatch h), ptrOk_zero _, ptrOk_zero _⟩

theorem State.Work.arbiterLaw {s t : State} (h : s.Work t) (hs : s.arbiter.Law) : t.arbiter.Law :=
  h.sameParts.arbiter ▸ hs

theorem arbiter_keptQuietly : KeptQuietly fun s => s.arbiter.Law where
  quiet hq hs := hq.arbiterLaw hs
  startIn c mode _ _ hs := (State.Work.startIn _ c mode).arbiterLaw hs
  stopCamera c _ _ _ hs := (State.Work.stopCamera _ c).arbiterLaw hs
  giveBus x hs := (State.Work.buses (.giveBus _ x)).arbiterLaw hs
  freed x o hs := (State.Work.buses (.freeEngine _ x o)).arbiterLaw hs
  serveScript x r o _ hs := (State.Work.serveScript _ x r o).arbiterLaw hs
  endWait x hs := (State.Work.endWait _ x).arbiterLaw hs
  endRetry x hs := (State.Work.endRetry _ x).arbiterLaw hs
  link _ hs := hs
  pending _ hs := hs
  released hs := hs
  pinReset _ := Arbiter.reset_law
  partReset _ := Arbiter.reset_law
  booted _ hs := hs.channel .free
  begins _ hs := hs
  stops _ hs := hs
  stopPending _ hs := hs
  setFormat _ _ _ hs := hs
  removeCamera {s} c _ hs := by rw [(s.removeCamera_parts c).1]; exact hs
  withCal {s} c k f _ hs := by rw [(s.withCal_parts c k f).1]; exact hs
  setScript _ _ _ _ hs := hs
  passes _ _ _ hs := hs

/-- The law speaks of the channel and the mode alone. -/
theorem State.ChannelLaw.same {s t : State} (h : s.ChannelLaw) (ha : t.arbiter = s.arbiter) (hm : t.mode = s.mode) :
    t.ChannelLaw := by
  unfold State.ChannelLaw
  rw [ha, hm]
  exact h

theorem State.Work.channelLaw {s t : State} (h : s.Work t) (hs : s.ChannelLaw) : t.ChannelLaw :=
  hs.same h.sameParts.arbiter h.sameParts.mode

/-- The initialisation ends with BOOTING, and nothing else begins or ends it (R162). -/
theorem channel_keptQuietly : KeptQuietly State.ChannelLaw where
  quiet hq hs := hq.channelLaw hs
  startIn c mode _ _ hs := (State.Work.startIn _ c mode).channelLaw hs
  stopCamera c _ _ _ hs := (State.Work.stopCamera _ c).channelLaw hs
  giveBus x hs := (State.Work.buses (.giveBus _ x)).channelLaw hs
  freed x o hs := (State.Work.buses (.freeEngine _ x o)).channelLaw hs
  serveScript x r o _ hs := (State.Work.serveScript _ x r o).channelLaw hs
  endWait x hs := (State.Work.endWait _ x).channelLaw hs
  endRetry x hs := (State.Work.endRetry _ x).channelLaw hs
  link _ hs := hs
  pending _ hs := hs
  released hs := hs
  pinReset _ := iff_of_true rfl rfl
  partReset _ := iff_of_true rfl rfl
  booted _ _ := iff_of_false (by simp) (by simp)
  begins hm hs := iff_of_false (fun hi => by rw [hs.mp hi] at hm; cases hm) (by simp)
  stops hm hs := iff_of_false (fun hi => by rw [hs.mp hi] at hm; cases hm) (by simp)
  stopPending _ hs := hs
  setFormat _ _ _ hs := hs
  removeCamera {s} c _ hs := hs.same (s.removeCamera_parts c).1 (s.removeCamera_parts c).2
  withCal {s} c k f _ hs := hs.same (s.withCal_parts c k f).1 (s.withCal_parts c k f).2
  setScript _ _ _ _ hs := hs
  passes _ _ _ hs := hs

theorem capacities_keptQuietly : KeptQuietly State.Capacities where
  quiet hq hs := hq.capacities hs
  startIn c mode _ _ hs := (State.Work.startIn _ c mode).capacities hs
  stopCamera c _ _ _ hs := (State.Work.stopCamera _ c).capacities hs
  giveBus x hs := (State.Work.buses (.giveBus _ x)).capacities hs
  freed x o hs := (State.Work.buses (.freeEngine _ x o)).capacities hs
  serveScript x r o _ hs := (State.Work.serveScript _ x r o).capacities hs
  endWait x hs := (State.Work.endWait _ x).capacities hs
  endRetry x hs := (State.Work.endRetry _ x).capacities hs
  link _ hs := hs.same (fun _ => rfl) rfl (fun _ => rfl) rfl rfl
  pending _ hs := hs.same (fun _ => rfl) rfl (fun _ => rfl) rfl rfl
  released hs := hs.same (fun _ => rfl) rfl (fun _ => rfl) rfl rfl
  pinReset _ := .of_reset rfl rfl rfl rfl
  partReset _ := .of_reset rfl rfl rfl rfl
  booted _ hs := hs.same (fun _ => rfl) rfl (fun _ => rfl) rfl rfl
  begins _ hs := hs.same (fun _ => rfl) rfl (fun _ => rfl) rfl rfl
  stops _ hs := ⟨hs.buffers, Nat.zero_le _, hs.passes, ⟨Nat.zero_le _, Nat.zero_le _⟩, hs.scripts⟩
  stopPending _ hs := hs.same (fun _ => rfl) rfl (fun _ => rfl) rfl rfl
  setFormat {s} c f _ hs := by
    have hp : (s.setPort c { s.port c with format := some f, ring := freshRing f.slots s.freeSeed }).Capacities :=
      hs.setPort c rfl
    exact hp.same (fun _ => rfl) rfl (fun _ => rfl) rfl rfl
  removeCamera c _ hs := State.removeCamera_capacities c hs
  withCal c k f _ hs := State.withCal_capacities c k f hs
  setScript c sel _ hn hs := hs.setScript c sel hn
  passes x q hq hs := hs.setPasses x (hq (hs.passes x))

end Sys2Proof.Machine
end

section
/-!
PROOF. The queue of commands and the two resets (entry 6, R183, R184): the command at the front is what a step runs, no
command stops the block, and what every block holds after a reset.
-/

namespace Sys2Proof.Machine

/-! ### The queue of commands (entry 6) -/

/-- A step on a queue that is not empty runs the command at its front on the queue's rest. -/
theorem step_of_front {s : State} {i : Instr} {rest : List Instr} (h : s.pending = i :: rest) :
    step s = exec i { s with pending := rest } := by
  unfold step
  rw [h]

/-- A step on an empty queue is the clock's. -/
theorem step_of_empty {s : State} (h : s.pending = []) : step s = idle s := by
  unfold step
  rw [h]

/-- A command that no frame carries has a next state. -/
theorem exec_next_of_not_write {i : Instr} (h : ∀ command data, i ≠ .writeTransaction command data) (s : State) :
    ∃ t, exec i s = .next t := by
  cases i with
  | writeTransaction command data => exact absurd rfl (h command data)
  | _ => exact ⟨_, rfl⟩

/-- A frame's request has a next state. -/
theorem runRequest_next (i : Instr) (s : State) : ∃ t, runRequest i s = .next t := by
  by_cases h : ∃ command data, i = .writeTransaction command data
  · obtain ⟨command, data, rfl⟩ := h
    exact ⟨s, rfl⟩
  · rcases runRequest_cases i s with he | he
    · exact he ▸ exec_next_of_not_write (fun command data hi => h ⟨command, data, hi⟩) s
    · exact ⟨s, he⟩

/-- A judged frame has a next state, whatever it carries. -/
theorem State.judged_next (s : State) (data : List Byte) : ∃ t, s.judged data = .next t := by
  unfold State.judged runFrame
  split
  · exact ⟨_, rfl⟩
  · dsimp only
    split
    · exact ⟨_, rfl⟩
    · exact ⟨_, rfl⟩
    · exact runRequest_next _ s

/-- No command stops the block. -/
theorem exec_next (i : Instr) (s : State) : ∃ t, exec i s = .next t := by
  by_cases h : ∃ command data, i = .writeTransaction command data
  · obtain ⟨command, data, rfl⟩ := h
    show ∃ t, execWriteTransaction command data s = .next t
    unfold execWriteTransaction
    split
    · exact ⟨_, rfl⟩
    · split
      · exact ⟨_, rfl⟩
      · exact State.judged_next _ data
  · exact exec_next_of_not_write (fun command data hi => h ⟨command, data, hi⟩) s

/-- Settles O1: the step on a queue that is not empty, and the one command that is more than its meaning's next state. -/
theorem stepRunsFrontCommand : Obligations.StepRunsFrontCommand :=
  ⟨fun _ _ _ h => step_of_front h, exec_next⟩

/-! ### The resets (R183, R184) -/

@[simp] theorem State.reset_port (c : Cam) : State.reset.port c = .reset := Quad.get_const _ c

@[simp] theorem State.reset_monitor (c : Cam) : State.reset.monitor c = .reset := Quad.get_const _ c

@[simp] theorem State.reset_bus (x : Bus) : State.reset.bus x = .reset := by cases x <;> rfl

/-- A frame-sync line after a reset is at its inactive level. -/
theorem Otg.reset_fsyncLevel (c : Cam) : Otg.reset.fsyncLevel c = false := by cases c <;> rfl

/-- Settles O3: the state PIN_RESET leaves is the reset state, and each block of it is read off. -/
theorem pinResetLeavesResetValues : Obligations.PinResetLeavesResetValues := by
  unfold Obligations.PinResetLeavesResetValues
  intro s
  have camera : ∀ c, (s.pinReset.port c) = .reset := State.reset_port
  have countdown : ∀ c, (s.pinReset.monitor c) = .reset := State.reset_monitor
  have relay : ∀ x, (s.pinReset.bus x) = .reset := State.reset_bus
  refine ⟨s.pinReset, rfl, rfl, rfl, rfl, rfl, rfl, rfl, rfl, rfl, rfl, rfl, rfl, rfl, rfl, ?ports, countdown, rfl, rfl, rfl,
    rfl, rfl, rfl, rfl, rfl, rfl, rfl, ?zoom, rfl, rfl, rfl, rfl, rfl, rfl, rfl, rfl, ?fsync, rfl, rfl, rfl, rfl, rfl, rfl, rfl,
    rfl, rfl, rfl, ?buses, fun c => Quad.get_const _ c⟩
  case ports =>
    intro c
    rw [camera]
    exact ⟨rfl, rfl, rfl, rfl, rfl, rfl, rfl, rfl, rfl, rfl, rfl, rfl, rfl⟩
  case zoom => exact fun c => ⟨Quad.get_const _ c, Quad.get_const _ c, Quad.get_const _ c, Quad.get_const _ c⟩
  case fsync =>
    exact fun c => ⟨Quad.get_const _ c, Quad.get_const _ c, Quad.get_const _ c, Quad.get_const _ c, Otg.reset_fsyncLevel c⟩
  case buses =>
    intro x
    rw [relay]
    exact ⟨rfl, rfl, rfl, rfl, rfl⟩

/-- Settles O9: the open requests are flushed, the request's own reply follows, and all but the link is reset. -/
theorem resetPartFlushesAndKeepsQueue : Obligations.ResetPartFlushesAndKeepsQueue := by
  unfold Obligations.ResetPartFlushesAndKeepsQueue
  intro s tag ha hm
  exact congrArg Host.Outcome.next (State.acceptLive_ok ha hm 0x02 tag _)

end Sys2Proof.Machine
end

section
/-!
PROOF. Notices on their way to the outbound queue (R181, Table 32): where a coalescing and the dropping of a FRAME_DONE
strike, the head frame passed over while it is shifted out, the four outcomes of an enabled notice, and READY at the end
of BOOTING (R183).
-/

namespace Sys2Proof.Machine

/-! ### Where a notice strikes in the queue (R181) -/

/-- No queued notice coalesces with `n`. -/
def Notice.Unmatched (n : Notice) (q : List OutFrame) : Prop := ∀ m k lost, .notice m k lost ∈ q → m.same n = false

/-- No FRAME_DONE is queued. -/
def noFrameDone (q : List OutFrame) : Prop := ∀ frame stamp k lost, .notice (.frameDone frame stamp) k lost ∉ q

theorem Notice.Unmatched.tail {n : Notice} {x : OutFrame} {q : List OutFrame} (h : n.Unmatched (x :: q)) :
    n.Unmatched q := fun m k lost hm => h m k lost (List.mem_cons_of_mem _ hm)

theorem noFrameDone.tail {x : OutFrame} {q : List OutFrame} (h : noFrameDone (x :: q)) : noFrameDone q :=
  fun frame stamp k lost hm => h frame stamp k lost (List.mem_cons_of_mem _ hm)

/-- A frame that is no FRAME_DONE. -/
theorem noFrameDone.head {x : OutFrame} {q : List OutFrame} (h : noFrameDone (x :: q)) : x.isFrameDone = false := by
  unfold OutFrame.isFrameDone
  split
  · exact absurd (List.mem_cons_self ..) (h _ _ _ _)
  · rfl

/-- A frame that does not match is passed by in a coalescing. -/
theorem coalesce_cons {n : Notice} {x : OutFrame} {q : List OutFrame} (lost : Bool) (h : n.Unmatched [x]) :
    coalesce n lost (x :: q) = (coalesce n lost q).map (x :: ·) := by
  cases x with
  | notice m k f => simp [coalesce, h m k f (List.mem_singleton_self _)]
  | reply a b c d => rfl
  | reject a b c => rfl

/-- A notice coalesces into the oldest queued one of its kind and subject. -/
theorem coalesce_of_match {n m : Notice} {k : Nat} {f : Bool} {pre post : List OutFrame} (lost : Bool)
    (hpre : n.Unmatched pre) (hm : m.same n = true) :
    coalesce n lost (pre ++ .notice m k f :: post)
      = some (pre ++ .notice n (min 255 (k + 1)) (f || lost) :: post) := by
  induction pre with
  | nil => simp [coalesce, hm]
  | cons x pre ih =>
    have hx : n.Unmatched [x] := fun m k lost hm => hpre m k lost (by simp at hm; simp [hm])
    rw [List.cons_append, coalesce_cons lost hx, ih hpre.tail]
    rfl

/-- A notice with no match does not coalesce. -/
theorem coalesce_of_unmatched {n : Notice} {q : List OutFrame} (lost : Bool) (h : n.Unmatched q) :
    coalesce n lost q = none := by
  induction q with
  | nil => rfl
  | cons x q ih =>
    have hx : n.Unmatched [x] := fun m k lost hm => h m k lost (by simp at hm; simp [hm])
    rw [coalesce_cons lost hx, ih h.tail]
    rfl

/-- The oldest FRAME_DONE gives its place up. -/
theorem dropFrameDone_of_mem {frame stamp : Word} {k : Nat} {lost : Bool} {pre post : List OutFrame}
    (hpre : noFrameDone pre) :
    dropFrameDone (pre ++ .notice (.frameDone frame stamp) k lost :: post) = some (pre ++ post) := by
  induction pre with
  | nil => rfl
  | cons x pre ih => simp [dropFrameDone, hpre.head, ih hpre.tail]

/-- With none queued no place is given up. -/
theorem dropFrameDone_of_none {q : List OutFrame} (h : noFrameDone q) : dropFrameDone q = none := by
  induction q with
  | nil => rfl
  | cons x q ih => simp [dropFrameDone, h.head, ih h.tail]

/-- An operation on the queue acts behind the frames passed over: the head while it is being shifted out, none otherwise. -/
theorem pastHead_of_split {held : Bool} {q front back : List OutFrame} (hq : q = front ++ back)
    (hf : front.length = if held then min 1 q.length else 0) (f : List OutFrame → Option (List OutFrame)) :
    pastHead held f q = (f back).map (front ++ ·) := by
  subst hq
  cases held with
  | false =>
    obtain rfl := List.length_eq_zero_iff.mp (by simpa using hf)
    cases back <;> simp [pastHead]
  | true =>
    cases front with
    | nil =>
      cases back with
      | nil => simp [pastHead]
      | cons y back => simp at hf
    | cons x front =>
      obtain rfl : front = [] := by simpa using hf
      simp [pastHead]

/-! ### The outcomes of an enabled notice (R181) -/

section Raise

variable {l : Link} {n : Notice} {front back : List OutFrame}

/-- With a notice place free the notice joins the queue. -/
theorem Link.raise_added (hn : l.mask.getLsbD n.bit = true) (hfree : noticeCount l.outbound < 15) :
    l.raise n = { l with outbound := l.outbound ++ [.notice n 1 l.loss], loss := false } := by
  simp [Link.raise, Link.enables, hn, hfree]

/-- With every notice place taken the notice goes by what coalesces and what gives its place up behind the head. -/
theorem Link.raise_crowded (hn : l.mask.getLsbD n.bit = true) (hfull : 15 ≤ noticeCount l.outbound)
    (hq : l.outbound = front ++ back)
    (hf : front.length = if l.reading.holdsHead then min 1 l.outbound.length else 0) :
    l.raise n = match coalesce n l.loss back with
      | some q => { l with outbound := front ++ q, loss := false }
      | none => match dropFrameDone back with
        | some q => { l with outbound := front ++ q ++ [.notice n 1 l.loss], loss := false }
        | none => { l with loss := true } := by
  simp only [Link.raise, Link.enables, hn, Bool.not_true, Bool.false_eq_true, ↓reduceIte,
    show ¬ noticeCount l.outbound < Config.noticePlaces by simpa using hfull, pastHead_of_split hq hf]
  cases coalesce n l.loss back with
  | some q => rfl
  | none => cases dropFrameDone back <;> rfl

/-- A queued notice of its kind and subject takes the notice in. -/
theorem Link.raise_coalesced {m : Notice} {k : Nat} {lost : Bool} {pre post : List OutFrame}
    (hn : l.mask.getLsbD n.bit = true) (hfull : 15 ≤ noticeCount l.outbound) (hq : l.outbound = front ++ back)
    (hf : front.length = if l.reading.holdsHead then min 1 l.outbound.length else 0)
    (hb : back = pre ++ .notice m k lost :: post) (hm : m.same n = true) (hpre : n.Unmatched pre) :
    l.raise n = { l with
      outbound := front ++ (pre ++ .notice n (min 255 (k + 1)) (lost || l.loss) :: post), loss := false } := by
  rw [Link.raise_crowded hn hfull hq hf, hb, coalesce_of_match _ hpre hm]

/-- With none to take it in, the oldest FRAME_DONE gives its place up. -/
theorem Link.raise_replaces {frame stamp : Word} {k : Nat} {lost : Bool} {pre post : List OutFrame}
    (hn : l.mask.getLsbD n.bit = true) (hfull : 15 ≤ noticeCount l.outbound) (hq : l.outbound = front ++ back)
    (hf : front.length = if l.reading.holdsHead then min 1 l.outbound.length else 0)
    (hb : back = pre ++ .notice (.frameDone frame stamp) k lost :: post) (hno : n.Unmatched back)
    (hpre : noFrameDone pre) :
    l.raise n = { l with outbound := front ++ (pre ++ post) ++ [.notice n 1 l.loss], loss := false } := by
  rw [Link.raise_crowded hn hfull hq hf, coalesce_of_unmatched _ hno, hb, dropFrameDone_of_mem hpre]

/-- With nothing to take it in and no place to take, the notice is given up. -/
theorem Link.raise_lost (hn : l.mask.getLsbD n.bit = true) (hfull : 15 ≤ noticeCount l.outbound)
    (hq : l.outbound = front ++ back)
    (hf : front.length = if l.reading.holdsHead then min 1 l.outbound.length else 0) (hno : n.Unmatched back)
    (hnone : noFrameDone back) : l.raise n = { l with loss := true } := by
  rw [Link.raise_crowded hn hfull hq hf, coalesce_of_unmatched _ hno, dropFrameDone_of_none hnone]

end Raise

/-- Settles O11: the table of bits and subjects kind by kind, and the four outcomes. -/
theorem noticeReachesQueue : Obligations.NoticeReachesQueue := by
  unfold Obligations.NoticeReachesQueue
  refine ⟨fun n => by cases n <;> rfl, ?subject, fun l n front back hn hq hf =>
    ⟨fun hfree => Link.raise_added hn hfree,
      fun pre m k lost post hfull hb hm hpre => Link.raise_coalesced hn hfull hq hf hb hm hpre,
      fun pre frame stamp k lost post hfull hb hno hpre => Link.raise_replaces hn hfull hq hf hb hno hpre,
      fun hfull hno hnone => Link.raise_lost hn hfull hq hf hno hnone⟩⟩
  case subject =>
    refine fun m n => ⟨fun h => ?_, ?_⟩
    · cases m <;> cases n <;> simp_all [Notice.same]
    · rintro (⟨x, y, rfl, rfl⟩ | ⟨c, x, y, z, x', y', z', rfl, rfl⟩ | ⟨c, rfl, rfl⟩ |
        ⟨e, x, y, z, x', y', z', rfl, rfl⟩ | ⟨k, x, y, x', y', rfl, rfl⟩ | ⟨x, y, x', y', rfl, rfl⟩ |
        ⟨c, sel, x, y, z, x', y', z', rfl, rfl⟩ | ⟨x, y, x', y', rfl, rfl⟩) <;> simp [Notice.same]

/-! ### READY at the end of BOOTING (R181, R183) -/

/-- Only a READY coalesces with a READY. -/
theorem Notice.same_ready {m : Notice} {cause : BootCause} : m.same (.ready cause) = true ↔ ∃ x, m = .ready x := by
  cases m <;> simp [Notice.same]

/-- A queue without a READY has none to take another one in. -/
theorem Notice.ready_unmatched {cause : BootCause} {q : List OutFrame}
    (h : ∀ x k lost, .notice (.ready x) k lost ∉ q) : (Notice.ready cause).Unmatched q := by
  intro m k lost hm
  by_contra hs
  obtain ⟨x, rfl⟩ := Notice.same_ready.mp (by simpa using hs)
  exact h x k lost hm

/-- BOOTING_END in BOOTING with RESETN released. -/
theorem exec_bootingEnd {s : State} (hm : s.mode = .booting) (hr : s.resetHeld = false) {l : Link}
    (hl : s.link.raise (.ready s.bootCause) = l) :
    exec .bootingEnd s = .next { s with mode := .config, arbiter := { s.arbiter with channel := .free }, link := l } := by
  subst hl
  exact congrArg Host.Outcome.next (if_pos ⟨hm, hr⟩)

/-- BOOTING_END with nothing to end. -/
theorem exec_bootingEnd_idle {s : State} (h : s.mode ≠ .booting ∨ s.resetHeld = true) :
    exec .bootingEnd s = .next s := by
  refine congrArg Host.Outcome.next (if_neg ?_)
  rintro ⟨hm, hr⟩
  rcases h with h | h
  · exact h hm
  · simp [hr] at h

/-- Settles O4: the end of BOOTING raises READY, whose way into the queue is that of every notice. -/
theorem bootingEndsInConfig : Obligations.BootingEndsInConfig := by
  unfold Obligations.BootingEndsInConfig
  refine ⟨fun s => rfl, fun s h => exec_bootingEnd_idle h, fun s front back hm hr hmask hq hf => ?_⟩
  intro ready ends noReady noFrameDone'
  refine ⟨fun hfree => ?added, fun hfull => ⟨fun pre cause k lost post hb hpre => ?coalesced,
    fun pre frame stamp k lost post hb hno hpre => ?replaces, fun hno hnone => ?lost⟩⟩
  case added => exact exec_bootingEnd hm hr (Link.raise_added hmask hfree)
  case coalesced =>
    exact exec_bootingEnd hm hr (Link.raise_coalesced hmask hfull hq hf hb rfl (Notice.ready_unmatched hpre))
  case replaces =>
    exact exec_bootingEnd hm hr (Link.raise_replaces hmask hfull hq hf hb (Notice.ready_unmatched hno) hpre)
  case lost => exact exec_bootingEnd hm hr (Link.raise_lost hmask hfull hq hf (Notice.ready_unmatched hno) hnone)

end Sys2Proof.Machine
end

section
/-!
PROOF. Frames on the wire (R178 to R181, R187, Tables 30 to 33): little-endian fields, the check byte, the bytes of every
frame of the outbound queue, and what a part of a read transaction shifts out.
-/

namespace Sys2Proof.Machine

/-! ### Fields (R187) -/

theorem bytes16_eq (h : Half) : bytes16 h = [BitVec.ofNat 8 h.toNat, BitVec.ofNat 8 (h.toNat / 256)] := by
  simp [bytes16, BitVec.extractLsb', Nat.shiftRight_eq_div_pow]

theorem num16_eq (n : Nat) : num16 n = [BitVec.ofNat 8 n, BitVec.ofNat 8 (n / 256)] := by
  rw [num16, bytes16_eq]
  simp only [BitVec.toNat_ofNat, List.cons.injEq, and_true]
  constructor <;> apply BitVec.eq_of_toNat_eq <;> simp; omega

theorem bytes32_eq (w : Word) : bytes32 w = [BitVec.ofNat 8 w.toNat, BitVec.ofNat 8 (w.toNat / 256),
    BitVec.ofNat 8 (w.toNat / 65536), BitVec.ofNat 8 (w.toNat / 16777216)] := by
  simp [bytes32, BitVec.extractLsb', Nat.shiftRight_eq_div_pow]

/-! ### The check byte (Table 33) -/

theorem foldl_add_eq (bs : List Byte) (a : Byte) : bs.foldl (· + ·) a = a + sumBytes bs := by
  induction bs generalizing a with
  | nil => simp [sumBytes]
  | cons b bs ih => rw [sumBytes, List.foldl_cons, List.foldl_cons, ih, ih (0 + b)]; ring

@[simp] theorem sumBytes_nil : sumBytes [] = 0 := rfl

@[simp] theorem sumBytes_cons (b : Byte) (bs : List Byte) : sumBytes (b :: bs) = b + sumBytes bs := by
  rw [sumBytes, List.foldl_cons, foldl_add_eq]; ring

@[simp] theorem sumBytes_append (as bs : List Byte) : sumBytes (as ++ bs) = sumBytes as + sumBytes bs := by
  induction as with
  | nil => simp
  | cons a as ih => simp [ih]; ring

/-- The sum of bytes is that of their values, modulo 256. -/
theorem sumBytes_toNat (bs : List Byte) : (sumBytes bs).toNat = (bs.map BitVec.toNat).sum % 256 := by
  induction bs with
  | nil => rfl
  | cons b bs ih => simp [BitVec.toNat_add, ih]

/-- The bytes of a frame from kind through check sum to 0. -/
theorem sumBytes_frame (kind tag : Byte) (body : List Byte) :
    sumBytes (kind :: tag :: byteOf body.length :: (body ++ [checkByte kind tag body])) = 0 := by
  simp [checkByte]

/-- A frame to the processor as Table 33 lays it out, with its check byte. -/
theorem frameBytes_framed (kind tag : Byte) (body : List Byte) : ∃ check : Byte,
    frameBytes 0x3C kind tag body = 0x3C :: kind :: tag :: BitVec.ofNat 8 body.length :: (body ++ [check])
      ∧ (((frameBytes 0x3C kind tag body).drop 1).map BitVec.toNat).sum % 256 = 0 := by
  refine ⟨checkByte kind tag body, rfl, ?_⟩
  rw [← sumBytes_toNat]
  exact congrArg BitVec.toNat (sumBytes_frame kind tag body)

/-! ### Reads (R178, R180, R181) -/

/-- The head frame leaves the queue, with its place or the holder. -/
theorem Link.removeHead_eq {l : Link} {x : OutFrame} {rest : List OutFrame} (h : l.outbound = x :: rest) :
    l.removeHead = { l with outbound := rest, claims := if x.isReply then l.claims - 1 else l.claims
                            holder := if x.isReject then false else l.holder } := by
  obtain ⟨outbound, claims, opened, nextId, holder, mask, loss, reading, spiOut⟩ := l
  subst h
  cases x <;> rfl

/-- An empty queue gives 0x00. -/
theorem Link.shift_empty {l : Link} (h : l.outbound = []) (k n : Nat) :
    l.shift k n = { l with reading := .drained, spiOut := List.replicate n 0 } := by
  simp [Link.shift, h]

/-- The frame's last byte is shifted: it leaves the queue, and 0x00 follows. -/
theorem Link.shift_last {l : Link} {x : OutFrame} {rest : List OutFrame} {k n : Nat} (h : l.outbound = x :: rest)
    (hk : x.bytes.length ≤ k + n) :
    l.shift k n = { l.removeHead with
      reading := .drained, spiOut := x.bytes.drop k ++ List.replicate (n - (x.bytes.length - k)) 0 } := by
  have hall : (x.bytes.drop k).take n = x.bytes.drop k := List.take_of_length_le (by simp; omega)
  simp [Link.shift, h, hk, hall]

/-- Bytes of the frame are left: it stays the head. -/
theorem Link.shift_part {l : Link} {x : OutFrame} {rest : List OutFrame} {k n : Nat} (h : l.outbound = x :: rest)
    (hk : k + n < x.bytes.length) :
    l.shift k n = { l with reading := .shifting (k + n), spiOut := (x.bytes.drop k).take n } := by
  have hlen : ((x.bytes.drop k).take n).length = n := by simp; omega
  simp only [Link.shift, h, show ¬ x.bytes.length ≤ k + n by omega, ↓reduceIte, hlen, Nat.sub_self, List.replicate_zero,
    List.append_nil]

/-- From where the transaction stands, bytes of the head frame are shifted. -/
theorem Link.readBytes_shift {l : Link} {n k : Nat} (hn : 0 < n)
    (h : l.reading = .idle ∧ k = 0 ∨ l.reading = .begun ∧ k = 0 ∨ l.reading = .shifting k) :
    l.readBytes n = l.shift k n := by
  rcases h with ⟨h, rfl⟩ | ⟨h, rfl⟩ | h <;> simp [Link.readBytes, hn.ne', h]

/-- A part of a read while RESETN is released. -/
theorem exec_readTransaction {s : State} (h : s.resetHeld = false) (n : Nat) (ends : Bool) :
    exec (.readTransaction n ends) s = .next { s with link := s.link.read n ends } :=
  congrArg Host.Outcome.next (if_neg (by simp [h]))

/-- A part of a read that shifts bytes leaves the transaction where they leave it, unless it ends. -/
theorem exec_read_of_bytes {s : State} {n : Nat} {ends : Bool} {l : Link} (h : s.resetHeld = false)
    (hl : s.link.readBytes n = l) :
    exec (.readTransaction n ends) s =
      .next { s with link := { l with reading := if ends then .idle else l.reading } } := by
  rw [exec_readTransaction h, Link.read, hl]
  cases ends <;> rfl

/-- Settles O5: the bytes of each kind of frame, and each place where a transaction can stand. -/
theorem readShiftsHeadFrame : Obligations.ReadShiftsHeadFrame := by
  unfold Obligations.ReadShiftsHeadFrame
  refine ⟨?bytes, ?held, ?none, ?drained, fun s n k ends hr hn hk => ⟨?empty, ?last, ?part⟩⟩
  case bytes =>
    intro framed le16 le32 bit cam noCam state reason event
    have hcam : ∀ c, camByte c = cam c := fun c => by cases c <;> rfl
    have hstate : ∀ x, CamState.code x = state x := fun x => by cases x <;> rfl
    have hreason : ∀ x, Reason.code x = reason x := fun x => by cases x <;> rfl
    have hevent : ∀ x, HandoffEvent.code x = event x := fun x => by cases x <;> rfl
    have hno : ∀ o, camOrNone o = noCam o := fun o => by cases o with | none => rfl | some c => exact hcam c
    refine ⟨fun kind tag status body => ?reply, fun why count multiple => ?reject, fun n count lost => ?notice⟩
    case reply => cases status <;> exact frameBytes_framed _ tag _
    case reject => cases why <;> exact frameBytes_framed _ 0 _
    case notice =>
      have framedFields : framed (.notice n count lost) n.kind 0 (bit lost :: BitVec.ofNat 8 count :: n.fields) :=
        frameBytes_framed _ 0 _
      cases n with
      | ready cause => cases cause <;> exact framedFields
      | cameraState c old new why =>
        simp only [Notice.fields, hcam, hstate, hreason] at framedFields
        exact framedFields
      | prepareNeeded c =>
        simp only [Notice.fields, hcam] at framedFields
        exact framedFields
      | handoff e source goal frame =>
        simp only [Notice.fields, hno, hevent, bytes32_eq] at framedFields
        exact framedFields
      | zoomLimit k value frame =>
        simp only [Notice.fields, num16_eq, bytes32_eq] at framedFields
        cases k <;> exact framedFields
      | underrun frame lines =>
        simp only [Notice.fields, num16_eq, bytes32_eq] at framedFields
        exact framedFields
      | scriptDone c selector result step cause =>
        simp only [Notice.fields, hcam] at framedFields
        cases selector <;> cases result <;> cases cause <;> exact framedFields
      | frameDone frame stamp =>
        simp only [Notice.fields, bytes32_eq] at framedFields
        exact framedFields
  case held => exact fun s n ends hr => congrArg Host.Outcome.next (if_pos hr)
  case none =>
    intro s ends hr
    rw [exec_read_of_bytes hr rfl]
    cases hreading : s.link.reading <;> simp [Link.readBytes, hreading]
  case drained =>
    intro s n ends hr hn hd
    rw [exec_read_of_bytes hr rfl]
    simp [Link.readBytes, hn.ne', hd]
  case empty =>
    intro hq
    rw [exec_read_of_bytes hr ((Link.readBytes_shift hn hk).trans (Link.shift_empty hq k n))]
  case last =>
    intro x rest hq hlast
    rw [exec_read_of_bytes hr ((Link.readBytes_shift hn hk).trans (Link.shift_last hq hlast)), Link.removeHead_eq hq]
  case part =>
    intro x rest hq hpart
    rw [exec_read_of_bytes hr ((Link.readBytes_shift hn hk).trans (Link.shift_part hq hpart))]

end Sys2Proof.Machine
end

section
/-!
PROOF. Inbound frames (R178 to R180, R183, R187, Tables 31 and 33): fields read back, a request parsed from its own frame,
the modes that take a request, and what the judgement makes of any frame.
-/

namespace Sys2Proof.Machine

/-! ### Fields read back (R187) -/

@[simp] theorem le16_extract (h : Half) : le16 (h.extractLsb' 0 8) (h.extractLsb' 8 8) = h := by
  apply BitVec.eq_of_toNat_eq
  have := h.isLt
  simp only [le16, BitVec.toNat_append, BitVec.extractLsb'_toNat, Nat.shiftRight_eq_div_pow, Nat.reducePow, Nat.div_one]
  rw [Nat.shiftLeft_eq, ← Nat.shiftLeft_eq, ← Nat.shiftLeft_add_eq_or_of_lt (by omega), Nat.shiftLeft_eq]
  omega

@[simp] theorem le32_extract (w : Word) :
    le32 (w.extractLsb' 0 8) (w.extractLsb' 8 8) (w.extractLsb' 16 8) (w.extractLsb' 24 8) = w := by
  apply BitVec.eq_of_getLsbD_eq
  intro i hi
  simp only [le32, BitVec.getLsbD_append, BitVec.getLsbD_extractLsb']
  by_cases h8 : i < 8
  · simp [h8]
  · by_cases h16 : i - 8 < 8
    · simp [h8, h16, show 8 + (i - 8) = i by omega]
    · by_cases h24 : i - 8 - 8 < 8
      · simp [h8, h16, h24, show 16 + (i - 8 - 8) = i by omega]
      · simp [h8, h16, h24, show i - 8 - 8 - 8 < 8 by omega, show 24 + (i - 8 - 8 - 8) = i by omega]

/-- The steps of a script read back. -/
@[simp] theorem parseSteps_flatMap (steps : List RawStep) : parseSteps (steps.flatMap RawStep.bytes) = steps := by
  induction steps with
  | nil => rfl
  | cons r rest ih => simp [RawStep.bytes, bytes16, parseSteps, ih]

theorem length_flatMap_bytes (steps : List RawStep) : (steps.flatMap RawStep.bytes).length = 8 * steps.length := by
  induction steps with
  | nil => rfl
  | cons r rest ih => simp [RawStep.bytes, bytes16, ih]; omega

/-! ### A request and its frame (Table 31) -/

/-- The body of a request fits a frame, and gives the request back. -/
theorem parseRequest_encode {i : Instr} {kind tag : Byte} {body : List Byte} (hw : i.wf = true)
    (he : encodeRequest i = some (kind, tag, body)) (hk : isRequestKind kind = true) :
    body.length ≤ 248 ∧ parseRequest kind tag body = .request i := by
  cases i <;> simp only [encodeRequest, Option.some.injEq, Prod.mk.injEq, reduceCtorEq] at he <;>
    obtain ⟨rfl, rfl, rfl⟩ := he
  case unknownKind => simp [Instr.wf, hk] at hw
  case setArbiter b =>
    obtain ⟨hwheel, hprio, hrobin⟩ : b.wheel.length = 32 ∧ b.priority.length = 6 ∧ b.robin.length = 6 := by
      simpa [Instr.wf, ArbiterBody.wf] using hw
    have hnil : b.wheel.drop 38 = [] := List.drop_eq_nil_of_le (by omega)
    simp [parseRequest, parseSetArbiter, hwheel, hprio, hrobin, List.drop_append, hnil]
  case loadScript steps =>
    have hlen : 3 + 8 * steps.length ≤ 248 := by simpa [Instr.wf] using hw
    have hbyte : (byteOf steps.length).toNat = steps.length := by simp [byteOf]; omega
    have hbody := length_flatMap_bytes steps
    refine ⟨by simp only [List.length_cons, hbody]; omega, by simp [parseRequest, parseLoadScript, hbyte, hbody]⟩
  case setCameraFormat n =>
    have hn : n ≠ 0 := by simpa [Instr.wf] using hw
    simpa [parseRequest, parseSetCameraFormat, bytes16] using hn
  case startCamera m =>
    have hm : m ≠ 1 := by simpa [Instr.wf] using hw
    simpa [parseRequest, parseStartCamera] using hm
  case zoomToAppend m =>
    have hm : m ≠ 1 := by simpa [Instr.wf] using hw
    simpa [parseRequest, parseZoomTo, bytes16] using hm
  all_goals
    simp [parseRequest, parseEmpty, parseOne, parseTwo, parseSetOutputFormat, parseSetOutputBlanking,
      parseSetCameraFormat, parseSetCameraCal, parseSetHandoff, parseSetFsync, parseStartCamera, parseStartOutput,
      parseZoomTo, parseSetDistance, parseSetView, parseSensorRead, parseSensorWrite, bytes16, bytes32]

/-- The modes that take a request: every mode HELLO, CONFIG or RUN alone the seven of Table 31, both of them the others. -/
theorem request_modes {i : Instr} {kind tag : Byte} {body : List Byte} (hw : i.wf = true)
    (he : encodeRequest i = some (kind, tag, body)) (hk : isRequestKind kind = true) :
    (∃ f, kind = 0x01 ∧ ∀ s, exec i s = .next (s.accept f)) ∨
    (∃ f, (kind = 0x03 ∨ kind = 0x05 ∨ kind = 0x0E) ∧ ∀ s, exec i s = .next (s.acceptIn .config kind tag f)) ∨
    (∃ f, (kind = 0x0F ∨ kind = 0x10 ∨ kind = 0x11 ∨ kind = 0x13) ∧ ∀ s, exec i s = .next (s.acceptIn .run kind tag f)) ∨
    (∃ f, kind ∉ [0x01, 0x03, 0x05, 0x0E, 0x0F, 0x10, 0x11, 0x13] ∧ ∀ s, exec i s = .next (s.acceptLive kind tag f)) := by
  cases i <;> simp only [encodeRequest, Option.some.injEq, Prod.mk.injEq, reduceCtorEq] at he <;>
    obtain ⟨rfl, rfl, rfl⟩ := he
  case unknownKind => simp [Instr.wf, hk] at hw
  case hello => exact .inl ⟨_, rfl, fun _ => rfl⟩
  case setOutputFormat | setCameraFormat | removeCamera | startOutput =>
    exact .inr (.inl ⟨_, by decide, fun _ => rfl⟩)
  case stopOutput | zoomToAppend | zoomToReplace | zoomCancel | setView =>
    exact .inr (.inr (.inl ⟨_, by decide, fun _ => rfl⟩))
  all_goals exact .inr (.inr (.inr ⟨_, by decide, fun _ => rfl⟩))

/-- A request is accepted before it is handled, whatever the mode. -/
theorem request_accepts {i : Instr} {kind tag : Byte} {body : List Byte} (hw : i.wf = true)
    (he : encodeRequest i = some (kind, tag, body)) (hk : isRequestKind kind = true) :
    ∃ f, ∀ s, exec i s = .next (s.accept f) := by
  rcases request_modes hw he hk with ⟨f, -, h⟩ | ⟨f, -, h⟩ | ⟨f, -, h⟩ | ⟨f, -, h⟩
  · exact ⟨f, h⟩
  all_goals exact ⟨_, h⟩

/-- A request's command runs in a frame as it does alone. -/
theorem runRequest_encoded {i : Instr} {kind tag : Byte} {body : List Byte}
    (he : encodeRequest i = some (kind, tag, body)) (hu : ∀ tag kind, i ≠ .unknownKind tag kind) (s : State) :
    runRequest i s = exec i s := by
  cases i
  case unknownKind tag kind => exact absurd rfl (hu tag kind)
  all_goals first | rfl | cases he

/-- The end of a read before the acceptance is what the acceptance does first. -/
theorem State.accept_beginWrite {s : State} (h : s.resetHeld = false) (f : State → State) :
    s.beginWrite.accept f = s.accept f := by
  have hb : s.beginWrite.resetHeld = false := h
  simp only [State.accept, h, hb]
  rfl

/-! ### The judgement (R178, R179) -/

/-- A frame with its check byte passes the judgement, whatever follows it, and gives its parts back. -/
theorem judgeFrame_frame (kind tag : Byte) {body : List Byte} (rest : List Byte) (h : body.length ≤ 248) :
    judgeFrame (frameBytes 0xC3 kind tag body ++ rest) = none
      ∧ frameParts (frameBytes 0xC3 kind tag body ++ rest) = (kind, tag, body) := by
  have hlen : (byteOf body.length).toNat = body.length := by simp [byteOf]; omega
  have htake : ((kind :: tag :: byteOf body.length :: (body ++ [checkByte kind tag body])) ++ rest).take
      (body.length + 4) = kind :: tag :: byteOf body.length :: (body ++ [checkByte kind tag body]) :=
    List.take_left' (by simp)
  constructor
  · simp only [frameBytes, List.cons_append, judgeFrame, bne_self_eq_false, Bool.false_eq_true, ↓reduceIte, hlen]
    simp only [List.cons_append] at htake
    rw [if_neg (by simpa using h), if_neg (by simp), if_neg (by rw [htake, sumBytes_frame]; simp)]
  · simp [frameBytes, frameParts, hlen]

/-- A write transaction that carries a frame. -/
theorem exec_write {s : State} (h : s.resetHeld = false) {b : Byte} {data : List Byte} :
    exec (.writeTransaction 0x01 (b :: data)) s = s.beginWrite.judged (b :: data) := by
  show execWriteTransaction 0x01 (b :: data) s = _
  simp [execWriteTransaction, h]

/-- The write transaction of a whole frame is what is made of its kind, tag and body. -/
theorem exec_write_frame {s : State} (h : s.resetHeld = false) (kind tag : Byte) {body : List Byte} (rest : List Byte)
    (hb : body.length ≤ 248) :
    exec (.writeTransaction 0x01 (frameBytes 0xC3 kind tag body ++ rest)) s = runFrame kind tag body s.beginWrite := by
  obtain ⟨hjudge, hparts⟩ := judgeFrame_frame kind tag rest hb
  have hw : exec (.writeTransaction 0x01 (frameBytes 0xC3 kind tag body ++ rest)) s =
      s.beginWrite.judged (frameBytes 0xC3 kind tag body ++ rest) := exec_write h
  rw [hw]
  simp only [State.judged, hjudge, hparts]

/-- A request of an unknown kind. -/
theorem parseRequest_unknown {kind : Byte} (h : kind.toNat = 0 ∨ 0x19 < kind.toNat) (tag : Byte) (body : List Byte) :
    parseRequest kind tag body = .badKind := by
  unfold parseRequest
  split
  case h_26 => rfl
  all_goals omega

/-- Settles O7: the frame passes the judgement, gives the request back, and the acceptance ends the read before it. -/
theorem requestFrameRunsRequest : Obligations.RequestFrameRunsRequest := by
  unfold Obligations.RequestFrameRunsRequest
  intro i s f junk hw hf hr
  obtain ⟨⟨kind, tag, body⟩, he, rfl⟩ := Option.map_eq_some_iff.mp hf
  by_cases hu : ∃ tag kind, i = .unknownKind tag kind
  · obtain ⟨tag', kind', rfl⟩ := hu
    obtain ⟨rfl, rfl, rfl⟩ : kind' = kind ∧ tag' = tag ∧ [] = body := by simpa [encodeRequest] using he
    have hk : isRequestKind kind' = false := by simpa [Instr.wf] using hw
    have hout : kind'.toNat = 0 ∨ 0x19 < kind'.toNat := by
      simp [isRequestKind] at hk
      omega
    rw [exec_write_frame hr _ _ _ (by simp), runFrame, parseRequest_unknown hout]
    show _ = execUnknownKind tag' kind' s
    simp [execUnknownKind, hk, State.accept_beginWrite hr]
  · have hk : isRequestKind kind = true := by
      cases i <;> simp only [encodeRequest, Option.some.injEq, Prod.mk.injEq, reduceCtorEq] at he <;>
        obtain ⟨rfl, rfl, rfl⟩ := he
      case unknownKind tag kind => exact absurd ⟨tag, kind, rfl⟩ hu
      all_goals rfl
    obtain ⟨hlen, hparse⟩ := parseRequest_encode hw he hk
    obtain ⟨f, hf⟩ := request_accepts hw he hk
    rw [exec_write_frame hr _ _ _ hlen, runFrame, hparse]
    show runRequest i s.beginWrite = exec i s
    rw [runRequest_encoded he (fun tag kind hi => hu ⟨tag, kind, hi⟩), hf, hf, State.accept_beginWrite hr]

/-! ### Frames that are discarded (R179) -/

/-- A request that a frame carries is accepted before it is handled. -/
theorem runRequest_accepts {kind tag : Byte} {body : List Byte} {i : Instr} (h : parseRequest kind tag body = .request i) :
    ∃ f, ∀ s, runRequest i s = .next (s.accept f) := by
  unfold parseRequest at h
  split at h
  case h_26 => cases h
  all_goals
    simp only [parseEmpty, parseOne, parseTwo, parseSetOutputFormat, parseSetOutputBlanking, parseSetCameraFormat,
      parseSetCameraCal, parseSetHandoff, parseSetArbiter, parseSetFsync, parseLoadScript, parseStartCamera,
      parseStartOutput, parseZoomTo, parseSetDistance, parseSetView, parseSensorRead, parseSensorWrite] at h
    repeat' split at h
    all_goals cases h
    all_goals exact ⟨_, fun _ => rfl⟩

/-- What a judged frame carries is accepted before it is handled. -/
theorem runFrame_accepts (kind tag : Byte) (body : List Byte) : ∃ f, ∀ s, runFrame kind tag body s = .next (s.accept f) := by
  unfold runFrame
  cases h : parseRequest kind tag body with
  | badKind => exact ⟨_, fun _ => rfl⟩
  | badLength => exact ⟨_, fun _ => rfl⟩
  | request i => exact runRequest_accepts h

/-- A discarded frame reports to the reject holder and changes nothing else. -/
theorem Link.discard_eq (l : Link) (reason : RejectReason) : l.discard reason =
    { l with holder := true, outbound := if l.holder then l.outbound.map (againRejected reason)
      else l.outbound ++ [.reject reason 1 false] } := by
  unfold Link.discard
  by_cases h : l.holder = true
  · obtain ⟨outbound, claims, opened, nextId, holder, mask, loss, reading, spiOut⟩ := l
    subst h
    rfl
  · simp [h]

/-- A frame the judgement refuses. -/
theorem exec_write_refused {s : State} (h : s.resetHeld = false) {b : Byte} {data : List Byte} {reason : RejectReason}
    (hj : judgeFrame (b :: data) = some reason) :
    exec (.writeTransaction 0x01 (b :: data)) s = .next { s with link := s.link.beginWrite.discard reason } := by
  rw [exec_write h, State.judged, hj]
  rfl

/-- A frame that passes the judgement and finds every reply place claimed. -/
theorem exec_write_full {s : State} (h : s.resetHeld = false) {b : Byte} {data : List Byte}
    (hj : judgeFrame (b :: data) = none) (hc : 8 ≤ s.link.claims) :
    exec (.writeTransaction 0x01 (b :: data)) s = .next { s with link := s.link.beginWrite.discard .full } := by
  obtain ⟨f, hf⟩ := runFrame_accepts (frameParts (b :: data)).1 (frameParts (b :: data)).2.1 (frameParts (b :: data)).2.2
  rw [exec_write h, State.judged, hj]
  show runFrame _ _ _ s.beginWrite = _
  rw [hf, State.accept_beginWrite h, State.accept_full h hc]

section Judge

variable {kind tag len : Byte} {rest : List Byte}

theorem judgeFrame_marker {b : Byte} (h : b ≠ 0xC3) : judgeFrame (b :: rest) = some .marker := by
  simp only [judgeFrame]
  exact if_pos (bne_iff_ne.mpr h)

theorem judgeFrame_short (h : (0xC3 :: rest).length < 4) : judgeFrame (0xC3 :: rest) = some .length := by
  match rest, h with
  | [], _ => rfl
  | [_], _ => rfl
  | [_, _], _ => rfl
  | _ :: _ :: _ :: _, h => simp at h; omega

theorem judgeFrame_length (h : 248 < len.toNat ∨ (0xC3 :: kind :: tag :: len :: rest).length < len.toNat + 5) :
    judgeFrame (0xC3 :: kind :: tag :: len :: rest) = some .length := by
  simp only [judgeFrame, bne_self_eq_false, Bool.false_eq_true, ↓reduceIte]
  by_cases h248 : 248 < len.toNat
  · rw [if_pos h248]
  · rw [if_neg h248, if_pos (h.resolve_left h248)]

theorem judgeFrame_sum (h248 : len.toNat ≤ 248) (hlen : len.toNat + 5 ≤ (0xC3 :: kind :: tag :: len :: rest).length) :
    judgeFrame (0xC3 :: kind :: tag :: len :: rest) =
      if sumBytes ((kind :: tag :: len :: rest).take (len.toNat + 4)) ≠ 0 then some .check else none := by
  simp only [judgeFrame, bne_self_eq_false, Bool.false_eq_true, ↓reduceIte]
  rw [if_neg (Nat.not_lt.mpr h248), if_neg (Nat.not_lt.mpr hlen)]
  simp

end Judge

/-- Settles O6: the first failing test of each frame, and the report it leaves in the holder. -/
theorem discardedFrameReported : Obligations.DiscardedFrameReported := by
  unfold Obligations.DiscardedFrameReported
  refine ⟨fun _ _ _ _ => rfl, fun l k h => by simp [Link.spiByte, h], fun s data reason hr hwhy => ?_⟩
  suffices h : exec (.writeTransaction 0x01 data) s = .next { s with link := s.link.beginWrite.discard reason } by
    rw [h, Link.discard_eq]
    rfl
  rcases hwhy with ⟨rfl, b, rest, rfl, hb⟩ | ⟨rfl, rest, rfl, hshort⟩ | ⟨kind, tag, len, rest, rfl, hwhy⟩
  · exact exec_write_refused hr (judgeFrame_marker hb)
  · exact exec_write_refused hr (judgeFrame_short hshort)
  · rcases hwhy with ⟨rfl, hlen⟩ | ⟨rfl, h248, hlen, hsum⟩ | ⟨rfl, h248, hlen, hsum, hc⟩
    · exact exec_write_refused hr (judgeFrame_length hlen)
    · exact exec_write_refused hr ((judgeFrame_sum h248 hlen).trans (if_pos hsum))
    · exact exec_write_full hr ((judgeFrame_sum h248 hlen).trans (if_neg (not_not_intro hsum))) hc

end Sys2Proof.Machine
end

section
/-!
PROOF. Requests refused before they are looked at (R180, R183): by their mode, by their kind, and by the length of their
body (Table 31).
-/

namespace Sys2Proof.Machine

/-- The length of the body of each kind but LOAD_SCRIPT (Table 31). -/
def bodyLengths : List Nat := [0, 0, 12, 4, 6, 27, 9, 47, 9, 1, 3, 2, 1, 2, 0, 5, 0, 2, 5, 6, 10, 1, 1, 2, 1]

/-- The body has the length of its kind (R180, Table 31). -/
def bodyFits (kind : Byte) (body : List Byte) : Prop :=
  if kind = 0x0B then ∃ n, body[2]? = some n ∧ body.length = 3 + 8 * n.toNat
  else bodyLengths[kind.toNat - 1]? = some body.length

/-- A kind of Table 31 is known. -/
theorem parseRequest_ne_badKind {kind : Byte} (h1 : 1 ≤ kind.toNat) (h2 : kind.toNat ≤ 0x19) (tag : Byte)
    (body : List Byte) : parseRequest kind tag body ≠ .badKind := by
  unfold parseRequest
  split
  case h_26 => exact absurd h2 (by have := kind.isLt; simp_all; omega)
  all_goals
    simp only [parseEmpty, parseOne, parseTwo, parseSetOutputFormat, parseSetOutputBlanking, parseSetCameraFormat,
      parseSetCameraCal, parseSetHandoff, parseSetArbiter, parseSetFsync, parseLoadScript, parseStartCamera,
      parseStartOutput, parseZoomTo, parseSetDistance, parseSetView, parseSensorRead, parseSensorWrite]
    repeat' split
    all_goals nofun

/-- A request that is parsed had the length of its kind. -/
theorem bodyFits_of_request {kind tag : Byte} {body : List Byte} {i : Instr}
    (h : parseRequest kind tag body = .request i) : bodyFits kind body := by
  unfold parseRequest at h
  split at h
  case h_26 => cases h
  case h_11 hk =>
    obtain rfl : kind = 0x0B := BitVec.eq_of_toNat_eq hk
    unfold parseLoadScript at h
    repeat' split at h
    all_goals cases h
    exact ⟨_, rfl, by simp_all; omega⟩
  all_goals
    rename_i hk
    have hne : kind ≠ 0x0B := by
      rintro rfl
      simp at hk
    simp only [bodyFits, hne, ↓reduceIte, hk]
    simp only [parseEmpty, parseOne, parseTwo, parseSetOutputFormat, parseSetOutputBlanking, parseSetCameraFormat,
      parseSetCameraCal, parseSetHandoff, parseSetArbiter, parseSetFsync, parseStartCamera, parseStartOutput, parseZoomTo,
      parseSetDistance, parseSetView, parseSensorRead, parseSensorWrite] at h
    repeat' split at h
    all_goals cases h
    all_goals simp_all [bodyLengths]

/-- A known kind with a body of another length. -/
theorem parseRequest_badLength {kind : Byte} (h1 : 1 ≤ kind.toNat) (h2 : kind.toNat ≤ 0x19) {body : List Byte}
    (hf : ¬ bodyFits kind body) (tag : Byte) : parseRequest kind tag body = .badLength := by
  cases h : parseRequest kind tag body with
  | badKind => exact absurd h (parseRequest_ne_badKind h1 h2 tag body)
  | badLength => rfl
  | request i => exact absurd (bodyFits_of_request h) hf

/-- The frame of a request that is answered whatever it asks. -/
theorem exec_write_answered {s : State} (ha : s.canAccept) {kind tag : Byte} {body : List Byte} (rest : List Byte)
    (hb : body.length ≤ 248) {status : Status} {fields : List Byte}
    (h : ∀ t : State, runFrame kind tag body t = .next (t.accept fun u => u.reply kind tag status fields)) :
    exec (.writeTransaction 1 (frameBytes 0xC3 kind tag body ++ rest)) s =
      .next (s.answered kind tag status fields) := by
  rw [show (1 : Byte) = 0x01 from rfl, exec_write_frame ha.1 _ _ _ hb, h, State.accept_beginWrite ha.1,
    State.accept_ok ha, State.taken_reply]

/-- Settles O13: the modes of each request, and what is made of kind and length before the mode is looked at. -/
theorem kindOrModeRefused : Obligations.KindOrModeRefused := by
  unfold Obligations.KindOrModeRefused
  refine ⟨fun i s kind tag body ha hw he hk => ?mode, fun s tag kind ha hk => ?unknown,
    fun s tag kind body rest ha hb => ⟨fun hk => ?badKind, fun h1 h2 hf => ?badLength⟩⟩
  case mode =>
    rcases request_modes hw he hk with ⟨f, rfl, h⟩ | ⟨f, hkind, h⟩ | ⟨f, hkind, h⟩ | ⟨f, hkind, h⟩
    · exact ⟨fun _ hne => absurd rfl hne, fun _ h => absurd h (by decide), fun _ h => absurd h (by decide)⟩
    · refine ⟨fun hm _ => ?_, fun hm _ => ?_, fun _ hrun => ?_⟩
      · rw [h, State.acceptIn_wrong ha (by simp [hm])]
      · rw [h, State.acceptIn_wrong ha (by simp [hm])]
      · rcases hkind with rfl | rfl | rfl <;> exact absurd hrun (by decide)
    · refine ⟨fun hm _ => ?_, fun _ hconfig => ?_, fun hm _ => ?_⟩
      · rw [h, State.acceptIn_wrong ha (by simp [hm])]
      · rcases hkind with rfl | rfl | rfl | rfl <;> exact absurd hconfig (by decide)
      · rw [h, State.acceptIn_wrong ha (by simp [hm])]
    · refine ⟨fun hm _ => ?_, fun _ hconfig => ?_, fun _ hrun => ?_⟩
      · rw [h, State.acceptLive_booting ha hm]
      · exact absurd hkind (by rcases hconfig with rfl | rfl | rfl <;> decide)
      · exact absurd hkind (by rcases hrun with rfl | rfl | rfl | rfl <;> decide)
  case unknown =>
    have hnot : isRequestKind kind = false := by
      simp [isRequestKind]
      omega
    refine ⟨?_, rfl⟩
    show execUnknownKind tag kind s = _
    rw [execUnknownKind, if_neg (by simp [hnot]), State.accept_ok ha, State.taken_reply]
  case badKind =>
    exact exec_write_answered ha rest hb fun t => by rw [runFrame, parseRequest_unknown hk]
  case badLength =>
    exact ⟨exec_write_answered ha rest hb fun t => by rw [runFrame, parseRequest_badLength h1 h2 hf], rfl⟩

end Sys2Proof.Machine
end

section
/-!
PROOF. The control buses (R164, R165, R168, R170, R177): to whom an idle engine is given, how a run starts, and what a
transaction puts on the wire at each of its ends.
-/

namespace Sys2Proof.Machine

/-! ### The bus given on (R168) -/

/-- The transaction an idle engine takes when no script step is ready: the head pass-through's (R168). -/
def BusState.passNext (b : BusState) : Option Busy := b.passQueue.head?.map fun p => ⟨.pass, p.transaction⟩

/-- A busy engine is left alone. -/
theorem State.giveBus_busy {s : State} {x : Bus} (h : (s.bus x).engine ≠ none) : s.giveBus x = s := by
  obtain ⟨e, he⟩ := Option.ne_none_iff_exists'.mp h
  simp [State.giveBus, he]

/-- The transaction of the running script's ready step takes an idle engine. -/
theorem State.giveBus_step {s : State} {x : Bus} {r : Running} {t : Transaction} (he : (s.bus x).engine = none)
    (hr : (s.bus x).running = some r) (hp : r.phase = .ready)
    (ht : (s.stepOf r).bind (Step.transaction r.run.address) = some t) :
    s.giveBus x = s.setBus x
      { s.bus x with engine := some ⟨.script, t⟩, running := some { r with phase := .onBus } } := by
  simp [State.giveBus, he, hr, hp, ht]

/-- With no script step ready the head pass-through takes an idle engine, or none does. -/
theorem State.giveBus_pass {s : State} {x : Bus} (he : (s.bus x).engine = none)
    (hr : ∀ r, (s.bus x).running = some r → r.phase = .ready → (s.stepOf r).bind (Step.transaction r.run.address) = none) :
    s.giveBus x = s.setBus x { s.bus x with engine := (s.bus x).passNext } := by
  have toPass : (match (s.bus x).passQueue with
      | [] => s
      | p :: _ => s.setBus x { s.bus x with engine := some ⟨.pass, p.transaction⟩ })
      = s.setBus x { s.bus x with engine := (s.bus x).passNext } := by
    cases hq : (s.bus x).passQueue with
    | nil =>
      have hsame : { s.bus x with engine := (s.bus x).passNext } = s.bus x := by
        rw [BusState.passNext, hq, List.head?_nil, Option.map_none, ← he]
      rw [hsame, State.setBus_self]
    | cons p rest => simp [BusState.passNext, hq]
  unfold State.giveBus
  simp only [he]
  split
  · exact toPass
  · rename_i r hrun
    split
    · rw [hr r hrun ‹_›]
      exact toPass
    · exact toPass

/-! ### A run starts (R170, R171) -/

/-- The phase a script begins in; a script without steps is ready at once. -/
def firstPhase : Option Step → Phase
  | some st => st.firstPhase
  | none => .ready

/-- The bus with run `w` at its step 0. -/
def BusState.withRun (b : BusState) (w : Run) (first : Option Step) (now : Word) : BusState :=
  { b with running := some ⟨w, 0, firstPhase first, now, false⟩ }

/-- A bus on which run `w` starts at its first step, and which is then given by rule. -/
def BusState.begins (b : BusState) (w : Run) (first : Option Step) (now : Word) : BusState :=
  match b.engine, first.bind (Step.transaction w.address) with
  | some _, _ => b.withRun w first now
  | none, some t => { b with engine := some ⟨.script, t⟩, running := some ⟨w, 0, .onBus, now, false⟩ }
  | none, none => { b.withRun w first now with engine := b.passNext }

theorem State.scriptOf_getElem?_zero (s : State) (c : Cam) (sel : Selector) :
    (s.scriptOf c sel)[0]? = (s.scriptOf c sel).head? := List.head?_eq_getElem?.symm

/-- A run starts at its step 0. -/
theorem State.startRun_eq (s : State) (x : Bus) (w : Run) :
    s.startRun x w = s.setBus x ((s.bus x).withRun w (s.scriptOf w.camera w.selector).head? s.timebase) := by
  unfold State.startRun State.beginStep
  rw [State.scriptOf_getElem?_zero]
  cases (s.scriptOf w.camera w.selector).head? <;> rfl

/-- A step with a transaction begins ready. -/
theorem Step.firstPhase_of_transaction {st : Step} {address : Nat} {t : Transaction}
    (h : st.transaction address = some t) : st.firstPhase = .ready := by
  cases st with
  | wait d => cases h
  | _ => rfl

/-- A bus on which a run starts and which is then given by rule. -/
theorem State.startRun_giveBus (s : State) (x : Bus) (w : Run) :
    (s.startRun x w).giveBus x =
      s.setBus x ((s.bus x).begins w (s.scriptOf w.camera w.selector).head? s.timebase) := by
  rw [State.startRun_eq]
  generalize hfirst : (s.scriptOf w.camera w.selector).head? = first
  have hstep : ∀ phase, (s.setBus x ((s.bus x).withRun w first s.timebase)).stepOf ⟨w, 0, phase, s.timebase, false⟩ = first :=
    fun _ => hfirst ▸ s.scriptOf_getElem?_zero w.camera w.selector
  cases he : (s.bus x).engine with
  | some e =>
    rw [State.giveBus_busy (by simp [BusState.withRun, he])]
    simp [BusState.begins, he]
  | none =>
    cases ht : first.bind (Step.transaction w.address) with
    | some t =>
      obtain ⟨st, rfl, hst⟩ := Option.bind_eq_some_iff.mp ht
      rw [State.giveBus_step (r := ⟨w, 0, .ready, s.timebase, false⟩) (t := t) (by simp [BusState.withRun, he])
        (by simp [BusState.withRun, firstPhase, Step.firstPhase_of_transaction hst]) rfl (by rw [hstep]; exact hst)]
      simp [BusState.begins, BusState.withRun, he, hst]
    | none =>
      rw [State.giveBus_pass (by simp [BusState.withRun, he])]
      · simp [BusState.begins, BusState.withRun, BusState.passNext, he, ht]
      · intro r hr _
        obtain rfl : (⟨w, 0, firstPhase first, s.timebase, false⟩ : Running) = r := by
          simpa [BusState.withRun] using hr
        rw [hstep]
        exact ht

/-! ### On the wire (R164, R165, R177) -/

theorem extract_high (h : Half) : h.extractLsb' 8 8 = BitVec.ofNat 8 (h.toNat / 256) :=
  (List.cons.inj (List.cons.inj (bytes16_eq h)).2).1

theorem extract_low (h : Half) : h.extractLsb' 0 8 = BitVec.ofNat 8 h.toNat := (List.cons.inj (bytes16_eq h)).1

theorem addressByte_read {address : Nat} (h : address ≤ 0x7F) :
    addressByte address true = BitVec.ofNat 8 (2 * address) ||| 1 := by
  have hor : address <<< 1 + 1 = address <<< 1 ||| 1 := Nat.shiftLeft_add_eq_or_of_lt (by norm_num) address
  have hshift : address <<< 1 = 2 * address := by rw [Nat.shiftLeft_eq]; omega
  rw [hshift] at hor
  apply BitVec.eq_of_toNat_eq
  simp only [addressByte, byteOf, ↓reduceIte, BitVec.toNat_ofNat, BitVec.toNat_or, Nat.reducePow]
  rw [Nat.mod_eq_of_lt (by omega), Nat.mod_eq_of_lt (by omega), hor]
  rfl

/-- What is sent before the data, or before the repeated start. -/
theorem Transaction.body_write (address : Nat) (register : Half) (data : List Byte) :
    Transaction.body ⟨address, register, .write data⟩ =
      [.start, .send (BitVec.ofNat 8 (2 * address)), .send (BitVec.ofNat 8 (register.toNat / 256)),
        .send (BitVec.ofNat 8 register.toNat)] ++ data.map Wire.send := by
  simp [Transaction.body, extract_high, extract_low, addressByte, byteOf]

theorem Transaction.body_read {address : Nat} (h : address ≤ 0x7F) (register : Half) (n : Nat) :
    Transaction.body ⟨address, register, .read (n + 1)⟩ =
      [.start, .send (BitVec.ofNat 8 (2 * address)), .send (BitVec.ofNat 8 (register.toNat / 256)),
        .send (BitVec.ofNat 8 register.toNat)] ++ [.repeatedStart, .send (BitVec.ofNat 8 (2 * address) ||| 1)]
        ++ List.replicate n (.receive true) ++ [.receive false] := by
  have hreceived : (List.range (n + 1)).map (fun k => Wire.receive (decide (k + 1 < n + 1)))
      = List.replicate n (.receive true) ++ [.receive false] := by
    rw [List.range_succ, List.map_append, List.map_cons, List.map_nil]
    congr 1
    · rw [List.eq_replicate_iff]
      refine ⟨by simp, fun w hw => ?_⟩
      obtain ⟨k, hk, rfl⟩ := List.mem_map.mp hw
      simpa using List.mem_range.mp hk
    · simp
  simp only [Transaction.body, hreceived, addressByte_read h, extract_high, extract_low]
  simp [addressByte, byteOf]

/-- The wire up to the byte refused among bytes that are sent in a row. -/
theorem throughSend_map {data : List Byte} {k : Nat} (h : k < data.length) :
    throughSend k (data.map Wire.send) = (data.take (k + 1)).map Wire.send := by
  induction data generalizing k with
  | nil => simp at h
  | cons b data ih =>
    cases k with
    | zero => simp [throughSend]
    | succ k => simp [throughSend, ih (Nat.lt_of_succ_lt_succ h)]

/-- No stop condition comes before the end of a transaction. -/
theorem Transaction.stop_notMem_body (t : Transaction) : Wire.stop ∉ t.body := by
  obtain ⟨address, register, action⟩ := t
  cases action <;> simp [Transaction.body]

/-- Settles O32: who takes an idle engine, and the wire of each end. -/
theorem busGivenByRule : Obligations.BusGivenByRule := by
  unfold Obligations.BusGivenByRule
  refine ⟨fun s x => ⟨State.giveBus_busy, ?none, ?pass, ?step⟩, fun address register ha => ⟨?write, ?read⟩, ?cut⟩
  case none =>
    intro he hq hr
    rw [State.giveBus_pass he fun r hrun hp => absurd hp (hr r hrun), BusState.passNext, hq]
    rw [List.head?_nil, Option.map_none, ← he, State.setBus_self]
  case pass =>
    intro p rest he hq hr
    rw [State.giveBus_pass he fun r hrun hp => absurd hp (hr r hrun)]
    simp [BusState.passNext, hq]
  case step =>
    intro r st t he hrun hp hst ht
    exact State.giveBus_step he hrun hp (by rw [hst]; exact ht)
  case write =>
    intro data
    have hbody := Transaction.body_write address register data
    refine ⟨congrArg (· ++ [Wire.stop]) hbody, ?_, ?_, ?_, fun k hk => ?_⟩
    · simp [Transaction.wire, hbody, throughSend]
    · simp [Transaction.wire, hbody, throughSend]
    · simp [Transaction.wire, hbody, throughSend]
    · rw [Nat.add_comm 3 k]
      simp [Transaction.wire, hbody, throughSend, throughSend_map hk]
  case read =>
    intro n
    have hbody := Transaction.body_read ha register n
    refine ⟨?_, ?_, ?_, ?_, ?_⟩ <;> simp [Transaction.wire, hbody, throughSend]
  case cut =>
    intro t n
    refine ⟨by simp [Transaction.wire], fun hmem => ?_⟩
    rcases List.mem_append.mp hmem with h | h
    · exact t.stop_notMem_body (List.mem_of_mem_take h)
    · simp at h

end Sys2Proof.Machine
end

section
/-!
PROOF. The requests of the Camera Ports (R1, R2, R7, R12, R13): format and ring, the refusals of START_CAMERA and
STOP_CAMERA, a LIVE start, and a stop outside LOADING.
-/

namespace Sys2Proof.Machine

/-! ### The state right after an answer -/

@[simp] theorem State.answered_mode (s : State) (k t : Byte) (a : Status) (b : List Byte) :
    (s.answered k t a b).mode = s.mode := rfl
@[simp] theorem State.answered_timebase (s : State) (k t : Byte) (a : Status) (b : List Byte) :
    (s.answered k t a b).timebase = s.timebase := rfl
@[simp] theorem State.answered_zoom (s : State) (k t : Byte) (a : Status) (b : List Byte) :
    (s.answered k t a b).zoom = s.zoom := rfl
@[simp] theorem State.answered_otg (s : State) (k t : Byte) (a : Status) (b : List Byte) :
    (s.answered k t a b).otg = s.otg := rfl
@[simp] theorem State.answered_relay (s : State) (k t : Byte) (a : Status) (b : List Byte) :
    (s.answered k t a b).relay = s.relay := rfl
@[simp] theorem State.answered_port (s : State) (k t : Byte) (a : Status) (b : List Byte) (c : Cam) :
    (s.answered k t a b).port c = s.port c := rfl
@[simp] theorem State.answered_monitor (s : State) (k t : Byte) (a : Status) (b : List Byte) (c : Cam) :
    (s.answered k t a b).monitor c = s.monitor c := rfl
@[simp] theorem State.answered_bus (s : State) (k t : Byte) (a : Status) (b : List Byte) (x : Bus) :
    (s.answered k t a b).bus x = s.bus x := rfl
@[simp] theorem State.answered_scriptOf (s : State) (k t : Byte) (a : Status) (b : List Byte) (c : Cam) (sel : Selector) :
    (s.answered k t a b).scriptOf c sel = s.scriptOf c sel := rfl

@[simp] theorem State.answered_setPort (s : State) (k t : Byte) (a : Status) (b : List Byte) (c : Cam) (p : Port) :
    (s.answered k t a b).setPort c p = (s.setPort c p).answered k t a b := rfl
@[simp] theorem State.answered_setMonitor (s : State) (k t : Byte) (a : Status) (b : List Byte) (c : Cam) (m : Monitor) :
    (s.answered k t a b).setMonitor c m = (s.setMonitor c m).answered k t a b := rfl

/-! ### Scripts are read from the store -/

@[simp] theorem State.setPort_scriptOf (s : State) (c d : Cam) (p : Port) (sel : Selector) :
    (s.setPort c p).scriptOf d sel = s.scriptOf d sel := rfl
@[simp] theorem State.setMonitor_scriptOf (s : State) (c d : Cam) (m : Monitor) (sel : Selector) :
    (s.setMonitor c m).scriptOf d sel = s.scriptOf d sel := rfl
@[simp] theorem State.raise_scriptOf (s : State) (n : Notice) (d : Cam) (sel : Selector) :
    (s.raise n).scriptOf d sel = s.scriptOf d sel := rfl
@[simp] theorem State.setBus_scriptOf (s : State) (x : Bus) (b : BusState) (d : Cam) (sel : Selector) :
    (s.setBus x b).scriptOf d sel = s.scriptOf d sel := rfl

/-! ### Format and ring (R1, R2) -/

theorem formatOk_iff {ws hs : Half} {slots : Byte} : formatOk ws.toNat hs.toNat slots.toNat = true ↔
    (slots = 3 ∨ slots = 4) ∧ (64 ≤ ws.toNat ∧ ws.toNat ≤ 4096 ∧ ws.toNat % 2 = 0) ∧
      (64 ≤ hs.toNat ∧ hs.toNat ≤ 3072 ∧ hs.toNat % 2 = 0) := by
  have hslots : ∀ n : Byte, slots.toNat = n.toNat ↔ slots = n := fun n => BitVec.toNat_inj
  rw [formatOk, Bool.and_eq_true, Bool.and_eq_true, evenInRange_iff, evenInRange_iff, Bool.or_eq_true, beq_iff_eq,
    beq_iff_eq, and_assoc, ← hslots 3, ← hslots 4]
  rfl

/-- The capacity sum, each camera's share written out (R2). -/
theorem State.storeUse_eq (s : State) (c : Cam) (f : Format) : s.storeUse c f =
    (Cam.all.map fun d => if d = c then f.slots * (f.ws * f.hs * 3 / 2) else
      match (s.port d).format with
      | some g => g.slots * (g.ws * g.hs * 3 / 2)
      | none => 0).sum := by
  unfold State.storeUse
  congr 1
  refine List.map_congr_left fun d _ => ?_
  cases (s.port d).format <;> rfl

/-- A new ring. -/
theorem freshRing_slots (n seed : Nat) : (freshRing n seed).length = n ∧ ∀ x ∈ freshRing n seed, x.state = .free ∧
    x.pin = .none ∧ x.release = false ∧ x.stop = none ∧ x.full = none ∧ x.region = none ∧ x.area = [] := by
  refine ⟨by simp [freshRing], fun x hx => ?_⟩
  obtain ⟨k, -, rfl⟩ := List.mem_map.mp hx
  exact ⟨rfl, rfl, rfl, rfl, rfl, rfl, rfl⟩

section Format

variable {s : State} {tag camera : Byte} {c : Cam} {f : Format}

theorem State.takeFormat_absent (h : 3 < camera.toNat) : s.takeFormat tag camera f = s.reply 0x05 tag .badField := by
  simp [State.takeFormat, camOf_of_gt h]

theorem State.takeFormat_badField (hc : camera.toNat = c.idx) (h : ¬ formatOk f.ws f.hs f.slots = true) :
    s.takeFormat tag camera f = s.reply 0x05 tag .badField := by
  simp [State.takeFormat, camOf_of_idx hc, h]

theorem State.takeFormat_busy (hc : camera.toNat = c.idx) (h : formatOk f.ws f.hs f.slots = true)
    (hs : (s.port c).state ≠ .off) : s.takeFormat tag camera f = s.reply 0x05 tag .busy := by
  simp [State.takeFormat, camOf_of_idx hc, h, hs]

theorem State.takeFormat_noSpace (hc : camera.toNat = c.idx) (h : formatOk f.ws f.hs f.slots = true)
    (hs : (s.port c).state = .off) (hu : Config.storeBytes < s.storeUse c f) :
    s.takeFormat tag camera f = s.reply 0x05 tag .noSpace := by
  simp only [State.takeFormat, camOf_of_idx hc, h, hs, Bool.not_true, Bool.false_eq_true, ↓reduceIte, ne_eq,
    not_true_eq_false, hu]

theorem State.takeFormat_ok (hc : camera.toNat = c.idx) (h : formatOk f.ws f.hs f.slots = true)
    (hs : (s.port c).state = .off) (hu : s.storeUse c f ≤ Config.storeBytes) :
    s.takeFormat tag camera f = (s.setFormat c f).reply 0x05 tag .ok := by
  simp only [State.takeFormat, camOf_of_idx hc, h, hs, Bool.not_true, Bool.false_eq_true, ↓reduceIte, ne_eq,
    not_true_eq_false, Nat.not_lt.mpr hu]

end Format

/-- An accepted SET_CAMERA_FORMAT in CONFIG with slots takes the format sent. -/
theorem exec_setCameraFormat {s : State} (ha : s.canAccept) (hm : s.mode = .config) (tag camera : Byte) (ws hs : Half)
    {slots : Byte} (hn : slots ≠ 0) :
    exec (.setCameraFormat tag camera ws hs slots) s =
      .next (s.taken.takeFormat tag camera ⟨ws.toNat, hs.toNat, slots.toNat⟩) := by
  refine congrArg Host.Outcome.next ((State.acceptIn_ok ha hm 0x05 tag _).trans ?_)
  exact if_neg hn

/-- Settles O14: the checks in order, and the record and ring an accepted request leaves. -/
theorem setCameraFormatReplaces : Obligations.SetCameraFormatReplaces := by
  unfold Obligations.SetCameraFormatReplaces
  refine ⟨⟨freshRing_slots, fun s tag camera c ws hs slots ha hm hc hslots hws hhs hoff hsum => ?ok⟩,
    fun s tag camera ws hs slots ha hm hn => ⟨fun hgt => ?absent, fun c hc => ⟨fun hbad => ?badField,
      fun hok hbusy => ?busy, fun hok hoff hsum => ?noSpace⟩⟩⟩
  case ok =>
    have hn : slots ≠ 0 := by rintro rfl; revert hslots; decide
    have huse : s.taken.storeUse c ⟨ws.toNat, hs.toNat, slots.toNat⟩ ≤ Config.storeBytes := by
      rw [State.storeUse_eq]
      exact hsum
    rw [exec_setCameraFormat ha hm tag camera ws hs hn,
      State.takeFormat_ok (s := s.taken) hc (formatOk_iff.mpr ⟨hslots, hws, hhs⟩) hoff huse]
    rfl
  case absent => rw [exec_setCameraFormat ha hm tag camera ws hs hn, State.takeFormat_absent hgt, State.taken_reply]
  case badField =>
    rw [exec_setCameraFormat ha hm tag camera ws hs hn, State.takeFormat_badField (s := s.taken) hc fun h => hbad (formatOk_iff.mp h),
      State.taken_reply]
  case busy =>
    rw [exec_setCameraFormat ha hm tag camera ws hs hn, State.takeFormat_busy (s := s.taken) hc (formatOk_iff.mpr hok) hbusy,
      State.taken_reply]
  case noSpace =>
    have huse : Config.storeBytes < s.taken.storeUse c ⟨ws.toNat, hs.toNat, slots.toNat⟩ := by
      rw [State.storeUse_eq]
      exact hsum
    rw [exec_setCameraFormat ha hm tag camera ws hs hn, State.takeFormat_noSpace (s := s.taken) hc (formatOk_iff.mpr hok) hoff huse,
      State.taken_reply]

/-! ### The checks of START_CAMERA and STOP_CAMERA (R7, R12) -/

/-- A camera with both parts is configured. -/
theorem Port.configured_of_parts {p : Port} {k : Cal} (hf : p.format ≠ none) (hk : p.cal = some k) :
    p.configured = true := by
  obtain ⟨f, hf⟩ := Option.ne_none_iff_exists'.mp hf
  simp [Port.configured, hf, hk]

section Checks

variable {s : State} {tag camera : Byte} {c : Cam}

theorem State.takeStart_badField {mode : Option StartMode} (h : camOf camera = none ∨ mode = none) :
    s.takeStart tag camera mode = s.reply 0x0C tag .badField := by
  unfold State.takeStart
  split
  · simp_all
  · rfl

theorem State.takeStart_unconfigured (hc : camera.toNat = c.idx) (mode : StartMode)
    (h : (s.port c).configured = false) : s.takeStart tag camera (some mode) = s.reply 0x0C tag .notConfigured := by
  simp [State.takeStart, camOf_of_idx hc, h]

theorem State.takeStart_busy (hc : camera.toNat = c.idx) (mode : StartMode) (h : (s.port c).configured = true)
    (hs : (s.port c).state ≠ .off) : s.takeStart tag camera (some mode) = s.reply 0x0C tag .busy := by
  simp [State.takeStart, camOf_of_idx hc, h, hs]

theorem State.takeStart_ok (hc : camera.toNat = c.idx) (mode : StartMode) (h : (s.port c).configured = true)
    (hs : (s.port c).state = .off) :
    s.takeStart tag camera (some mode) = (s.reply 0x0C tag .ok).startIn c mode := by
  simp [State.takeStart, camOf_of_idx hc, h, hs]

theorem State.takeStop_absent (h : 3 < camera.toNat) : s.takeStop tag camera = s.reply 0x0D tag .badField := by
  simp [State.takeStop, camOf_of_gt h]

theorem State.takeStop_unconfigured (hc : camera.toNat = c.idx) (h : (s.port c).configured = false) :
    s.takeStop tag camera = s.reply 0x0D tag .notConfigured := by
  simp [State.takeStop, camOf_of_idx hc, h]

theorem State.takeStop_busy (hc : camera.toNat = c.idx) (h : (s.port c).configured = true)
    (hs : (s.port c).state = .off ∨ (s.port c).state = .stopping) : s.takeStop tag camera = s.reply 0x0D tag .busy := by
  simp [State.takeStop, camOf_of_idx hc, h, hs]

theorem State.takeStop_ok (hc : camera.toNat = c.idx) (h : (s.port c).configured = true)
    (hs : ¬ ((s.port c).state = .off ∨ (s.port c).state = .stopping)) :
    s.takeStop tag camera = (s.reply 0x0D tag .ok).stopCamera c := by
  simp [State.takeStop, camOf_of_idx hc, h, hs]

theorem exec_startCamera (ha : s.canAccept) (hm : s.mode ≠ .booting) (tag camera mode : Byte) :
    exec (.startCamera tag camera mode) s = .next (s.taken.takeStart tag camera (startModeOf mode)) :=
  congrArg Host.Outcome.next (State.acceptLive_ok ha hm 0x0C tag _)

theorem exec_startCameraPattern (ha : s.canAccept) (hm : s.mode ≠ .booting) (tag camera : Byte) :
    exec (.startCameraPattern tag camera) s = .next (s.taken.takeStart tag camera (some .pattern)) :=
  congrArg Host.Outcome.next (State.acceptLive_ok ha hm 0x0C tag _)

theorem exec_stopCamera (ha : s.canAccept) (hm : s.mode ≠ .booting) (tag camera : Byte) :
    exec (.stopCamera tag camera) s = .next (s.taken.takeStop tag camera) :=
  congrArg Host.Outcome.next (State.acceptLive_ok ha hm 0x0D tag _)

end Checks

/-- The mode bytes of START_CAMERA (Table 31). -/
theorem startModeOf_of_le {mode : Byte} (h : mode.toNat ≤ 1) : ∃ m, startModeOf mode = some m := by
  rcases (by omega : mode.toNat = 0 ∨ mode.toNat = 1) with h | h <;> simp [startModeOf, h]

theorem startModeOf_of_gt {mode : Byte} (h : 1 < mode.toNat) : startModeOf mode = none := by
  obtain ⟨n, hn⟩ : ∃ n, mode.toNat = n + 2 := ⟨mode.toNat - 2, by omega⟩
  simp [startModeOf, hn]

/-- Settles O18: the checks of the two requests in order. -/
theorem startStopCameraRefused : Obligations.StartStopCameraRefused := by
  unfold Obligations.StartStopCameraRefused
  refine ⟨fun s tag camera mode ha hm => ⟨fun hbad => ?absent, fun c hc hmode => ⟨fun hconf => ?unconfigured,
    fun hconf hs => ?busy⟩, rfl⟩, fun s tag camera ha hm => ⟨fun hgt => ?stopAbsent, fun c hc =>
      ⟨fun hconf => ?stopUnconfigured, fun hconf hs => ?stopBusy⟩⟩⟩
  case absent =>
    rw [exec_startCamera ha hm, State.takeStart_badField (hbad.imp camOf_of_gt startModeOf_of_gt), State.taken_reply]
  case unconfigured =>
    obtain ⟨m, hm'⟩ := startModeOf_of_le hmode
    rw [exec_startCamera ha hm, hm', State.takeStart_unconfigured (s := s.taken) hc m hconf, State.taken_reply]
  case busy =>
    obtain ⟨m, hm'⟩ := startModeOf_of_le hmode
    rw [exec_startCamera ha hm, hm', State.takeStart_busy (s := s.taken) hc m hconf hs, State.taken_reply]
  case stopAbsent => rw [exec_stopCamera ha hm, State.takeStop_absent hgt, State.taken_reply]
  case stopUnconfigured => rw [exec_stopCamera ha hm, State.takeStop_unconfigured (s := s.taken) hc hconf, State.taken_reply]
  case stopBusy => rw [exec_stopCamera ha hm, State.takeStop_busy (s := s.taken) hc hconf hs, State.taken_reply]

/-! ### A run is placed (R170) -/

/-- A bus on which run `w` joins the waiting-script list of a runner that is taken, or starts on a free one. -/
def BusState.placed (b : BusState) (w : Run) (first : Option Step) (now : Word) : BusState :=
  match b.running with
  | some _ => { b with waiting := b.waiting ++ [w] }
  | none => b.begins w first now

/-- A Camera Port's run is placed on the bus of its calibration part. -/
theorem State.queueRun_eq {s : State} {c : Cam} {k : Cal} (hk : (s.port c).cal = some k) (sel : Selector) :
    s.queueRun c sel = s.setBus k.bus
      ((s.bus k.bus).placed ⟨c, sel, k.address⟩ (s.scriptOf c sel).head? s.timebase) := by
  unfold State.queueRun
  simp only [hk]
  cases hr : (s.bus k.bus).running with
  | some r => simp [BusState.placed, hr]
  | none => simp [BusState.placed, hr, State.startRun_giveBus]

section Placed

variable {b : BusState} {w : Run} {now : Word}

theorem BusState.placed_taken {r : Running} (h : b.running = some r) (first : Option Step) :
    b.placed w first now = { b with waiting := b.waiting ++ [w] } := by simp [BusState.placed, h]

theorem BusState.placed_free (h : b.running = none) (first : Option Step) :
    b.placed w first now = b.begins w first now := by simp [BusState.placed, h]

/-- Behind a busy engine the first step waits or is ready. -/
theorem BusState.begins_busy (h : b.engine ≠ none) (first : Option Step) :
    b.begins w first now = b.withRun w first now := by
  obtain ⟨e, he⟩ := Option.ne_none_iff_exists'.mp h
  simp [BusState.begins, he]

/-- On an idle engine a step's transaction goes on the bus. -/
theorem BusState.begins_transaction {t : Transaction} {st : Step} (h : b.engine = none)
    (ht : st.transaction w.address = some t) : b.begins w (some st) now =
      { b with engine := some ⟨.script, t⟩, running := some ⟨w, 0, .onBus, now, false⟩ } := by
  simp [BusState.begins, h, ht]

/-- A WAIT leaves an idle engine to the head pass-through. -/
theorem BusState.begins_wait {d : Nat} (h : b.engine = none) : b.begins w (some (.wait d)) now =
    { b with running := some ⟨w, 0, .waiting d, now, false⟩, engine := b.passNext } := by
  simp [BusState.begins, h, Step.transaction, BusState.withRun, firstPhase, Step.firstPhase]

end Placed

/-! ### A LIVE start (R7, R29) -/

section Start

variable {s : State} {c : Cam} {k : Cal}

/-- A start with an empty START script. -/
theorem State.startLive_waiting (hk : (s.port c).cal = some k) (he : s.scriptOf c .start = []) (reason : Reason) :
    s.startLive c reason = ((s.setPort c { s.port c with state := .waiting, startMode := .live, faultReason := .none
        }).setMonitor c { s.monitor c with countdown := some k.first, stallCount := 0 }).raise
      (.cameraState c (s.port c).state .waiting reason) := by
  simp [State.startLive, State.markStart, he, State.enterWaiting, State.changeState_eq, State.arm, hk]

/-- A start with steps to run. -/
theorem State.startLive_loading (hk : (s.port c).cal = some k) (he : s.scriptOf c .start ≠ []) (reason : Reason) :
    s.startLive c reason = (((s.setPort c { s.port c with state := .loading, startMode := .live, faultReason := .none
        }).setMonitor c { s.monitor c with stallCount := 0 }).raise
      (.cameraState c (s.port c).state .loading reason)).setBus k.bus
        ((s.bus k.bus).placed ⟨c, .start, k.address⟩ (s.scriptOf c .start).head? s.timebase) := by
  simp [State.startLive, State.markStart, he, State.changeState_eq, State.queueRun_eq, hk]

end Start

/-- Settles O17: the START script decides between WAITING and LOADING, the runner and the engine where its run stands. -/
theorem startCameraLive : Obligations.StartCameraLive := by
  unfold Obligations.StartCameraLive
  intro s tag camera c k ha hm hc hf hk hoff steps bus started loads
  have accepted : exec (.startCamera tag camera 0) s = .next ((s.answered 0x0C tag .ok).startLive c .request) := by
    rw [exec_startCamera ha hm, show startModeOf 0 = some .live from rfl,
      State.takeStart_ok (s := s.taken) hc _ (Port.configured_of_parts hf hk) hoff, State.taken_reply]
    rfl
  have loading : ∀ b, steps ≠ [] → bus.placed ⟨c, .start, k.address⟩ steps.head? s.timebase = b → loads b := by
    rintro b hne rfl
    show exec _ s = _
    rw [accepted, State.startLive_loading (s := s.answered 0x0C tag .ok) hk hne]
    simp only [State.answered_port, hoff]
    rfl
  refine ⟨fun he => ?waiting, fun r hne hr => loading _ hne (BusState.placed_taken hr _),
    fun st rest hst hr => ⟨fun he => ?busy, fun he => ?idle⟩⟩
  case waiting =>
    rw [accepted, State.startLive_waiting (s := s.answered 0x0C tag .ok) hk he]
    simp only [State.answered_port, hoff]
    rfl
  all_goals
    have hne : steps ≠ [] := by simp [hst]
    have first : steps.head? = some st := by simp [hst]
    rw [first] at loading
  case busy =>
    refine loading _ hne ((BusState.placed_free hr _).trans ((BusState.begins_busy he _).trans ?_))
    cases st <;> rfl
  case idle =>
    cases st with
    | write g data => exact loading _ hne ((BusState.placed_free hr _).trans (BusState.begins_transaction he rfl))
    | poll g mask value timeout =>
      exact loading _ hne ((BusState.placed_free hr _).trans (BusState.begins_transaction he rfl))
    | wait d => exact loading _ hne ((BusState.placed_free hr _).trans (BusState.begins_wait he))

end Sys2Proof.Machine
end

section
/-!
PROOF. The end of a script and of a transaction (R8, R13, R165 to R168, R170 to R173): the next waiting run, the reports to
the Camera Port, the steps of a running script, and the pass-throughs.
-/

namespace Sys2Proof.Machine

/-! ### The next waiting run (R170) -/

/-- The runner after a script's end: the head of the waiting-script list at its step 0, or nothing. -/
def BusState.handedOn (b : BusState) (first : Run → Option Step) (now : Word) : BusState :=
  match b.waiting with
  | [] => { b with running := none }
  | w :: rest => { b with waiting := rest }.withRun w (first w) now

/-- A run's first step as the store has it. -/
def State.firstStep? (s : State) (w : Run) : Option Step := (s.scriptOf w.camera w.selector).head?

/-- A free runner takes the next waiting run. -/
theorem State.startWaiting_eq (s : State) (x : Bus) :
    (s.setRunning x none).startWaiting x = s.setBus x ((s.bus x).handedOn s.firstStep? s.timebase) := by
  cases hw : (s.bus x).waiting with
  | nil => simp [State.startWaiting, State.setRunning, BusState.handedOn, hw]
  | cons w rest =>
    simp only [State.startWaiting, State.setRunning, State.bus_setBus_same, hw, State.startRun_eq, State.setBus_setBus,
      BusState.handedOn]
    rfl

/-- The phase a run begins in, by its first step. -/
theorem firstPhase_eq (o : Option Step) : firstPhase o = match o with | some (.wait m) => .waiting m | _ => .ready := by
  cases o with
  | none => rfl
  | some st => cases st <;> rfl

/-! ### The work in hand discarded at the entry to FAULTED (R14) -/

theorem Port.discardWork_eq (p : Port) : p.discardWork = { p with
    buffer := if p.inFlight then p.buffer.take 1 else []
    ring := p.ring.map fun x => if x.state = .filling ∨ x.state = .draining then { x with
      state := .free, pin := .none, release := false, outstanding := 0, full := none, region := none } else x
    counters := { p.counters with
      truncated := if p.ring.any (·.state == .filling) then min 4294967295 (p.counters.truncated + 1)
        else p.counters.truncated
      damaged := if p.ring.any (·.state == .draining) then min 4294967295 (p.counters.damaged + 1)
        else p.counters.damaged }
    sums := .zero, region := none, pattern := none } := by
  simp only [Port.discardWork, Port.withdrawAll_eq, Port.slotIn_isSome, bump]
  rfl

/-- Entry to FAULTED from state `old`, the whole record written out (R6, R14). -/
theorem State.enterFaulted_from {s : State} {c : Cam} {old : CamState} (h : (s.port c).state = old) (reason : Reason) :
    s.enterFaulted c reason = (s.setPort c { s.port c with
      state := .faulted, faultReason := reason
      buffer := if (s.port c).inFlight then (s.port c).buffer.take 1 else []
      ring := (s.port c).ring.map fun x => if x.state = .filling ∨ x.state = .draining then { x with
        state := .free, pin := .none, release := false, outstanding := 0, full := none, region := none } else x
      counters := { (s.port c).counters with
        truncated := if (s.port c).ring.any (·.state == .filling) then min 4294967295 ((s.port c).counters.truncated + 1)
          else (s.port c).counters.truncated
        damaged := if (s.port c).ring.any (·.state == .draining) then min 4294967295 ((s.port c).counters.damaged + 1)
          else (s.port c).counters.damaged }
      sums := .zero, region := none, pattern := none }).raise (.cameraState c old .faulted reason) := by
  rw [State.enterFaulted_eq, Port.discardWork_eq, h]

/-! ### The reports of a script's end (R8, R13, R29) -/

section Report

variable {s : State} {c : Cam}

theorem State.reportScript_stop (h : (s.port c).state = .stopping) (result : ScriptResult) :
    s.reportScript c .stop result =
      (s.setPort c { s.port c with state := .off }).raise (.cameraState c .stopping .off .stopped) := by
  simp [State.reportScript, h, State.changeState_eq]

theorem State.reportScript_stop_disregarded (h : (s.port c).state ≠ .stopping) (result : ScriptResult) :
    s.reportScript c .stop result = s := if_neg h

theorem State.reportScript_start_disregarded {result : ScriptResult}
    (h : (s.port c).state ≠ .loading ∨ result = .aborted) : s.reportScript c .start result = s := by
  simp only [State.reportScript]
  split
  · obtain rfl := h.resolve_left (not_not_intro ‹_›)
    rfl
  · rfl

theorem State.reportScript_started {k : Cal} (h : (s.port c).state = .loading) (hk : (s.port c).cal = some k) :
    s.reportScript c .start .ok = ((s.setPort c { s.port c with state := .waiting }).setMonitor c
      { s.monitor c with countdown := some k.first }).raise (.cameraState c .loading .waiting .started) := by
  simp [State.reportScript, h, State.changeState_eq, State.arm, hk]

theorem State.reportScript_failed (h : (s.port c).state = .loading) :
    s.reportScript c .start .failed = s.enterFaulted c .script := by
  simp [State.reportScript, h]

end Report

/-- The end of a script: the notice, the report, and the next run. -/
theorem State.endScript_of_report {s t : State} {x : Bus} {run : Run} {result : ScriptResult} {step : Nat}
    {cause : ScriptCause}
    (h : (s.raise (.scriptDone run.camera run.selector result step cause)).reportScript run.camera run.selector result = t) :
    s.endScript x run result step cause = t.setBus x ((t.bus x).handedOn t.firstStep? t.timebase) := by
  subst h
  exact State.startWaiting_eq _ x

/-- Settles O38: the report by selector, result and state, and the next waiting run. -/
theorem scriptEndReported : Obligations.ScriptEndReported := by
  unfold Obligations.ScriptEndReported
  intro s x run result step cause c p noticed next
  have handed : ∀ t : State, t.bus x = s.bus x → t.relay.scripts = s.relay.scripts → t.timebase = s.timebase →
      t.setBus x ((t.bus x).handedOn t.firstStep? t.timebase) = next t := by
    intro t hbus hscripts htime
    simp only [next, hbus, htime, BusState.handedOn]
    cases hw : (s.bus x).waiting with
    | nil => rfl
    | cons w rest =>
      have hfirst : t.firstStep? w = match w.selector with
          | .start => (s.relay.scripts.get w.camera).start.head?
          | .stop => (s.relay.scripts.get w.camera).stop.head? := by
        unfold State.firstStep? State.scriptOf
        rw [hscripts]
        cases w.selector <;> rfl
      simp only [BusState.withRun, firstPhase_eq, hfirst] <;> rfl
  refine ⟨fun hsel hs => ?ended, fun hsel hs => ?stopElse, fun hsel hs => ?startElse, fun k hsel hs hr hk => ?started,
    fun hsel hs hr => ?failed⟩
  case ended =>
    rw [State.endScript_of_report (hsel ▸ State.reportScript_stop (s := noticed) hs result)]
    exact handed _ rfl rfl rfl
  case stopElse =>
    rw [State.endScript_of_report (hsel ▸ State.reportScript_stop_disregarded (s := noticed) hs result)]
    exact handed _ rfl rfl rfl
  case startElse =>
    rw [State.endScript_of_report (hsel ▸ State.reportScript_start_disregarded (s := noticed) hs)]
    exact handed _ rfl rfl rfl
  case started =>
    subst hr
    rw [State.endScript_of_report (hsel ▸ State.reportScript_started (s := noticed) hs hk)]
    exact handed _ rfl rfl rfl
  case failed =>
    subst hr
    rw [State.endScript_of_report (hsel ▸ (State.reportScript_failed (s := noticed) hs).trans
      (State.enterFaulted_from (s := noticed) hs .script))]
    exact handed _ rfl rfl rfl

end Sys2Proof.Machine
end

section
/-!
PROOF. The requests and events of the Sensor Control Relay (R165 to R173): steps of a running script, the end of a
transaction for either owner, pass-throughs, and LOAD_SCRIPT.
-/

namespace Sys2Proof.Machine

/-! ### The running script goes on (R171 to R173) -/

section Steps

variable {s : State} {x : Bus} {r : Running}

/-- A step is done and another one is left. -/
theorem State.stepDone_next {st : Step} (h : (s.scriptOf r.run.camera r.run.selector)[r.step + 1]? = some st) :
    s.stepDone x r = s.setBus x { s.bus x with
      running := some { r with step := r.step + 1, phase := st.firstPhase, begun := s.timebase } } := by
  obtain ⟨hlt, -⟩ := List.getElem?_eq_some_iff.mp h
  simp only [State.stepDone, hlt, ↓reduceIte, State.beginStep, h, State.setRunning]

/-- The last step is done. -/
theorem State.stepDone_last (h : (s.scriptOf r.run.camera r.run.selector).length ≤ r.step + 1) :
    s.stepDone x r = s.endScript x r.run .ok (s.scriptOf r.run.camera r.run.selector).length .none :=
  if_neg (Nat.not_lt.mpr h)

end Steps

/-- Settles O37: the events without an occasion, the next step, and the script's end. -/
theorem scriptGoesOn : Obligations.ScriptGoesOn := by
  unfold Obligations.ScriptGoesOn
  refine ⟨fun s x hnone => ⟨congrArg Host.Outcome.next (State.endRetry_early (by simp [hnone])),
    congrArg Host.Outcome.next (State.endWait_early (by simp [hnone]))⟩, fun s x r hr => ?_⟩
  intro steps goesOn
  have hsteps : s.scriptOf r.run.camera r.run.selector = steps := by
    unfold State.scriptOf
    cases hsel : r.run.selector <;> simp [steps, hsel]
  have next : ∀ st, steps[r.step + 1]? = some st → s.stepDone x r = goesOn st := by
    exact fun st hst => (State.stepDone_next (hsteps ▸ hst)).trans (by cases st <;> rfl)
  have last : steps.length ≤ r.step + 1 → s.stepDone x r = s.endScript x r.run .ok steps.length .none :=
    fun h => hsteps ▸ State.stepDone_last (hsteps.symm ▸ h)
  have counted : r.phase = .waiting 0 → exec (.waitEnd x) s = .next ((s.stepDone x r).giveBus x) :=
    fun hp => congrArg Host.Outcome.next (State.endWait_counted hr hp)
  refine ⟨next, last, fun hp => ?_, fun hp => ?_, fun hp => ?_, fun hp => ⟨fun st hst => ?_, fun hlast => ?_,
    fun k hlast hsel hs hk hw => ?_⟩⟩
  · exact congrArg Host.Outcome.next (State.endRetry_early fun q hq => by rwa [Option.some.inj (hr.symm.trans hq)] at hp)
  · exact congrArg Host.Outcome.next (State.endWait_early fun q hq => by rwa [Option.some.inj (hr.symm.trans hq)] at hp)
  · exact congrArg Host.Outcome.next (State.endRetry_counted hr hp)
  · rw [counted hp, next st hst]
  · rw [counted hp, last hlast]
  · rw [counted hp, last hlast, State.endScript_of_report
      (hsel ▸ State.reportScript_started (s := s.raise (.scriptDone _ _ _ _ _)) hs hk)]
    simp only [BusState.handedOn, State.raise_bus, State.setMonitor_bus, State.setPort_bus, hw, hsel]
    rfl

/-! ### The end of a transaction (R165, R167, R168) -/

/-- Bus `x` with its engine idle and the lines as `lines` has left them. -/
def State.idleBus (s : State) (x : Bus) (lines : LineEnd) : State :=
  s.setBus x { s.bus x with engine := none, lastEnd := lines }

section Ends

variable {s : State} {x : Bus} {t : Transaction}

/-- The end of a running script's transaction. -/
theorem State.endTransaction_script {r : Running} (he : (s.bus x).engine = some ⟨.script, t⟩)
    (hr : (s.bus x).running = some r) (o : BusOutcome) :
    s.endTransaction x o = (if r.abort then (s.idleBus x o.lineEnd).endScript x r.run .aborted r.step .none
      else (s.idleBus x o.lineEnd).scriptOutcome x r o).giveBus x := by
  have hrun : ((s.idleBus x o.lineEnd).bus x).running = some r := by simp [State.idleBus, hr]
  have served : s.endTransaction x o = ((s.idleBus x o.lineEnd).serveOwner x ⟨.script, t⟩ o).giveBus x := by
    simp only [State.endTransaction, he]
    rfl
  rw [served]
  simp only [State.serveOwner, hrun]

/-- The end of a pass-through's transaction. -/
theorem State.endTransaction_pass {p : PassThrough} {rest : List PassThrough} (he : (s.bus x).engine = some ⟨.pass, t⟩)
    (hq : (s.bus x).passQueue = p :: rest) (o : BusOutcome) :
    s.endTransaction x o = ((s.setBus x { s.bus x with engine := none, lastEnd := o.lineEnd, passQueue := rest }).answer
      p.id o.status (t.bytesRead o)).giveBus x := by
  simp only [State.endTransaction, he, State.serveOwner, State.bus_setBus_same, hq, State.setBus_setBus]

/-- A WRITE that ended OK is done. -/
theorem State.scriptOutcome_write {r : Running} {register : Half} {data : List Byte} {d : Data4}
    (hst : s.stepOf r = some (.write register data)) : s.scriptOutcome x r (.ok d) = s.stepDone x r := by
  simp only [State.scriptOutcome, hst]

/-- A POLL whose byte matches is done. -/
theorem State.scriptOutcome_match {r : Running} {register : Half} {mask value : Byte} {timeout : Nat} {d : Data4}
    (hst : s.stepOf r = some (.poll register mask value timeout)) (h : pollMatches mask value d.d0 = true) :
    s.scriptOutcome x r (.ok d) = s.stepDone x r := by
  simp only [State.scriptOutcome, hst, h, ↓reduceIte]

/-- A POLL whose byte does not match is tried again while its timeout has not passed. -/
theorem State.scriptOutcome_retry {r : Running} {register : Half} {mask value : Byte} {timeout : Nat} {d : Data4}
    (hst : s.stepOf r = some (.poll register mask value timeout)) (h : ¬ pollMatches mask value d.d0 = true)
    (hleft : age r.begun s.timebase < 1000 * timeout) :
    s.scriptOutcome x r (.ok d) = s.setRunning x (some { r with phase := .retry Config.pollInterval }) := by
  simp only [State.scriptOutcome, hst, h, hleft, ↓reduceIte]
  rfl

/-- A POLL whose byte does not match fails once its timeout has passed. -/
theorem State.scriptOutcome_late {r : Running} {register : Half} {mask value : Byte} {timeout : Nat} {d : Data4}
    (hst : s.stepOf r = some (.poll register mask value timeout)) (h : ¬ pollMatches mask value d.d0 = true)
    (hleft : 1000 * timeout ≤ age r.begun s.timebase) :
    s.scriptOutcome x r (.ok d) = s.stepFails x r .pollTimeout := by
  simp only [State.scriptOutcome, hst, h, Nat.not_lt.mpr hleft, ↓reduceIte]
  rfl

end Ends

/-- Settles O36: what the outcome makes of each kind of step, and of a marked script. -/
theorem scriptTransactionEnds : Obligations.ScriptTransactionEnds := by
  unfold Obligations.ScriptTransactionEnds
  intro s x d t r st he hr hst idle ok ends
  have ended : ∀ o : BusOutcome, Host.Outcome.next (φ := Fault) (ρ := Refusal) (s.endTransaction x o) =
      .next ((if r.abort then (idle o.lineEnd).endScript x r.run .aborted r.step .none
        else (idle o.lineEnd).scriptOutcome x r o).giveBus x) :=
    fun o => congrArg Host.Outcome.next (State.endTransaction_script he hr o)
  have acked : ok = _ := ended (.ok d)
  have refused : exec (.transactionEnd x false d) s = _ := ended .noAck
  have held : exec (.busTimeout x) s = _ := ended .timeout
  have step : (idle (BusOutcome.ok d).lineEnd).stepOf r = some st := hst
  refine ⟨fun ha => ?_, fun ha => ?_⟩
  · simp only [ha, ↓reduceIte] at acked refused held
    exact ⟨acked, refused, held⟩
  · simp only [ha, Bool.false_eq_true, ↓reduceIte] at acked refused held
    refine ⟨refused, held, ?_, ?_⟩
    · rintro register data rfl
      rw [acked, State.scriptOutcome_write step]
      rfl
    · rintro register mask value timeout rfl
      have hpoll : pollMatches mask value d.d0 = true ↔ d.d0 &&& mask = value &&& mask := beq_iff_eq
      refine ⟨fun hmatch => ?_, fun hmatch hleft => ?_, fun hmatch hleft => ?_⟩
      · rw [acked, State.scriptOutcome_match step (hpoll.mpr hmatch)]
        rfl
      · rw [acked, State.scriptOutcome_retry step (mt hpoll.mp hmatch) hleft]
        simp only [BusOutcome.lineEnd, State.setRunning, idle, State.bus_setBus_same]
      · rw [acked, State.scriptOutcome_late step (mt hpoll.mp hmatch) hleft]
        rfl

/-! ### The answer to an open request (R167, R180) -/

/-- The first open request of a name is answered and leaves the list. -/
theorem Link.answer_of_open {l : Link} {pre post : List OpenRequest} {id : Nat} {kind tag : Byte}
    (h : l.opened = pre ++ ⟨id, kind, tag⟩ :: post) (hpre : ∀ o ∈ pre, o.id ≠ id) (status : Status) (body : List Byte) :
    l.answer id status body =
      { l with opened := pre ++ post, outbound := l.outbound ++ [.reply kind tag status body] } := by
  have hfind : l.opened.find? (fun o => o.id == id) = some ⟨id, kind, tag⟩ := by
    rw [h, List.find?_append, List.find?_eq_none.mpr (by simpa using hpre), Option.none_or, List.find?_cons_of_pos (by simp)]
  have herase : l.opened.eraseP (fun o => o.id == id) = pre ++ post := by
    rw [h, List.eraseP_append_right _ (by simpa using hpre), List.eraseP_cons_of_pos (by simp)]
  rw [Link.answer, hfind, herase]
  rfl

/-- Settles O34: the outcome gives the lines, the status and the bytes of the one answer. -/
theorem passThroughAnswered : Obligations.PassThroughAnswered := by
  unfold Obligations.PassThroughAnswered
  intro s x d t p rest pre post kind tag he hq ho hpre ended
  have answered : ∀ (o : BusOutcome) (body : List Byte), t.bytesRead o = body →
      s.endTransaction x o = ended o.lineEnd o.status body := by
    rintro o body rfl
    rw [State.endTransaction_pass he hq]
    simp only [ended, State.answer, State.setBus_link, Link.answer_of_open ho hpre]
    rfl
  refine ⟨?_, congrArg Host.Outcome.next (answered .noAck [] ?_), congrArg Host.Outcome.next (answered .timeout [] ?_)⟩
  · refine congrArg Host.Outcome.next (answered (.ok d) _ ?_)
    cases ht : t.action <;> simp [Transaction.bytesRead, ht, dataList]
  all_goals cases ht : t.action <;> simp [Transaction.bytesRead, ht]

/-! ### Pass-throughs (R166) -/

section Target

variable {s : State} {b : SensorBody}

theorem State.targetOf_camera (hn : inRange 1 4 b.count.toNat = true) (hf : b.form = 0) {c : Cam}
    (hc : b.which.toNat = c.idx) : s.targetOf b = match (s.port c).cal with
      | some k => .resolved k.bus k.address
      | none => .refused .notConfigured := by
  simp [State.targetOf, hn, hf, camOf_of_idx hc] <;> rfl

theorem State.targetOf_address (hn : inRange 1 4 b.count.toNat = true) (hf : b.form = 1) :
    s.targetOf b = if b.address.toNat ≤ 0x7F then
        match b.which.toNat with
        | 0 => .resolved .a b.address.toNat
        | 1 => .resolved .b b.address.toNat
        | _ => .refused .badField
      else .refused .badField := by
  simp [State.targetOf, hn, hf] <;> rfl

end Target

theorem exec_sensorRead {s : State} (ha : s.canAccept) (hm : s.mode ≠ .booting) (tag : Byte) (b : SensorBody) :
    exec (.sensorRead tag b) s = .next (s.taken.takePass 0x14 tag b (.read b.count.toNat)) :=
  congrArg Host.Outcome.next (State.acceptLive_ok ha hm 0x14 tag _)

theorem exec_sensorWrite {s : State} (ha : s.canAccept) (hm : s.mode ≠ .booting) (tag : Byte) (b : SensorBody) (d : Data4) :
    exec (.sensorWrite tag b d) s =
      .next (s.taken.takePass 0x15 tag b (.write ((dataList d).take b.count.toNat))) :=
  congrArg Host.Outcome.next (State.acceptLive_ok ha hm 0x15 tag _)

/-- A target that is refused refuses the request. -/
theorem State.takePass_refused {s : State} {b : SensorBody} {status : Status} (h : s.targetOf b = .refused status)
    (kind tag : Byte) (action : Action) : s.takePass kind tag b action = s.reply kind tag status := by
  simp [State.takePass, h]

/-- A target that is found takes the pass-through while a place is left. -/
theorem State.takePass_resolved {s : State} {b : SensorBody} {x : Bus} {address : Nat}
    (h : s.targetOf b = .resolved x address) (kind tag : Byte) (action : Action) :
    s.takePass kind tag b action = if 8 ≤ (s.bus x).passQueue.length then s.reply kind tag .queueFull
      else s.queuePass kind tag x ⟨address, b.register, action⟩ := by
  simp [State.takePass, h]

/-- Settles O33: the target decides, and the queue of its bus. -/
theorem passThroughQueued : Obligations.PassThroughQueued := by
  unfold Obligations.PassThroughQueued
  intro s tag b d ha hm reads writes refused queued taken
  have hrefused : ∀ status, s.taken.targetOf b = .refused status → refused status := by
    intro status ht
    refine ⟨(exec_sensorRead ha hm tag b).trans ?_, (exec_sensorWrite ha hm tag b d).trans ?_⟩ <;>
      rw [State.takePass_refused ht, State.taken_reply]
  have hresolved : ∀ x address, s.taken.targetOf b = .resolved x address → taken x address := by
    intro x address ht
    refine ⟨fun hfull => ⟨(exec_sensorRead ha hm tag b).trans ?_, (exec_sensorWrite ha hm tag b d).trans ?_⟩, fun hfree =>
      ⟨(exec_sensorRead ha hm tag b).trans ?_, (exec_sensorWrite ha hm tag b d).trans ?_⟩⟩ <;>
      rw [State.takePass_resolved ht]
    · exact congrArg Host.Outcome.next (if_pos hfull)
    · exact congrArg Host.Outcome.next (if_pos hfull)
    · exact congrArg Host.Outcome.next (if_neg (Nat.not_le.mpr hfree))
    · exact congrArg Host.Outcome.next (if_neg (Nat.not_le.mpr hfree))
  refine ⟨fun hbad => hrefused _ ?_, fun h1 h4 => ?_⟩
  · by_cases hn : inRange 1 4 b.count.toNat = true
    · obtain ⟨h1, h4⟩ := inRange_iff.mp hn
      have hform : 1 < b.form.toNat := by
        rcases hbad with h0 | h5 | hform
        · simp [h0] at h1
        · omega
        · exact hform
      obtain ⟨n, hform⟩ : ∃ n, b.form.toNat = n + 2 := ⟨b.form.toNat - 2, by omega⟩
      simp [State.targetOf, hn, hform]
    · simp [State.targetOf, hn]
  · have hn : inRange 1 4 b.count.toNat = true := inRange_iff.mpr ⟨h1, h4⟩
    refine ⟨fun hf hw => hrefused _ ?_, fun c hf hc => ⟨fun hk => hrefused _ ?_, fun k hk => hresolved _ _ ?_⟩,
      fun hf hbad => hrefused _ ?_, fun hf hw haddr => hresolved _ _ ?_, fun hf hw haddr => hresolved _ _ ?_⟩
    · simp [State.targetOf, hn, hf, camOf_of_gt hw]
    · simp [State.targetOf_camera hn hf hc, hk]
    · simp [State.targetOf_camera hn hf hc, hk]
    · rw [State.targetOf_address hn hf]
      split
      · obtain ⟨n, hw⟩ : ∃ n, b.which.toNat = n + 2 := ⟨b.which.toNat - 2, by omega⟩
        rw [hw]
        rfl
      · rfl
    · simp [State.targetOf_address hn hf, hw, haddr]
    · simp [State.targetOf_address hn hf, hw, haddr]

end Sys2Proof.Machine
end

section
/-!
PROOF. LOAD_SCRIPT and SET_OUTPUT_BLANKING, checked and taken (R134, R169), and the reset state's laws.
-/

namespace Sys2Proof.Machine

/-! ### LOAD_SCRIPT (R169) -/

theorem selectorOf_code (sel : Selector) {b : Byte} (h : b.toNat = sel.code.toNat) : selectorOf b = some sel := by
  cases sel <;> simp [selectorOf, h, Selector.code]

theorem selectorOf_of_gt {b : Byte} (h : 1 < b.toNat) : selectorOf b = none := by
  obtain ⟨n, hn⟩ : ∃ n, b.toNat = n + 2 := ⟨_, (Nat.sub_add_cancel h).symm⟩
  simp [selectorOf, hn]

/-- The steps of a script, when none is refused. -/
theorem stepsOfRaw_some {raw : List RawStep} {steps : List Step} (h : raw.map stepOfRaw = steps.map some) :
    stepsOfRaw raw = some steps := by
  induction raw generalizing steps with
  | nil =>
    obtain rfl : steps = [] := by simpa using h.symm
    rfl
  | cons r rest ih =>
    cases steps with
    | nil => simp at h
    | cons st more =>
      obtain ⟨hst, hmore⟩ := List.cons_eq_cons.mp h
      simp only [stepsOfRaw, hst, ih hmore]

/-- One step that is refused refuses the script. -/
theorem stepsOfRaw_none {raw : List RawStep} (h : ∃ r ∈ raw, stepOfRaw r = none) : stepsOfRaw raw = none := by
  induction raw with
  | nil => simp at h
  | cons r rest ih =>
    obtain ⟨q, hq, hnone⟩ := h
    rcases List.mem_cons.mp hq with rfl | hrest
    · simp [stepsOfRaw, hnone]
    · simp [stepsOfRaw, ih ⟨q, hrest, hnone⟩]

/-- The script is in use exactly when it runs on a bus or waits for one. -/
theorem State.scriptInUse_iff {s : State} {c : Cam} {sel : Selector} :
    s.scriptInUse c sel = true ↔ ∃ x, (∃ r, (s.bus x).running = some r ∧ r.run.camera = c ∧ r.run.selector = sel)
      ∨ ∃ r ∈ (s.bus x).waiting, r.camera = c ∧ r.selector = sel := by
  have uses : ∀ x, ((s.bus x).running.any (fun r => r.run.camera == c && r.run.selector == sel)
      || (s.bus x).waiting.any fun r => r.camera == c && r.selector == sel) = true ↔
      (∃ r, (s.bus x).running = some r ∧ r.run.camera = c ∧ r.run.selector = sel)
        ∨ ∃ r ∈ (s.bus x).waiting, r.camera = c ∧ r.selector = sel := by
    intro x
    simp [Option.any_eq_true]
  rw [State.scriptInUse]
  constructor
  · intro h
    obtain ⟨x, -, hx⟩ := List.any_eq_true.mp h
    exact ⟨x, (uses x).mp hx⟩
  · rintro ⟨x, hx⟩
    exact List.any_eq_true.mpr ⟨x, by cases x <;> simp, (uses x).mpr hx⟩

theorem exec_loadScript {s : State} (ha : s.canAccept) (hm : s.mode ≠ .booting) (tag camera selector : Byte)
    (raw : List RawStep) :
    exec (.loadScript tag camera selector raw) s = .next (s.taken.takeScript tag camera selector raw) :=
  congrArg Host.Outcome.next (State.acceptLive_ok ha hm 0x0B tag _)

section Checks

variable {s : State} {tag camera selector : Byte} {raw : List RawStep} {c : Cam} {sel : Selector} {steps : List Step}

/-- What LOAD_SCRIPT does with a script all of whose fields are read. -/
theorem State.takeScript_read (hc : camera.toNat = c.idx) (hs : selector.toNat = sel.code.toNat)
    (hraw : raw.map stepOfRaw = steps.map some) (hlen : raw.length ≤ 24) :
    s.takeScript tag camera selector raw = if s.scriptInUse c sel then s.reply 0x0B tag .busy
      else (s.setScript c sel steps).reply 0x0B tag .ok := by
  simp [State.takeScript, camOf_of_idx hc, selectorOf_code sel hs, stepsOfRaw_some hraw, Config.scriptSteps,
    Nat.not_lt.mpr hlen]

/-- LOAD_SCRIPT refuses a field out of range, too many steps, and a step out of range. -/
theorem State.takeScript_bad (h : 3 < camera.toNat ∨ 1 < selector.toNat ∨ 24 < raw.length ∨ ∃ r ∈ raw, stepOfRaw r = none) :
    s.takeScript tag camera selector raw = s.reply 0x0B tag .badField := by
  unfold State.takeScript
  split
  next c sel steps hc hs hraw =>
    rcases h with h | h | h | h
    · simp [camOf_of_gt h] at hc
    · simp [selectorOf_of_gt h] at hs
    · exact if_pos h
    · simp [stepsOfRaw_none h] at hraw
  next => rfl

end Checks

/-- The bytes of a two-byte field, low byte first. -/
theorem bytes_of_word5 (h : Half) :
    h.extractLsb' 0 8 = BitVec.ofNat 8 h.toNat ∧ h.extractLsb' 8 8 = BitVec.ofNat 8 (h.toNat / 256) :=
  ⟨extract_low h, extract_high h⟩

/-- Settles O35: the checks in order, the use of the script, and the steps byte by byte. -/
theorem loadScriptReplaces : Obligations.LoadScriptReplaces := by
  unfold Obligations.LoadScriptReplaces
  refine ⟨fun s tag camera selector raw ha hm => ?_, fun r => ?_⟩
  · intro answers
    refine ⟨fun hbad => ?_, fun c sel steps hc hs hlen hraw => ⟨fun huse => ?_, fun huse => ?_⟩⟩
    · refine (exec_loadScript ha hm ..).trans ?_
      rw [State.takeScript_bad hbad, State.taken_reply]
    · refine (exec_loadScript ha hm ..).trans ?_
      rw [State.takeScript_read hc hs hraw hlen, if_pos (State.scriptInUse_iff (s := s.taken).mpr huse),
        State.taken_reply]
    · intro old new
      refine (exec_loadScript ha hm ..).trans ?_
      have hfree : ¬ s.taken.scriptInUse c sel = true := by
        rw [State.scriptInUse_iff]
        rintro ⟨x, ⟨r, hr, hcr, hsr⟩ | ⟨r, hr, hcr, hsr⟩⟩
        · exact (huse x).1 r hr ⟨hcr, hsr⟩
        · exact (huse x).2 r hr ⟨hcr, hsr⟩
      rw [State.takeScript_read hc hs hraw hlen, if_neg hfree]
      rfl
  · obtain ⟨hlow, hhigh⟩ := bytes_of_word5 r.word5
    have bounded : ∀ {lo hi n : Nat}, lo ≤ n → n ≤ hi → inRange lo hi n = true := fun h1 h2 => inRange_iff.mpr ⟨h1, h2⟩
    refine ⟨fun hk h1 h4 => ?_, fun hk h0 => ?_, fun hk h1 h1000 => ?_, fun hk hbad => ?_, fun hk h0 => ?_,
      fun hk hbad => ?_, fun hk => ?_⟩
    · simp [stepOfRaw, hk, bounded h1 h4, hlow, hhigh]
    · have hpos : 1 ≤ r.word1.toNat := Nat.one_le_iff_ne_zero.mpr fun h => h0 (BitVec.eq_of_toNat_eq h)
      simp [stepOfRaw, hk, bounded hpos (Nat.le_of_lt_succ r.word1.isLt)]
    · simp [stepOfRaw, hk, bounded h1 h1000]
    · have hout : ¬ inRange 1 4 r.byte3.toNat = true := by
        rw [inRange_iff]
        rcases hbad with h0 | h4
        · simp [h0]
        · omega
      simp [stepOfRaw, hk, hout]
    · simp [stepOfRaw, hk, h0, inRange]
    · have hout : ¬ inRange 1 1000 r.word5.toNat = true := by
        rw [inRange_iff]
        rcases hbad with h0 | h4
        · simp [h0]
        · omega
      simp [stepOfRaw, hk, hout]
    · rcases hk with h0 | h3
      · simp [stepOfRaw, h0]
      · obtain ⟨n, hn⟩ : ∃ n, r.kind.toNat = n + 4 := ⟨_, (Nat.sub_add_cancel h3).symm⟩
        simp [stepOfRaw, hn]

/-! ### SET_OUTPUT_BLANKING (R134) -/

section Blanking

variable {s : State} {b : Blanking}

theorem State.takeBlanking_bad (h : ¬ blankingOk b.hb b.vb = true) (tag : Byte) :
    s.takeBlanking tag b = s.reply 0x04 tag .badField := by
  simp only [State.takeBlanking, h, Bool.not_false, ↓reduceIte]

theorem State.takeBlanking_unset (h : blankingOk b.hb b.vb = true) (hm : s.mode = .config) (hf : s.otg.format = none)
    (tag : Byte) : s.takeBlanking tag b = s.reply 0x04 tag .notConfigured := by
  simp only [State.takeBlanking, h, hm, hf, Bool.not_true, Bool.false_eq_true, and_self, ↓reduceIte]

/-- The blanking is taken: it is the active one in CONFIG and the shadow in RUN. -/
theorem State.takeBlanking_ok (h : blankingOk b.hb b.vb = true) (hset : ¬ (s.mode = .config ∧ s.otg.format = none))
    (tag : Byte) : s.takeBlanking tag b = (s.setBlanking b).reply 0x04 tag .ok := by
  simp only [State.takeBlanking, h, hset, Bool.not_true, Bool.false_eq_true, ↓reduceIte]

end Blanking

theorem exec_setOutputBlanking {s : State} (ha : s.canAccept) (hm : s.mode ≠ .booting) (tag : Byte) (hb vb : Half) :
    exec (.setOutputBlanking tag hb vb) s = .next (s.taken.takeBlanking tag ⟨hb.toNat, vb.toNat⟩) :=
  congrArg Host.Outcome.next (State.acceptLive_ok ha hm 0x04 tag _)

/-- Settles O40: the range, then the format, then by mode. -/
theorem setOutputBlankingByMode : Obligations.SetOutputBlankingByMode := by
  unfold Obligations.SetOutputBlankingByMode
  intro s tag hb vb ha hm fields gives
  have gives_of : ∀ {t : State}, s.taken.takeBlanking tag ⟨hb.toNat, vb.toNat⟩ = t → gives t :=
    fun h => (exec_setOutputBlanking ha hm tag hb vb).trans (congrArg Host.Outcome.next h)
  have hok : blankingOk hb.toNat vb.toNat = true ↔ fields := blankingOk_iff
  refine ⟨fun hbad => gives_of ?_, fun hf hc hn => gives_of ?_, fun hf hc hn => gives_of ?_, fun hf hr => gives_of ?_⟩
  · rw [State.takeBlanking_bad (mt hok.mp hbad), State.taken_reply]
  · rw [State.takeBlanking_unset (s := s.taken) (b := ⟨hb.toNat, vb.toNat⟩) (hok.mpr hf) hc hn, State.taken_reply]
  · have hrun : ¬ s.taken.mode = .run := by simp [hc]
    rw [State.takeBlanking_ok (s := s.taken) (b := ⟨hb.toNat, vb.toNat⟩) (hok.mpr hf) (fun h => hn h.2), State.setBlanking, if_neg hrun]
    rfl
  · rw [State.takeBlanking_ok (s := s.taken) (b := ⟨hb.toNat, vb.toNat⟩) (hok.mpr hf) (fun h => by simp [hr] at h), State.setBlanking,
      if_pos (c := s.taken.mode = .run) hr]
    rfl

/-! ### The reset state (R27, R39, R53, R84, R105, R118, R132, R149, R163, R177) -/

theorem Link.reset_law : State.reset.link.Law := ⟨rfl, Nat.zero_le _, Nat.zero_le _, rfl⟩

theorem State.reset_openLaw : State.reset.OpenLaw :=
  ⟨.refl _, .nil, fun _ h => absurd h List.not_mem_nil⟩

theorem State.reset_runLaw : State.reset.RunLaw := by
  refine ⟨fun c => ?_, fun c => ?_, fun x r hr => ?_⟩
  · rw [State.reset_port]; rfl
  · rw [State.reset_port]; rfl
  · rw [State.reset_bus] at hr; cases hr

theorem State.reset_channelLaw : State.reset.ChannelLaw := ⟨fun _ => rfl, fun _ => rfl⟩

theorem State.reset_countdownLaw (c : Cam) : State.reset.CountdownLaw c := by
  constructor <;> simp [Port.reset, Monitor.reset, CamState.takes]

theorem Port.reset_drainLaw : Port.reset.DrainLaw := by
  constructor <;> simp [Port.reset]

theorem State.reset_ringsLaw : State.reset.RingsLaw := by
  refine ⟨fun c => ⟨?_, ?_, ?_, ?_⟩, fun _ => rfl⟩
  · simp [Port.reset]
  · simpa using Port.reset_drainLaw
  · simp [Port.reset]
  · rintro k role ⟨⟩

theorem State.reset_storeLaw : State.reset.StoreLaw := by simp [State.StoreLaw, Port.reset]

theorem HandoffSettings.default_law : HandoffSettings.default.Law := by
  constructor <;> decide

theorem Zoom.reset_engineLaw : Zoom.reset.EngineLaw where
  engine := trivial
  view := trivial
  applied := HandoffSettings.default_law
  pending _ h := by simp [Zoom.reset] at h
  weight _ h := by simp [Zoom.reset] at h

theorem Zoom.reset_rampLaw : Zoom.reset.RampLaw := by
  constructor <;> simp [Zoom.reset]

theorem Corr.identity_law : Corr.identity.Law := by
  constructor <;> decide

theorem State.reset_priorLaw : State.reset.PriorLaw := by
  have none : ∀ c, State.reset.zoom.priorM.get c = none := fun c => Quad.get_const _ c
  exact ⟨fun _ => none, fun c h => by simp [none c] at h, fun c _ => none c⟩

/-- Settles O60: every law of the reset values. -/
theorem resetMeetsLaws : Obligations.ResetMeetsLaws :=
  ⟨Link.reset_law, State.reset_openLaw, Arbiter.reset_law, .of_reset rfl rfl rfl rfl, State.reset_runLaw,
    State.reset_channelLaw, State.reset_countdownLaw, State.reset_ringsLaw, State.reset_storeLaw, Zoom.reset_engineLaw,
    Zoom.reset_rampLaw, ⟨Corr.identity_law, Corr.identity_law⟩, State.reset_priorLaw⟩

end Sys2Proof.Machine
end

section
/-!
PROOF. STOP_CAMERA (R12, R13, R35, R174): the camera's work cleared, the STOP run placed, and the START run of a LOADING
camera aborted.
-/

namespace Sys2Proof.Machine

/-! ### The work cleared (R12) -/

theorem Slot.stopped_eq (x : Slot) : x.stopped = if x.pin = .none then
    { x with state := .free, release := false, outstanding := 0, full := none, region := none }
    else { x with release := true } := by
  rw [Slot.stopped]
  split
  next h => simp [Slot.freed, ← h]
  next => rfl

/-- The port after steps 2 to 4 of R12, in state `state`. -/
def Port.stoppedTo (p : Port) (state : CamState) : Port :=
  { p with
    state := state, buffer := if p.inFlight then p.buffer.take 1 else [], ring := p.ring.map fun x => if x.pin = .none then
      { x with state := .free, release := false, outstanding := 0, full := none, region := none }
      else { x with release := true }
    sums := .zero, region := none, pattern := none }

theorem Port.stopWork_to (p : Port) (state : CamState) : { p.stopWork with state := state } = p.stoppedTo state := by
  simp only [Port.stopWork, Port.withdrawAll_eq, Port.stoppedTo, ← Slot.stopped_eq]

/-- The state after steps 2 to 4 of R12 and the change to `state` (R13, R35). -/
def State.stoppedTo (s : State) (c : Cam) (state : CamState) : State :=
  ((s.setPort c ((s.port c).stoppedTo state)).setMonitor c { s.monitor c with countdown := none }).raise
    (.cameraState c (s.port c).state state .request)

section Stop

variable {s : State} {c : Cam}

/-- The work cleared and the state changed. -/
theorem State.stopWork_changeState (state : CamState) :
    ((s.setPort c (s.port c).stopWork).disarm c).changeState c state .request = s.stoppedTo c state := by
  rw [State.stoppedTo, ← Port.stopWork_to]
  simp [State.changeState_eq, State.disarm, Port.stopWork, Port.withdrawAll_eq]

/-- A camera without a STOP script to run is OFF at once. -/
theorem State.stopStep_off (h : (s.port c).startMode = .pattern ∨ s.scriptOf c .stop = []) :
    ((s.setPort c (s.port c).stopWork).disarm c).stopStep c = s.stoppedTo c .off := by
  rw [← State.stopWork_changeState]
  refine if_neg fun ⟨hlive, hsteps⟩ => ?_
  rcases h with h | h
  · simp [Port.stopWork, Port.withdrawAll_eq, h] at hlive
  · exact hsteps (congrArg List.isEmpty h)

/-- A camera with a STOP script is STOPPING, its run placed on the bus of its calibration part. -/
theorem State.stopStep_stopping {k : Cal} (hk : (s.port c).cal = some k) (hlive : (s.port c).startMode = .live)
    (hne : s.scriptOf c .stop ≠ []) :
    ((s.setPort c (s.port c).stopWork).disarm c).stopStep c = (s.stoppedTo c .stopping).setBus k.bus
      ((s.bus k.bus).placed ⟨c, .stop, k.address⟩ (s.scriptOf c .stop).head? s.timebase) := by
  have hruns : ((s.setPort c (s.port c).stopWork).disarm c).stopStep c =
      (((s.setPort c (s.port c).stopWork).disarm c).changeState c .stopping .request).queueRun c .stop := by
    refine if_pos ⟨?_, ?_⟩
    · simp [Port.stopWork, Port.withdrawAll_eq, hlive]
    · exact fun h => hne (List.isEmpty_iff.mp h)
  have hcal : ((s.stoppedTo c .stopping).port c).cal = some k := by simp [State.stoppedTo, Port.stoppedTo, hk]
  rw [hruns, State.stopWork_changeState, State.queueRun_eq hcal]
  rfl

/-- Outside LOADING there is no START run to abort. -/
theorem State.stopCamera_of_ne (h : (s.port c).state ≠ .loading) :
    s.stopCamera c = ((s.setPort c (s.port c).stopWork).disarm c).stopStep c := by
  simp only [State.stopCamera, State.abortLoading, h, ↓reduceIte]

end Stop

/-- Settles O19: the work cleared, then OFF or the STOP run placed. -/
theorem stopCameraClearsWork : Obligations.StopCameraClearsWork := by
  unfold Obligations.StopCameraClearsWork
  intro s tag camera c k ha hm hc hf hk hstate p steps bus ring stopped stopping
  have hne : (s.port c).state ≠ .loading ∧ ¬ ((s.port c).state = .off ∨ (s.port c).state = .stopping) := by
    rcases hstate with h | h | h | h <;> simp [h]
  have accepted : exec (.stopCamera tag camera) s = .next ((((s.answered 0x0D tag .ok).setPort c
      (s.port c).stopWork).disarm c).stopStep c) := by
    rw [exec_stopCamera ha hm, State.takeStop_ok (s := s.taken) hc (Port.configured_of_parts hf hk) hne.2,
      State.taken_reply, State.stopCamera_of_ne (s := s.answered 0x0D tag .ok) hne.1]
    rfl
  have placed : ∀ b, p.startMode = .live → steps ≠ [] →
      bus.placed ⟨c, .stop, k.address⟩ steps.head? s.timebase = b → stopping b := by
    rintro b hlive hsteps rfl
    exact accepted.trans (congrArg Host.Outcome.next
      (State.stopStep_stopping (s := s.answered 0x0D tag .ok) hk hlive hsteps))
  refine ⟨fun hoff => ?_, fun r hlive hsteps hr => placed _ hlive hsteps (BusState.placed_taken hr _),
    fun st rest hlive hst hr => ?_⟩
  · exact accepted.trans (congrArg Host.Outcome.next (State.stopStep_off (s := s.answered 0x0D tag .ok) hoff))
  · have hsteps : steps ≠ [] := by simp [hst]
    have first : steps.head? = some st := by simp [hst]
    rw [first] at placed
    refine ⟨fun he => placed _ hlive hsteps ((BusState.placed_free hr _).trans ((BusState.begins_busy he _).trans ?_)),
      fun he => ?_⟩
    · cases st <;> rfl
    · cases st with
      | write g data =>
        exact placed _ hlive hsteps ((BusState.placed_free hr _).trans (BusState.begins_transaction he rfl))
      | poll g mask value timeout =>
        exact placed _ hlive hsteps ((BusState.placed_free hr _).trans (BusState.begins_transaction he rfl))
      | wait d => exact placed _ hlive hsteps ((BusState.placed_free hr _).trans (BusState.begins_wait he))

/-! ### The START run aborted (R174) -/

/-- No START run of camera `c` stands on the bus but one that is marked already. -/
def BusState.QuietFor (b : BusState) (c : Cam) : Prop :=
  (∀ q ∈ b.waiting, ¬ (q.camera = c ∧ q.selector = .start)) ∧
    (∀ r, b.running = some r → r.run.camera = c ∧ r.run.selector = .start → r.abort = true ∧ r.phase = .onBus)

theorem Run.isStart_iff {c : Cam} {r : Run} : r.isStart c = true ↔ r.camera = c ∧ r.selector = .start := by
  simp [Run.isStart]

/-- A bus whose running script has ended: the next waiting run starts, and the engine is given by rule. -/
def BusState.ended (b : BusState) (first : Run → Option Step) (now : Word) : BusState :=
  match b.waiting with
  | w :: rest => { b with waiting := rest }.begins w (first w) now
  | [] => { b with running := none, engine := if b.engine = none then b.passNext else b.engine }

/-- The runner handed on and the bus given by rule. -/
theorem State.handedOn_giveBus (s : State) (x : Bus) :
    (s.setBus x ((s.bus x).handedOn s.firstStep? s.timebase)).giveBus x =
      s.setBus x ((s.bus x).ended s.firstStep? s.timebase) := by
  cases hw : (s.bus x).waiting with
  | nil =>
    simp only [BusState.handedOn, BusState.ended, hw]
    by_cases he : (s.bus x).engine = none
    · rw [State.giveBus_pass (by simp [he]) (by simp)]
      simp [he, BusState.passNext]
    · rw [State.giveBus_busy (by simp [he])]
      simp [he]
  | cons w rest =>
    have started := State.startRun_giveBus (s.setBus x { s.bus x with waiting := rest }) x w
    rw [State.startRun_eq] at started
    simpa [BusState.handedOn, BusState.ended, hw, State.firstStep?] using started

section Abort

variable {s : State} {c : Cam} {x : Bus}

theorem any_isStart_false {l : List Run} (h : ∀ q ∈ l, ¬ (q.camera = c ∧ q.selector = .start)) :
    ¬ l.any (Run.isStart c) = true := by
  rw [List.any_eq_true]
  rintro ⟨q, hq, hstart⟩
  exact h q hq (Run.isStart_iff.mp hstart)

/-- On a quiet bus nothing is aborted. -/
theorem State.abortOn_quiet (h : (s.bus x).QuietFor c) : s.abortOn x c = s := by
  rw [State.abortOn, if_neg (any_isStart_false h.1)]
  cases hr : (s.bus x).running with
  | none => rfl
  | some r =>
    dsimp only
    split
    next hstart =>
      obtain ⟨hmark, hphase⟩ := h.2 r hr (Run.isStart_iff.mp hstart)
      have hsame : { s.bus x with running := some { r with abort := true } } = s.bus x := by rw [← hmark, ← hr]
      rw [if_pos hphase, State.setRunning, hsame, State.setBus_self]
    next => rfl

/-- A waiting START run is withdrawn. -/
theorem State.abortOn_waiting {pre post : List Run} {run : Run} (h : (s.bus x).waiting = pre ++ run :: post)
    (hrun : run.camera = c ∧ run.selector = .start) (hpre : ∀ q ∈ pre, ¬ (q.camera = c ∧ q.selector = .start)) :
    s.abortOn x c = (s.setBus x { s.bus x with waiting := pre ++ post }).raise (.scriptDone c .start .aborted 0 .none) := by
  have hany : (s.bus x).waiting.any (Run.isStart c) = true :=
    List.any_eq_true.mpr ⟨run, by simp [h], Run.isStart_iff.mpr hrun⟩
  have herase : (s.bus x).waiting.eraseP (Run.isStart c) = pre ++ post := by
    rw [h, List.eraseP_append_right _ fun q hq => by simpa using mt Run.isStart_iff.mp (hpre q hq),
      List.eraseP_cons_of_pos (Run.isStart_iff.mpr hrun)]
  rw [State.abortOn, if_pos hany, herase]

/-- A running START run on the bus is marked. -/
theorem State.abortOn_marks {r : Running} (hr : (s.bus x).running = some r)
    (hrun : r.run.camera = c ∧ r.run.selector = .start)
    (hw : ∀ q ∈ (s.bus x).waiting, ¬ (q.camera = c ∧ q.selector = .start)) (hp : r.phase = .onBus) :
    s.abortOn x c = s.setBus x { s.bus x with running := some { r with abort := true } } := by
  rw [State.abortOn, if_neg (any_isStart_false hw)]
  simp only [hr, Run.isStart_iff.mpr hrun, hp, ↓reduceIte, State.setRunning]

/-- A running START run that is not on the bus ends at once; the port takes no notice of an abort. -/
theorem State.abortOn_ends {r : Running} (hr : (s.bus x).running = some r)
    (hrun : r.run.camera = c ∧ r.run.selector = .start)
    (hw : ∀ q ∈ (s.bus x).waiting, ¬ (q.camera = c ∧ q.selector = .start)) (hp : r.phase ≠ .onBus) :
    s.abortOn x c = (s.raise (.scriptDone c .start .aborted r.step .none)).setBus x
      ((s.bus x).ended s.firstStep? s.timebase) := by
  rw [State.abortOn, if_neg (any_isStart_false hw)]
  simp only [hr, Run.isStart_iff.mpr hrun, hp, ↓reduceIte]
  obtain ⟨rfl, hsel⟩ := hrun
  rw [State.endScript_of_report (hsel ▸ State.reportScript_start_disregarded (.inr rfl)), State.handedOn_giveBus, hsel]
  rfl

/-- With no START run on the other bus, what is done on one bus is the abort. -/
theorem State.abortStart_eq {ns : List Notice} {b : BusState} (hquiet : ∀ y, y ≠ x → (s.bus y).QuietFor c)
    (h : s.abortOn x c = (s.raiseAll ns).setBus x b) : s.abortStart c = (s.raiseAll ns).setBus x b := by
  cases x with
  | a =>
    have hother : ((s.abortOn .a c).bus .b).QuietFor c := by
      rw [h, State.bus_setBus_ne _ _ (by decide), State.bus, State.raiseAll_relay]
      exact hquiet .b (by decide)
    rw [State.abortStart, State.abortOn_quiet hother, h]
  | b => rw [State.abortStart, State.abortOn_quiet (hquiet .a (by decide)), h]

end Abort

/-- The stop of a LOADING camera once its abort is known. -/
theorem State.stopCamera_loading {s t : State} {c : Cam} (h : (s.port c).state = .loading) (ht : s.abortStart c = t) :
    s.stopCamera c = ((t.setPort c (t.port c).stopWork).disarm c).stopStep c := by
  simp only [State.stopCamera, State.abortLoading, h, ↓reduceIte, ht]

/-- Settles O20: what the abort leaves on its bus, and then the stop of any camera. -/
theorem stopCameraAbortsStart : Obligations.StopCameraAbortsStart := by
  unfold Obligations.StopCameraAbortsStart
  intro s tag camera c k x ha hm hc hf hk hl p steps isStart quiet first pass begins ended placed stopped leaves hquiet
  have hstate : ¬ ((s.port c).state = .off ∨ (s.port c).state = .stopping) := by simp [hl]
  have accepted : exec (.stopCamera tag camera) s = .next ((s.answered 0x0D tag .ok).stopCamera c) := by
    rw [exec_stopCamera ha hm, State.takeStop_ok (s := s.taken) hc (Port.configured_of_parts hf hk) hstate, State.taken_reply]
  have hfirst : ∀ w, s.firstStep? w = first w := by
    intro w
    unfold State.firstStep? State.scriptOf
    cases hsel : w.selector <;> simp [first, hsel]
  have hbegins : ∀ (b : BusState) (w : Run), b.begins w (first w) s.timebase = begins b w := by
    intro b w
    cases he : b.engine <;> cases hw : first w with
    | none => simp [BusState.begins, begins, he, hw, BusState.withRun, firstPhase, BusState.passNext, pass]
    | some st => cases st <;> simp [BusState.begins, begins, he, hw, BusState.withRun, firstPhase, Step.firstPhase,
        Step.transaction, BusState.passNext, pass]
  have hended : ∀ b : BusState, b.ended s.firstStep? s.timebase = ended b := by
    intro b
    cases hw : b.waiting with
    | nil => simp [BusState.ended, ended, hw, BusState.passNext, pass]
    | cons w rest => simp [BusState.ended, ended, hw, hfirst, hbegins]
  have hplaced : ∀ b : BusState, b.placed ⟨c, .stop, k.address⟩ steps.head? s.timebase = placed b := by
    intro b
    cases hr : b.running with
    | some r => simp [BusState.placed, placed, hr]
    | none => simpa [BusState.placed, placed, hr] using hbegins b ⟨c, .stop, k.address⟩
  have left : ∀ (notice : Option Notice) (b : BusState),
      (s.answered 0x0D tag .ok).abortOn x c = ((s.answered 0x0D tag .ok).raiseAll notice.toList).setBus x b →
      leaves notice b := by
    intro notice b h
    have cleared := accepted.trans (congrArg Host.Outcome.next
      (State.stopCamera_loading (s := s.answered 0x0D tag .ok) hl (State.abortStart_eq hquiet h)))
    generalize ht : ((s.answered 0x0D tag .ok).raiseAll notice.toList).setBus x b = t at cleared
    have hport : t.port c = s.port c := by subst ht; cases notice <;> rfl
    have hscripts : ∀ sel, t.scriptOf c sel = s.scriptOf c sel := by subst ht; cases notice <;> exact fun _ => rfl
    have hbus : t.bus k.bus = (s.setBus x b).bus k.bus := by subst ht; cases notice <;> rfl
    have hnow : t.timebase = s.timebase := by subst ht; cases notice <;> rfl
    have hstopped : ∀ state, t.stoppedTo c state = (stopped state notice).setBus x b := by
      intro state
      rw [State.stoppedTo, hport, hl]
      subst ht
      cases notice <;> rfl
    refine ⟨fun hoff => cleared.trans (congrArg Host.Outcome.next ?_),
      fun hlive hsteps => cleared.trans (congrArg Host.Outcome.next ?_)⟩
    · rw [State.stopStep_off (s := t) (by rw [hport, hscripts]; exact hoff), hstopped]
    · rw [State.stopStep_stopping (s := t) (hport ▸ hk) (hport ▸ hlive) (hscripts _ ▸ hsteps), hstopped, hbus, hscripts, hnow]
      exact congrArg _ (hplaced _)
  refine ⟨fun h => left none _ ?_, fun pre run post hw hrun hpre => left (some _) _ ?_,
    fun r hr hrun hw => ⟨fun hp => left none _ ?_, fun hp => left (some _) _ ?_⟩⟩
  · rw [State.abortOn_quiet (s := s.answered 0x0D tag .ok) h]
    exact (State.setBus_self _ _).symm
  · exact State.abortOn_waiting (s := s.answered 0x0D tag .ok) hw hrun hpre
  · exact State.abortOn_marks (s := s.answered 0x0D tag .ok) hr hrun hw hp
  · rw [State.abortOn_ends (s := s.answered 0x0D tag .ok) hr hrun hw hp, ← hended]
    rfl

end Sys2Proof.Machine
end

section
/-!
PROOF. The script runs of the cameras (R170, R174): each camera has one START run exactly in LOADING and one STOP run exactly
in STOPPING, beside START runs that are being aborted; and with it all that O56 says of tables and capacities.
-/

namespace Sys2Proof.Machine

/-! ### Runs counted (R170) -/

/-- The run is the one of a camera's script. -/
def Run.of (c : Cam) (sel : Selector) (r : Run) : Bool := r.camera == c && r.selector == sel

/-- The state of a camera while a script of it is to run. -/
def Selector.busy : Selector → CamState
  | .start => .loading
  | .stop => .stopping

/-- What the runner counts for a script: a run without an abort mark. -/
def Running.live (r : Running) (c : Cam) (sel : Selector) : Nat := if r.run.of c sel && !r.abort then 1 else 0

theorem Run.of_iff {c : Cam} {sel : Selector} {r : Run} : r.of c sel = true ↔ r.camera = c ∧ r.selector = sel := by
  simp [Run.of]

theorem BusState.liveRuns_eq (b : BusState) (c : Cam) (sel : Selector) :
    b.liveRuns c sel = b.waiting.countP (Run.of c sel) + (b.running.elim 0 fun r => r.live c sel) := by
  unfold BusState.liveRuns
  congr 1
  cases b.running with
  | none => rfl
  | some r =>
    cases h : r.abort <;> simp [Running.live, Run.of_iff, h]

theorem BusState.liveRuns_running {b : BusState} {r : Running} (h : b.running = some r) (c : Cam) (sel : Selector) :
    b.liveRuns c sel = b.waiting.countP (Run.of c sel) + r.live c sel := by
  rw [BusState.liveRuns_eq, h]; rfl

/-- One bus replaced, the rest counts as before. -/
theorem State.liveRuns_setBus (s : State) (x : Bus) (b : BusState) (c : Cam) (sel : Selector) :
    (s.setBus x b).liveRuns c sel + (s.bus x).liveRuns c sel = s.liveRuns c sel + b.liveRuns c sel := by
  unfold State.liveRuns
  cases x
  · rw [State.bus_setBus_same, State.bus_setBus_ne s (x := .a) (y := .b) b (by decide)]
    omega
  · rw [State.bus_setBus_same, State.bus_setBus_ne s (x := .b) (y := .a) b (by decide)]
    omega

theorem State.liveRuns_setBus_add {s : State} {x : Bus} {b : BusState} {c : Cam} {sel : Selector} {n : Nat}
    (h : b.liveRuns c sel = (s.bus x).liveRuns c sel + n) : (s.setBus x b).liveRuns c sel = s.liveRuns c sel + n := by
  have := State.liveRuns_setBus s x b c sel
  omega

theorem State.liveRuns_setBus_sub {s : State} {x : Bus} {b : BusState} {c : Cam} {sel : Selector} {n : Nat}
    (h : b.liveRuns c sel + n = (s.bus x).liveRuns c sel) : (s.setBus x b).liveRuns c sel + n = s.liveRuns c sel := by
  have := State.liveRuns_setBus s x b c sel
  omega

/-- The counts depend on the waiting runs and the runner alone. -/
theorem State.liveRuns_congr {s t : State} (h : ∀ x, (t.bus x).waiting = (s.bus x).waiting
    ∧ (t.bus x).running = (s.bus x).running) (c : Cam) (sel : Selector) : t.liveRuns c sel = s.liveRuns c sel := by
  simp only [State.liveRuns, BusState.liveRuns_eq, h]

/-! ### Abort marks (R174) -/

/-- A mark stands only on a START run whose transaction is on the bus. -/
def State.Marks (s : State) : Prop :=
  ∀ x r, (s.bus x).running = some r → r.abort = true → r.phase = .onBus ∧ r.run.selector = .start

theorem State.runLaw_iff {s : State} : s.RunLaw ↔
    (∀ c sel, s.liveRuns c sel = if (s.port c).state = sel.busy then 1 else 0) ∧ s.Marks :=
  ⟨fun h => ⟨fun c sel => by cases sel; exacts [h.start c, h.stop c], h.aborted⟩,
    fun h => ⟨fun c => h.1 c .start, fun c => h.1 c .stop, h.2⟩⟩

theorem State.Marks.setBus {s : State} {x : Bus} {b : BusState} (h : s.Marks)
    (hb : ∀ r, b.running = some r → r.abort = true → r.phase = .onBus ∧ r.run.selector = .start) : (s.setBus x b).Marks := by
  intro y r hr ha
  by_cases hy : y = x
  · rw [hy, State.bus_setBus_same] at hr
    exact hb r hr ha
  · rw [State.bus_setBus_ne s b hy] at hr
    exact h y r hr ha

theorem State.Marks.congr {s t : State} (h : s.Marks) (hr : ∀ x, (t.bus x).running = (s.bus x).running) : t.Marks :=
  fun x r hx => h x r (hr x ▸ hx)

/-! ### What the operations of a bus do to its runs -/

/-- Giving the bus on starts no run and ends none. -/
theorem State.giveBus_runs {s : State} (x : Bus) (hm : s.Marks) :
    (∀ c sel, (s.giveBus x).liveRuns c sel = s.liveRuns c sel) ∧ (s.giveBus x).Marks := by
  have same : ∀ (e : Option Busy) (q : Option Running), (∀ c sel, (q.elim 0 fun r => r.live c sel)
      = ((s.bus x).running.elim 0 fun r => r.live c sel)) →
      ∀ c sel, (s.setBus x { s.bus x with engine := e, running := q }).liveRuns c sel = s.liveRuns c sel :=
    fun e q hq c sel => State.liveRuns_setBus_add (n := 0) (by simp only [BusState.liveRuns_eq, hq, Nat.add_zero])
  by_cases he : (s.bus x).engine = none
  · by_cases hr : ∃ r t, (s.bus x).running = some r ∧ r.phase = .ready ∧
        (s.stepOf r).bind (Step.transaction r.run.address) = some t
    · obtain ⟨r, t, hr, hp, ht⟩ := hr
      rw [State.giveBus_step he hr hp ht]
      refine ⟨same _ _ fun c sel => by rw [hr]; rfl, hm.setBus fun q hq ha => ?_⟩
      cases hq
      have := (hm x r hr ha).1
      rw [hp] at this
      cases this
    · rw [State.giveBus_pass he fun r hrun hp => by
        by_contra hne
        obtain ⟨t, ht⟩ := Option.ne_none_iff_exists'.mp hne
        exact hr ⟨r, t, hrun, hp, ht⟩]
      exact ⟨same _ _ fun _ _ => rfl, hm.setBus (hm x)⟩
  · rw [State.giveBus_busy he]
    exact ⟨fun _ _ => rfl, hm⟩

/-- The runner hands on: the run that ran counts no longer. -/
theorem State.handedOn_runs {s : State} {x : Bus} {r : Running} (hr : (s.bus x).running = some r)
    (first : Run → Option Step) (now : Word) (c : Cam) (sel : Selector) :
    (s.setBus x ((s.bus x).handedOn first now)).liveRuns c sel + r.live c sel = s.liveRuns c sel := by
  have h := State.liveRuns_setBus s x ((s.bus x).handedOn first now) c sel
  rw [BusState.liveRuns_running hr] at h
  have handed : ((s.bus x).handedOn first now).liveRuns c sel = (s.bus x).waiting.countP (Run.of c sel) := by
    cases hw : (s.bus x).waiting with
    | nil => simp [BusState.handedOn, hw, BusState.liveRuns_eq]
    | cons w rest =>
      simp only [BusState.handedOn, hw, BusState.withRun, BusState.liveRuns_eq, List.countP_cons, Running.live, Option.elim]
      cases w.of c sel <;> simp
  omega

theorem State.Marks.handedOn {s : State} (h : s.Marks) (x : Bus) (first : Run → Option Step) (now : Word) :
    (s.setBus x ((s.bus x).handedOn first now)).Marks := by
  refine h.setBus fun r hr ha => ?_
  cases hw : (s.bus x).waiting <;> simp only [BusState.handedOn, hw, BusState.withRun] at hr <;> cases hr
  cases ha

/-- A camera's run placed counts one more. -/
theorem State.queueRun_runs {s : State} {c : Cam} {k : Cal} (hk : (s.port c).cal = some k) (sel : Selector) (hm : s.Marks) :
    (∀ d sel', (s.queueRun c sel).liveRuns d sel' = s.liveRuns d sel' + if d = c ∧ sel' = sel then 1 else 0)
      ∧ (s.queueRun c sel).Marks := by
  have one : ∀ d sel', (if Run.of d sel' ⟨c, sel, k.address⟩ then 1 else 0) = if d = c ∧ sel' = sel then 1 else 0 := by
    intro d sel'
    simp only [Run.of_iff]
    exact if_congr ⟨fun ⟨h, h'⟩ => ⟨h.symm, h'.symm⟩, fun ⟨h, h'⟩ => ⟨h.symm, h'.symm⟩⟩ rfl rfl
  unfold State.queueRun
  simp only [hk]
  cases hr : (s.bus k.bus).running with
  | none =>
    dsimp only
    rw [State.startRun_eq]
    obtain ⟨hruns, hmarks⟩ := State.giveBus_runs (s := s.setBus k.bus ((s.bus k.bus).withRun ⟨c, sel, k.address⟩
      (s.scriptOf c sel).head? s.timebase)) k.bus (hm.setBus fun r hr ha => by cases hr; cases ha)
    refine ⟨fun d sel' => (hruns d sel').trans (State.liveRuns_setBus_add ?_), hmarks⟩
    simp only [BusState.withRun, BusState.liveRuns_eq, hr, Option.elim, Running.live, Bool.not_false, Bool.and_true, one,
      Nat.add_zero]
  | some r =>
    dsimp only
    refine ⟨fun d sel' => State.liveRuns_setBus_add ?_, hm.setBus fun q hq => hm k.bus q (hr.trans hq)⟩
    simp only [BusState.liveRuns_eq, hr, List.countP_append, List.countP_singleton, one]
    omega

/-! ### The law carried along -/

/-- The law reads the buses' runs, and of the cameras only whether they are LOADING or STOPPING. -/
theorem State.RunLaw.congr {s t : State} (h : s.RunLaw) (hb : ∀ x, (t.bus x).waiting = (s.bus x).waiting
    ∧ (t.bus x).running = (s.bus x).running)
    (hp : ∀ c (sel : Selector), (t.port c).state = sel.busy ↔ (s.port c).state = sel.busy) : t.RunLaw := by
  obtain ⟨hcount, hmarks⟩ := State.runLaw_iff.mp h
  refine State.runLaw_iff.mpr ⟨fun c sel => ?_, hmarks.congr fun x => (hb x).2⟩
  rw [State.liveRuns_congr hb, hcount]
  exact if_congr (hp c sel).symm rfl rfl

/-- The law with the buses changed and no camera's state. -/
theorem State.RunLaw.of_runs {s t : State} (h : s.RunLaw) (hp : ∀ c, (t.port c).state = (s.port c).state)
    (ht : (∀ c sel, t.liveRuns c sel = s.liveRuns c sel) ∧ t.Marks) : t.RunLaw := by
  obtain ⟨hcount, -⟩ := State.runLaw_iff.mp h
  exact State.runLaw_iff.mpr ⟨fun c sel => by rw [ht.1, hcount, hp], ht.2⟩

theorem State.setPort_state {s : State} {c : Cam} {p : Port} (h : p.state = (s.port c).state) (d : Cam) :
    ((s.setPort c p).port d).state = (s.port d).state := by
  by_cases hd : d = c
  · rw [hd, State.port_setPort_same, h]
  · rw [State.port_setPort_ne s p hd]

/-- A camera that has no script to run before and after. -/
theorem State.RunLaw.setIdle {s : State} (h : s.RunLaw) {c : Cam} {p : Port}
    (ho : ∀ sel : Selector, (s.port c).state ≠ sel.busy) (hn : ∀ sel : Selector, p.state ≠ sel.busy) :
    (s.setPort c p).RunLaw := by
  refine h.congr (fun _ => ⟨rfl, rfl⟩) fun d sel => ?_
  by_cases hd : d = c
  · rw [hd, State.port_setPort_same]
    exact iff_of_false (hn sel) (ho sel)
  · rw [State.port_setPort_ne s p hd]

theorem CamState.takes_not_busy {x : CamState} (h : x.takes = true) (sel : Selector) : x ≠ sel.busy := by
  cases sel <;> rintro rfl <;> cases h

theorem State.Frames.runLaw {s t : State} (h : s.Frames t) (hs : s.RunLaw) : t.RunLaw := by
  induction h with
  | refl => exact hs
  | trans _ _ ih1 ih2 => exact ih2 (ih1 hs)
  | raise s n => exact hs.congr (fun _ => ⟨rfl, rfl⟩) fun _ _ => Iff.rfl
  | port s c p hp => exact hs.congr (fun _ => ⟨rfl, rfl⟩) fun d sel => by rw [State.setPort_state hp.frame.1]
  | status s c x m ht hx _ =>
    have idle : ∀ sel : Selector, x ≠ sel.busy := by
      rcases hx with hx | rfl
      · exact CamState.takes_not_busy hx
      · exact fun sel => by cases sel <;> nofun
    exact (hs.setIdle (p := { s.port c with state := x }) (CamState.takes_not_busy ht) idle).congr
      (fun _ => ⟨rfl, rfl⟩) fun _ _ => Iff.rfl

/-! ### The end of a script (R173) -/

theorem Running.live_marked {r : Running} (h : r.abort = true) (c : Cam) (sel : Selector) : r.live c sel = 0 := by
  simp [Running.live, h]

theorem Running.live_unmarked {r : Running} (h : r.abort = false) (c : Cam) (sel : Selector) :
    r.live c sel = if r.run.camera = c ∧ r.run.selector = sel then 1 else 0 := by
  simp [Running.live, h, Run.of_iff]

@[simp] theorem State.arm_bus (s : State) (c : Cam) (k : Cal → Nat) (x : Bus) : (s.arm c k).bus x = s.bus x := by
  unfold State.arm
  split <;> rfl

/-- A report changes no bus. -/
theorem State.reportScript_bus (s : State) (c : Cam) (sel : Selector) (result : ScriptResult) (x : Bus) :
    (s.reportScript c sel result).bus x = s.bus x := by
  unfold State.reportScript
  cases sel <;> dsimp only <;> split
  · cases result with
    | ok => simp [State.changeState_eq]
    | failed => simp [State.enterFaulted_eq]
    | aborted => rfl
  · rfl
  · rfl
  · rfl

/-- A script that has come to its end leaves the camera in a state in which it has none to run. -/
theorem State.reportScript_over {s : State} {c : Cam} {sel : Selector} {result : ScriptResult}
    (hs : (s.port c).state = sel.busy) (hr : result ≠ .aborted) :
    (∀ sel' : Selector, ((s.reportScript c sel result).port c).state ≠ sel'.busy)
      ∧ ∀ d, d ≠ c → (s.reportScript c sel result).port d = s.port d := by
  have leaves : ∀ {x : CamState} (t : State), (∀ sel' : Selector, x ≠ sel'.busy) → (t.port c).state = x →
      (∀ d, d ≠ c → t.port d = s.port d) → s.reportScript c sel result = t →
      (∀ sel' : Selector, ((s.reportScript c sel result).port c).state ≠ sel'.busy)
        ∧ ∀ d, d ≠ c → (s.reportScript c sel result).port d = s.port d := by
    rintro x t hx ht hd rfl
    exact ⟨fun sel' => ht ▸ hx sel', hd⟩
  cases sel with
  | stop =>
    exact leaves (x := .off) _ (fun sel' => by cases sel' <;> nofun) (by simp) (fun d hd => by simp [State.port_setPort_ne _ _ hd])
      (State.reportScript_stop hs result)
  | start =>
    cases result with
    | aborted => exact absurd rfl hr
    | ok =>
      exact leaves (x := .waiting) ((s.changeState c .waiting .started).arm c Cal.first) (fun sel' => by cases sel' <;> nofun)
        (by simp [State.changeState_eq]) (fun d hd => by simp [State.changeState_eq, State.port_setPort_ne _ _ hd]) (if_pos hs)
    | failed =>
      exact leaves (x := .faulted) _ (fun sel' => by cases sel' <;> nofun)
        (by simp [State.enterFaulted_eq, Port.discardWork_eq]) (fun d hd => by simp [State.enterFaulted_eq, State.port_setPort_ne _ _ hd])
        (State.reportScript_failed hs)

/-- The end of a script: its run counts no longer, whatever the report brings. -/
theorem State.endScript_runs {s : State} {x : Bus} {r : Running} (hr : (s.bus x).running = some r) (hm : s.Marks)
    (result : ScriptResult) (step : Nat) (cause : ScriptCause) :
    (∀ c sel, (s.endScript x r.run result step cause).liveRuns c sel + r.live c sel = s.liveRuns c sel)
      ∧ (s.endScript x r.run result step cause).Marks := by
  rw [State.endScript_of_report rfl]
  generalize ht : (s.raise (.scriptDone r.run.camera r.run.selector result step cause)).reportScript r.run.camera
    r.run.selector result = t
  have hbus : ∀ y, t.bus y = s.bus y := fun y => by rw [← ht, State.reportScript_bus, State.raise_bus]
  have hmt : t.Marks := hm.congr fun y => by rw [hbus]
  refine ⟨fun c sel => ?_, hmt.handedOn x _ _⟩
  exact (State.handedOn_runs (by rw [hbus, hr]) _ _ c sel).trans
    (State.liveRuns_congr (fun y => by rw [hbus]; exact ⟨rfl, rfl⟩) c sel)

/-- The end of a script keeps the law: aborted for a marked run, and otherwise with the report that ends the state in which
the script had to run. -/
theorem State.RunLaw.endScript {s : State} (h : s.RunLaw) {x : Bus} {r : Running} (hr : (s.bus x).running = some r)
    {result : ScriptResult} (hres : result = .aborted ↔ r.abort = true) (step : Nat) (cause : ScriptCause) :
    (s.endScript x r.run result step cause).RunLaw := by
  obtain ⟨hcount, hmarks⟩ := State.runLaw_iff.mp h
  obtain ⟨hruns, hmarks'⟩ := State.endScript_runs hr hmarks result step cause
  have hport : ∀ d, (s.endScript x r.run result step cause).port d = ((s.raise (.scriptDone r.run.camera r.run.selector
      result step cause)).reportScript r.run.camera r.run.selector result).port d := by
    intro d
    rw [State.endScript_of_report rfl]
    rfl
  cases ha : r.abort with
  | true =>
    refine h.of_runs (fun d => ?_) ⟨fun c sel => by have := hruns c sel; rwa [Running.live_marked ha] at this, hmarks'⟩
    rw [hport, (hmarks x r hr ha).2, State.reportScript_start_disregarded (.inr (hres.mpr ha)), State.raise_port]
  | false =>
    have hne : result ≠ .aborted := fun hab => by simp [hres.mp hab] at ha
    have hbusy : (s.port r.run.camera).state = r.run.selector.busy := by
      have hone := hruns r.run.camera r.run.selector
      rw [Running.live_unmarked ha, if_pos ⟨rfl, rfl⟩, hcount] at hone
      by_contra hn
      rw [if_neg hn] at hone
      omega
    obtain ⟨hover, hothers⟩ := State.reportScript_over (s := s.raise (.scriptDone r.run.camera r.run.selector result step
      cause)) (sel := r.run.selector) hbusy hne
    refine State.runLaw_iff.mpr ⟨fun c sel => ?_, hmarks'⟩
    have hone := hruns c sel
    rw [Running.live_unmarked ha, hcount] at hone
    rw [hport]
    by_cases hc : r.run.camera = c
    · subst hc
      rw [if_neg (hover sel)]
      have hbusy' : (s.port r.run.camera).state = sel.busy ↔ r.run.selector = sel := by
        rw [hbusy]
        cases sel <;> cases r.run.selector <;> decide
      simp only [hbusy', true_and] at hone
      omega
    · rw [hothers c (Ne.symm hc), State.raise_port]
      simpa [hc] using hone

/-! ### The running script goes on (R171 to R174) -/

/-- The runner's step or phase changed, without a mark before or after. -/
theorem State.RunLaw.setRunning {s : State} (h : s.RunLaw) {x : Bus} {r q : Running} (hr : (s.bus x).running = some r)
    (hrun : q.run = r.run) (ha : r.abort = false) (hq : q.abort = false) : (s.setRunning x (some q)).RunLaw := by
  obtain ⟨-, hmarks⟩ := State.runLaw_iff.mp h
  refine h.of_runs (fun _ => rfl) ⟨fun c sel => State.liveRuns_setBus_add (n := 0) ?_, hmarks.setBus fun p hp hab => ?_⟩
  · rw [BusState.liveRuns_running hr, BusState.liveRuns_running rfl, Running.live_unmarked ha, Running.live_unmarked hq, hrun,
      Nat.add_zero]
  · cases hp
    simp [hq] at hab

theorem State.RunLaw.stepDone {s : State} (h : s.RunLaw) {x : Bus} {r : Running} (hr : (s.bus x).running = some r)
    (ha : r.abort = false) : (s.stepDone x r).RunLaw := by
  unfold State.stepDone State.beginStep
  dsimp only
  split
  · split <;> exact h.setRunning hr rfl ha ha
  · exact h.endScript hr (by simp [ha]) _ _

theorem State.RunLaw.scriptOutcome {s : State} (h : s.RunLaw) {x : Bus} {r : Running} (hr : (s.bus x).running = some r)
    (ha : r.abort = false) (o : BusOutcome) : (s.scriptOutcome x r o).RunLaw := by
  unfold State.scriptOutcome
  split
  · exact h.endScript hr (by simp [ha]) _ _
  · exact h.endScript hr (by simp [ha]) _ _
  split
  · split
    · exact h.stepDone hr ha
    split
    · exact h.setRunning hr rfl ha ha
    · exact h.endScript hr (by simp [ha]) _ _
  · exact h.stepDone hr ha

theorem State.RunLaw.giveBus {s : State} (h : s.RunLaw) (x : Bus) : (s.giveBus x).RunLaw := by
  refine h.of_runs (fun c => ?_) (State.giveBus_runs x (State.runLaw_iff.mp h).2)
  rw [State.port, (State.Buses.giveBus s x).frame.1]
  rfl

/-- A run in a phase of its own, off the bus, has no mark. -/
theorem State.RunLaw.unmarked {s : State} (h : s.RunLaw) {x : Bus} {r : Running} (hr : (s.bus x).running = some r)
    (hp : r.phase ≠ .onBus) : r.abort = false := by
  cases ha : r.abort with
  | false => rfl
  | true => exact absurd (h.aborted x r hr ha).1 hp

theorem State.RunLaw.endWait {s : State} (h : s.RunLaw) (x : Bus) : (s.endWait x).RunLaw := by
  unfold State.endWait
  split
  · rename_i r hr
    split
    · rename_i hp
      exact (h.stepDone hr (h.unmarked hr (by simp [hp]))).giveBus x
    · exact h
  · exact h

theorem State.RunLaw.endRetry {s : State} (h : s.RunLaw) (x : Bus) : (s.endRetry x).RunLaw := by
  unfold State.endRetry
  split
  · rename_i r hr
    split
    · rename_i hp
      have ha := h.unmarked hr (by simp [hp])
      exact (h.setRunning (q := { r with phase := .ready }) hr rfl ha ha).giveBus x
    · exact h
  · exact h

/-! ### The START run aborted (R174) -/

/-- An abort changes no port. -/
theorem State.abortOn_ports {s : State} {x : Bus} {c : Cam} {ns : List Notice} {b : BusState}
    (h : s.abortOn x c = (s.raiseAll ns).setBus x b) : (s.abortOn x c).ports = s.ports := by
  rw [h]
  exact s.raiseAll_ports ns

/-- What an abort on one bus does: some notices and a change of that bus. -/
theorem State.abortOn_cases (s : State) (x : Bus) (c : Cam) : ∃ ns b, s.abortOn x c = (s.raiseAll ns).setBus x b := by
  by_cases hw : ∃ q ∈ (s.bus x).waiting, Run.isStart c q = true
  · obtain ⟨q, hq, hstart⟩ := hw
    obtain ⟨run, pre, post, hpre, hrun, hl, -⟩ := List.exists_of_eraseP hq hstart
    exact ⟨[_], _, State.abortOn_waiting hl (Run.isStart_iff.mp hrun) fun q hq h => hpre q hq (Run.isStart_iff.mpr h)⟩
  · have hquiet : ∀ q ∈ (s.bus x).waiting, ¬ (q.camera = c ∧ q.selector = .start) :=
      fun q hq h => hw ⟨q, hq, Run.isStart_iff.mpr h⟩
    by_cases hr : ∃ r, (s.bus x).running = some r ∧ r.run.camera = c ∧ r.run.selector = .start
    · obtain ⟨r, hr, hrun⟩ := hr
      by_cases hp : r.phase = .onBus
      · exact ⟨[], _, State.abortOn_marks hr hrun hquiet hp⟩
      · exact ⟨[_], _, State.abortOn_ends hr hrun hquiet hp⟩
    · exact ⟨[], s.bus x, (State.abortOn_quiet ⟨hquiet, fun r h h' => absurd ⟨r, h, h'⟩ hr⟩).trans (s.setBus_self x).symm⟩

theorem countP_of_none {l : List Run} {c : Cam} {sel : Selector} (h : ∀ q ∈ l, ¬ (q.camera = c ∧ q.selector = sel)) :
    l.countP (Run.of c sel) = 0 :=
  List.countP_eq_zero.mpr fun q hq hof => h q hq (Run.of_iff.mp hof)

/-- An abort takes a START run of the camera from the bus, when one counts there, and no other run. -/
theorem State.abortOn_runs {s : State} (x : Bus) (c : Cam) (hm : s.Marks) :
    (∀ d sel, (s.abortOn x c).liveRuns d sel
      + (if c = d ∧ .start = sel then min 1 ((s.bus x).liveRuns c .start) else 0) = s.liveRuns d sel)
      ∧ (s.abortOn x c).Marks := by
  by_cases hw : ∃ q ∈ (s.bus x).waiting, Run.isStart c q = true
  · obtain ⟨q, hq, hstart⟩ := hw
    obtain ⟨run, pre, post, hpre, hrun, hl, -⟩ := List.exists_of_eraseP hq hstart
    obtain ⟨hcam, hsel⟩ := Run.isStart_iff.mp hrun
    rw [State.abortOn_waiting hl ⟨hcam, hsel⟩ fun q hq h => hpre q hq (Run.isStart_iff.mpr h)]
    have withdrawn : ∀ d sel, ({ s.bus x with waiting := pre ++ post } : BusState).liveRuns d sel
        + (if c = d ∧ .start = sel then 1 else 0) = (s.bus x).liveRuns d sel := by
      intro d sel
      simp only [BusState.liveRuns_eq, hl, List.countP_append, List.countP_cons, Run.of_iff, hcam, hsel]
      omega
    have hone : min 1 ((s.bus x).liveRuns c .start) = 1 := by
      rw [← withdrawn c .start, if_pos ⟨rfl, rfl⟩]
      omega
    rw [hone]
    exact ⟨fun d sel => State.liveRuns_setBus_sub (withdrawn d sel),
      State.Marks.setBus (b := { s.bus x with waiting := pre ++ post }) hm (hm x)⟩
  · have hquiet : ∀ q ∈ (s.bus x).waiting, ¬ (q.camera = c ∧ q.selector = .start) :=
      fun q hq h => hw ⟨q, hq, Run.isStart_iff.mpr h⟩
    by_cases hr : ∃ r, (s.bus x).running = some r ∧ r.run.camera = c ∧ r.run.selector = .start
    · obtain ⟨r, hr, hcam, hsel⟩ := hr
      have hbus : (s.bus x).liveRuns c .start = r.live c .start := by
        rw [BusState.liveRuns_running hr, countP_of_none hquiet, Nat.zero_add]
      have hlive : ∀ d sel, (if c = d ∧ .start = sel then min 1 (r.live c .start) else 0) = r.live d sel := by
        intro d sel
        cases ha : r.abort with
        | true => simp [Running.live_marked ha]
        | false => simp [Running.live_unmarked ha, hcam, hsel]
      simp only [hbus, hlive]
      by_cases hp : r.phase = .onBus
      · rw [State.abortOn_marks hr ⟨hcam, hsel⟩ hquiet hp]
        refine ⟨fun d sel => State.liveRuns_setBus_sub ?_, hm.setBus fun q hq _ => by cases hq; exact ⟨hp, hsel⟩⟩
        rw [BusState.liveRuns_running hr, BusState.liveRuns_running rfl,
          Running.live_marked (r := { r with abort := true }) rfl, Nat.add_zero]
      · rw [(State.abortOn_ends hr ⟨hcam, hsel⟩ hquiet hp).trans (State.handedOn_giveBus (s.raise _) x).symm]
        obtain ⟨hruns, hmarks⟩ := State.giveBus_runs x (State.Marks.handedOn (s := s.raise
          (.scriptDone c .start .aborted r.step .none)) hm x (s.raise _).firstStep? s.timebase)
        exact ⟨fun d sel => (congrArg (· + _) (hruns d sel)).trans
          (State.handedOn_runs (s := s.raise (.scriptDone c .start .aborted r.step .none)) hr _ _ d sel), hmarks⟩
    · have hzero : (s.bus x).liveRuns c .start = 0 := by
        rw [BusState.liveRuns_eq, countP_of_none hquiet, Nat.zero_add]
        cases hrun : (s.bus x).running with
        | none => rfl
        | some r =>
          have : r.run.of c .start = false := by
            rw [Bool.eq_false_iff]
            exact fun h => hr ⟨r, hrun, Run.of_iff.mp h⟩
          simp [Running.live, this]
      rw [State.abortOn_quiet ⟨hquiet, fun r h h' => absurd ⟨r, h, h'⟩ hr⟩, hzero]
      exact ⟨fun d sel => by simp, hm⟩

/-- After an abort no START run of the camera counts, where one did at most. -/
theorem State.abortStart_runs {s : State} (c : Cam) (hm : s.Marks) (hone : s.liveRuns c .start ≤ 1) :
    (∀ d sel, (s.abortStart c).liveRuns d sel = if c = d ∧ .start = sel then 0 else s.liveRuns d sel)
      ∧ (s.abortStart c).Marks ∧ (s.abortStart c).ports = s.ports := by
  obtain ⟨ha, hma⟩ := State.abortOn_runs .a c hm
  obtain ⟨hb, hmb⟩ := State.abortOn_runs .b c hma
  obtain ⟨ns, b, he⟩ := s.abortOn_cases .a c
  obtain ⟨ns', b', he'⟩ := (s.abortOn .a c).abortOn_cases .b c
  have hother : (s.abortOn .a c).bus .b = s.bus .b := by
    rw [he, State.bus_setBus_ne _ _ (by decide), State.bus, State.raiseAll_relay]
    rfl
  refine ⟨fun d sel => ?_, hmb, (State.abortOn_ports he').trans (State.abortOn_ports he)⟩
  have hda := ha d sel
  have hdb := hb d sel
  rw [hother] at hdb
  unfold State.abortStart
  split at hda
  next h =>
    obtain ⟨rfl, rfl⟩ := h
    rw [if_pos ⟨rfl, rfl⟩] at hdb ⊢
    unfold State.liveRuns at hone hda ⊢
    unfold State.liveRuns at hdb
    omega
  next h =>
    rw [if_neg h] at hdb ⊢
    omega

/-! ### Starts and stops (R7, R12, R13) -/

/-- A camera that has no script to run enters the state in which it has one, and its run is placed. -/
theorem State.RunLaw.queueRun {s t : State} (h : s.RunLaw) {c : Cam} {k : Cal} {sel : Selector}
    (hb : ∀ x, (t.bus x).waiting = (s.bus x).waiting ∧ (t.bus x).running = (s.bus x).running)
    (hidle : ∀ sel' : Selector, (s.port c).state ≠ sel'.busy) (hk : (t.port c).cal = some k)
    (hstate : (t.port c).state = sel.busy) (hothers : ∀ d, d ≠ c → (t.port d).state = (s.port d).state) :
    (t.queueRun c sel).RunLaw := by
  obtain ⟨hcount, hmarks⟩ := State.runLaw_iff.mp h
  obtain ⟨hruns, hmarks'⟩ := State.queueRun_runs hk sel (hmarks.congr fun x => (hb x).2)
  have hports : ∀ d, (t.queueRun c sel).port d = t.port d := by
    intro d
    rw [State.port, (State.Buses.queueRun t c sel).frame.1]
    rfl
  refine State.runLaw_iff.mpr ⟨fun d sel' => ?_, hmarks'⟩
  rw [hruns, State.liveRuns_congr hb, hcount, hports]
  by_cases hd : d = c
  · subst hd
    rw [if_neg (hidle sel'), hstate]
    cases sel <;> cases sel' <;> simp [Selector.busy]
  · rw [hothers d hd, if_neg (c := d = c ∧ _) fun hc => hd hc.1, Nat.add_zero]

theorem State.RunLaw.startLive {s : State} (h : s.RunLaw) {c : Cam} {k : Cal} (hk : (s.port c).cal = some k)
    (hs : (s.port c).state = .off) (reason : Reason) : (s.startLive c reason).RunLaw := by
  have hidle : ∀ sel : Selector, (s.port c).state ≠ sel.busy := by
    rw [hs]
    exact fun sel => by cases sel <;> nofun
  by_cases he : s.scriptOf c .start = []
  · rw [State.startLive_waiting hk he]
    exact (h.setIdle (p := { s.port c with state := .waiting, startMode := .live, faultReason := .none }) hidle
      fun sel => by cases sel <;> nofun).congr (fun _ => ⟨rfl, rfl⟩) fun _ _ => Iff.rfl
  · have hqueue : s.startLive c reason = ((s.markStart c .live).changeState c .loading reason).queueRun c .start :=
      if_neg fun hempty => he (List.isEmpty_iff.mp hempty)
    rw [hqueue]
    exact h.queueRun (k := k) (fun _ => ⟨rfl, rfl⟩) hidle (by simp [State.markStart, State.changeState_eq, hk])
      (by simp [State.changeState_eq, Selector.busy])
      fun d hd => by simp [State.markStart, State.changeState_eq, State.port_setPort_ne _ _ hd]

theorem State.RunLaw.startIn {s : State} (h : s.RunLaw) {c : Cam} {k : Cal} (hk : (s.port c).cal = some k)
    (hs : (s.port c).state = .off) (mode : StartMode) : (s.startIn c mode).RunLaw := by
  cases mode with
  | live => exact h.startLive hk hs .request
  | pattern =>
    refine (State.Frames.patternStart _ c).runLaw ?_
    have hidle : ∀ sel : Selector, (s.port c).state ≠ sel.busy := by
      rw [hs]
      exact fun sel => by cases sel <;> nofun
    refine (h.setIdle (p := { s.port c with state := .waiting, startMode := .pattern, faultReason := .none }) hidle
      fun sel => by cases sel <;> nofun).congr (fun _ => ?_) fun d sel => ?_
    · simp [State.enterWaiting, State.markStart, State.changeState_eq]
    · simp [State.enterWaiting, State.markStart, State.changeState_eq]

/-- The work of a camera cleared and the camera OFF: no run of it counts. -/
theorem State.RunLaw.stoppedOff {s : State} (h : s.RunLaw) {c : Cam} (hs : (s.port c).state ≠ .stopping) :
    ((s.abortLoading c).stoppedTo c .off).RunLaw ∧ (s.abortLoading c).ports = s.ports := by
  obtain ⟨hcount, hmarks⟩ := State.runLaw_iff.mp h
  have habort : (∀ d sel, (s.abortLoading c).liveRuns d sel = if c = d ∧ .start = sel then 0 else s.liveRuns d sel)
      ∧ (s.abortLoading c).Marks ∧ (s.abortLoading c).ports = s.ports := by
    unfold State.abortLoading
    split
    · exact State.abortStart_runs c hmarks (by rw [hcount]; split <;> omega)
    next hl =>
      refine ⟨fun d sel => ?_, hmarks, rfl⟩
      split
      next hc =>
        obtain ⟨rfl, rfl⟩ := hc
        rw [hcount]
        exact if_neg hl
      next => rfl
  obtain ⟨hruns, hmarks', hports⟩ := habort
  refine ⟨State.runLaw_iff.mpr ⟨fun d sel => ?_, hmarks'⟩, hports⟩
  rw [State.liveRuns_congr (s := s.abortLoading c) (t := (s.abortLoading c).stoppedTo c .off) (fun _ => ⟨rfl, rfl⟩), hruns]
  by_cases hd : d = c
  · subst hd
    have hstop : s.liveRuns d .stop = 0 := (hcount d .stop).trans (if_neg hs)
    cases sel <;> simp [State.stoppedTo, Port.stoppedTo, Selector.busy, hstop]
  · have hport : ((s.abortLoading c).stoppedTo c .off).port d = s.port d := by
      simp only [State.stoppedTo, State.raise_port, State.setMonitor_port, State.port_setPort_ne _ _ hd]
      rw [State.port, hports]
      rfl
    rw [hport, ← hcount]
    exact if_neg fun hc => hd hc.1.symm

theorem State.RunLaw.stopCamera {s : State} (h : s.RunLaw) {c : Cam} {k : Cal} (hk : (s.port c).cal = some k)
    (hs : (s.port c).state ≠ .stopping) : (s.stopCamera c).RunLaw := by
  obtain ⟨hoff, hports⟩ := h.stoppedOff hs
  show (((s.abortLoading c).setPort c ((s.abortLoading c).port c).stopWork).disarm c |>.stopStep c).RunLaw
  unfold State.stopStep
  rw [State.stopWork_changeState, State.stopWork_changeState]
  split
  · refine hoff.queueRun (k := k) (fun _ => ⟨rfl, rfl⟩) ?_ ?_ ?_ fun d hd => ?_
    · simp only [State.stoppedTo, State.raise_port, State.setMonitor_port, State.port_setPort_same, Port.stoppedTo]
      exact fun sel => by cases sel <;> nofun
    · simp only [State.stoppedTo, Port.stoppedTo, State.raise_port, State.setMonitor_port, State.port_setPort_same]
      rw [State.port, hports]
      exact hk
    · simp [State.stoppedTo, Port.stoppedTo, Selector.busy]
    · simp [State.stoppedTo, State.port_setPort_ne _ _ hd]
  · exact hoff

/-! ### Every step -/

theorem State.RunLaw.of_reset {s : State} (hp : s.ports = State.reset.ports) (hr : s.relay = State.reset.relay) : s.RunLaw :=
  State.reset_runLaw.congr (fun x => by rw [State.bus, State.bus, hr]; exact ⟨rfl, rfl⟩)
    fun c sel => by rw [State.port, State.port, hp]

theorem State.tick_runLaw {s : State} (h : s.RunLaw) : s.tick.RunLaw := by
  have hbus : ∀ x, s.tick.bus x = (s.bus x).tick := fun x => by cases x <;> rfl
  have hticked : ∀ x c sel, (s.tick.bus x).liveRuns c sel = (s.bus x).liveRuns c sel := by
    intro x c sel
    rw [hbus, BusState.liveRuns_eq, BusState.liveRuns_eq]
    cases hr : (s.bus x).running <;> simp [BusState.tick, hr, Running.live]
  refine h.of_runs (fun c => by cases c <;> rfl) ⟨fun c sel => ?_, fun x r hr ha => ?_⟩
  · exact congrArg₂ (· + ·) (hticked .a c sel) (hticked .b c sel)
  · rw [hbus] at hr
    obtain ⟨q, hq, rfl⟩ := Option.map_eq_some_iff.mp hr
    obtain ⟨hp, hsel⟩ := h.aborted x q hq ha
    exact ⟨by simp [hp, Phase.tick], hsel⟩

/-- A camera that a hand-off may start has a calibration part. -/
theorem State.cal_of_autoStarts {s : State} {c : Cam} (h : s.autoStarts c = true) : ∃ k, (s.port c).cal = some k := by
  unfold State.autoStarts at h
  split at h
  · exact ⟨_, ‹_›⟩
  · cases h

theorem State.RunLaw.autoStart {s : State} (h : s.RunLaw) {c : Cam} (ha : s.autoStarts c = true) : (s.autoStart c).RunLaw := by
  obtain ⟨k, hk⟩ := State.cal_of_autoStarts ha
  unfold State.autoStart
  split
  · exact h.startLive hk ‹_› _
  · exact h

theorem State.applyPins_state (s : State) (named : Cam → Option (Nat × Pin)) (c : Cam) :
    ((s.applyPins named).port c).state = (s.port c).state := by cases c <;> rfl

theorem State.Quiet.runLaw {s t : State} (h : s.Quiet t) (hs : s.RunLaw) : t.RunLaw := by
  induction h with
  | frames h => exact h.runLaw hs
  | autoStart s c ha => exact hs.autoStart ha
  | trans _ _ ih1 ih2 => exact ih2 (ih1 hs)
  | tick s => exact State.tick_runLaw hs
  | pins s named => exact hs.congr (fun _ => ⟨rfl, rfl⟩) fun c sel => by rw [State.applyPins_state]
  | _ => exact hs.congr (fun _ => ⟨rfl, rfl⟩) fun _ _ => Iff.rfl

theorem Port.cal_of_configured {p : Port} (h : p.configured = true) : ∃ k, p.cal = some k := by
  simp only [Port.configured, Bool.and_eq_true] at h
  exact Option.isSome_iff_exists.mp (by tauto)

theorem State.removeCamera_state (s : State) (c d : Cam) : ((s.removeCamera c).port d).state = (s.port d).state := by
  unfold State.removeCamera
  split
  · exact State.setPort_state (p := { s.port c with format := none, cal := none, ring := [] }) rfl d
  · rfl

theorem State.withCal_state (s : State) (c : Cam) (k : Cal) (f : Format) (d : Cam) :
    ((s.withCal c k f).port d).state = (s.port d).state := by
  unfold State.withCal
  dsimp only
  split <;> exact State.setPort_state (p := { s.port c with cal := some k }) rfl d

theorem runs_keptQuietly : KeptQuietly State.RunLaw where
  quiet hq hs := hq.runLaw hs
  startIn c mode hc ho hs := by
    obtain ⟨k, hk⟩ := Port.cal_of_configured hc
    exact hs.startIn hk ho mode
  stopCamera c hc _ hp hs := by
    obtain ⟨k, hk⟩ := Port.cal_of_configured hc
    exact hs.stopCamera hk hp
  giveBus x hs := hs.giveBus x
  freed x o hs := hs.congr (fun y => by
    by_cases hy : y = x
    · rw [hy, State.freeEngine, State.bus_setBus_same]
      exact ⟨rfl, rfl⟩
    · rw [State.freeEngine, State.bus_setBus_ne _ _ hy]
      exact ⟨rfl, rfl⟩) fun _ _ => Iff.rfl
  serveScript x r o hr hs := by
    split
    next ha => exact hs.endScript hr (by simp [ha]) _ _
    next ha => exact hs.scriptOutcome hr (by simpa using ha) o
  endWait x hs := hs.endWait x
  endRetry x hs := hs.endRetry x
  link _ hs := hs.congr (fun _ => ⟨rfl, rfl⟩) fun _ _ => Iff.rfl
  pending _ hs := hs.congr (fun _ => ⟨rfl, rfl⟩) fun _ _ => Iff.rfl
  released hs := hs.congr (fun _ => ⟨rfl, rfl⟩) fun _ _ => Iff.rfl
  pinReset _ := .of_reset rfl rfl
  partReset _ := .of_reset rfl rfl
  booted _ hs := hs.congr (fun _ => ⟨rfl, rfl⟩) fun _ _ => Iff.rfl
  begins _ hs := hs.congr (fun _ => ⟨rfl, rfl⟩) fun _ _ => Iff.rfl
  stops _ hs := hs.congr (fun _ => ⟨rfl, rfl⟩) fun _ _ => Iff.rfl
  stopPending _ hs := hs.congr (fun _ => ⟨rfl, rfl⟩) fun _ _ => Iff.rfl
  setFormat {s} c f _ hs := hs.congr (fun _ => ⟨rfl, rfl⟩) fun d sel =>
    iff_of_eq (congrArg (· = sel.busy) (State.setPort_state (s := s)
      (p := { s.port c with format := some f, ring := freshRing f.slots s.freeSeed }) rfl d))
  removeCamera {s} c _ hs := hs.congr (fun _ => by unfold State.removeCamera; split <;> exact ⟨rfl, rfl⟩)
    fun d sel => by rw [State.removeCamera_state]
  withCal {s} c k f _ hs := hs.congr (fun _ => by unfold State.withCal; dsimp only; split <;> exact ⟨rfl, rfl⟩)
    fun d sel => by rw [State.withCal_state]
  setScript _ _ _ _ hs := hs.congr (fun _ => ⟨rfl, rfl⟩) fun _ _ => Iff.rfl
  passes x q _ hs := hs.congr (fun y => by
    by_cases hy : y = x
    · rw [hy, State.bus_setBus_same]
      exact ⟨rfl, rfl⟩
    · rw [State.bus_setBus_ne _ _ hy]
      exact ⟨rfl, rfl⟩) fun _ _ => Iff.rfl

/-! ### The waiting-script lists (R170) -/

/-- Every run is of one of the four cameras and of one of the two scripts. -/
theorem runs_length_eq (l : List Run) : l.length =
    ((l.countP (Run.of .c0 .start) + l.countP (Run.of .c0 .stop)) + (l.countP (Run.of .c1 .start) + l.countP (Run.of .c1 .stop)))
    + ((l.countP (Run.of .c2 .start) + l.countP (Run.of .c2 .stop))
      + (l.countP (Run.of .c3 .start) + l.countP (Run.of .c3 .stop))) := by
  induction l with
  | nil => rfl
  | cons r rest ih =>
    obtain ⟨c, sel, address⟩ := r
    simp only [List.length_cons, ih, List.countP_cons]
    cases c <;> cases sel <;> simp [Run.of] <;> omega

/-- A camera waits with one run at most: it is not LOADING and STOPPING at once. -/
theorem State.RunLaw.waiting_le {s : State} (h : s.RunLaw) (x : Bus) (c : Cam) :
    (s.bus x).waiting.countP (Run.of c .start) + (s.bus x).waiting.countP (Run.of c .stop) ≤ 1 := by
  have le : ∀ sel, (s.bus x).waiting.countP (Run.of c sel) ≤ s.liveRuns c sel := by
    intro sel
    have hone : (s.bus x).waiting.countP (Run.of c sel) ≤ (s.bus x).liveRuns c sel := by
      rw [BusState.liveRuns_eq]
      exact Nat.le_add_right _ _
    unfold State.liveRuns
    cases x <;> omega
  have hstart := le .start
  have hstop := le .stop
  rw [h.start] at hstart
  rw [h.stop] at hstop
  split at hstart
  next hl =>
    rw [hl, if_neg (by decide)] at hstop
    omega
  next => split at hstop <;> omega

/-- Settles O56: the laws of tables, capacities, script runs and channel, each carried along a step, and the bound of a
waiting-script list from the law of the runs. -/
theorem stepKeepsTablesAndCapacities : Obligations.StepKeepsTablesAndCapacities := by
  unfold Obligations.StepKeepsTablesAndCapacities
  refine ⟨fun s t => arbiter_keptQuietly.kept.step, fun s t => capacities_keptQuietly.kept.step,
    fun s t => runs_keptQuietly.kept.step, fun s t => channel_keptQuietly.kept.step, fun s hs x => ?_⟩
  rw [runs_length_eq]
  have := hs.waiting_le x .c0
  have := hs.waiting_le x .c1
  have := hs.waiting_le x .c2
  have := hs.waiting_le x .c3
  omega

end Sys2Proof.Machine
end

section
/-!
PROOF. The countdowns (Table 11, R28 to R35): every step keeps that a countdown is armed exactly in WAITING, STREAMING and
STALLED, with the stall count of the camera's state.
-/

namespace Sys2Proof.Machine

/-! ### The law of one camera -/

theorem State.countdownLaw_iff {s : State} {c : Cam} : s.CountdownLaw c ↔
    (s.monitor c).Fits (s.port c).state ∧ ((s.port c).state ≠ .off → (s.port c).configured = true) ∧
      ((s.port c).cal.isSome = true → (s.port c).format.isSome = true) :=
  ⟨fun h => ⟨⟨h.armed, h.none, h.some, h.range⟩, h.configured, h.parts⟩,
    fun ⟨hf, hc, hp⟩ => ⟨hf.armed, hf.none, hf.some, hf.range, hc, hp⟩⟩

/-- The law of every camera. -/
def State.CountdownLaws (s : State) : Prop := ∀ c, s.CountdownLaw c

theorem State.CountdownLaws.congr {s t : State} (h : s.CountdownLaws) (hp : t.ports = s.ports)
    (hm : t.monitors = s.monitors) : t.CountdownLaws := by
  intro c
  rw [State.countdownLaw_iff, State.monitor, State.port, hm, hp]
  exact State.countdownLaw_iff.mp (h c)

/-- A port and a countdown replaced by ones that fit. -/
theorem State.CountdownLaws.update {s : State} (h : s.CountdownLaws) {c : Cam} {p : Port} {m : Monitor}
    (hfit : m.Fits p.state) (hconf : p.state ≠ .off → p.configured = true)
    (hparts : p.cal.isSome = true → p.format.isSome = true) : ((s.setPort c p).setMonitor c m).CountdownLaws := by
  intro d
  rw [State.countdownLaw_iff]
  by_cases hd : d = c
  · subst hd
    simp only [State.monitor_setMonitor_same, State.setMonitor_port, State.port_setPort_same]
    exact ⟨hfit, hconf, hparts⟩
  · rw [State.setMonitor_port, State.port_setPort_ne s p hd, State.monitor_setMonitor_ne _ m hd]
    exact State.countdownLaw_iff.mp (h d)

theorem State.CountdownLaws.updatePort {s : State} (h : s.CountdownLaws) {c : Cam} {p : Port}
    (hfit : (s.monitor c).Fits p.state) (hconf : p.state ≠ .off → p.configured = true)
    (hparts : p.cal.isSome = true → p.format.isSome = true) : (s.setPort c p).CountdownLaws := by
  have := h.update hfit hconf hparts (c := c)
  rwa [show (s.setPort c p).setMonitor c (s.monitor c) = s.setPort c p from State.setMonitor_self (s.setPort c p) c] at this

theorem State.CountdownLaws.raise {s : State} (h : s.CountdownLaws) (n : Notice) : (s.raise n).CountdownLaws := h.congr rfl rfl

theorem State.CountdownLaws.fits {s : State} (h : s.CountdownLaws) (c : Cam) : (s.monitor c).Fits (s.port c).state :=
  (State.countdownLaw_iff.mp (h c)).1

/-- A state in which no countdown runs and the stall count is free. -/
theorem Monitor.Fits.idle {m : Monitor} {x : CamState} (hx : x = .off ∨ x = .stopping ∨ x = .faulted)
    (hc : m.countdown = Option.none) (hr : m.stallCount ≤ 3) : m.Fits x := by
  rcases hx with rfl | rfl | rfl <;> exact ⟨by rw [hc]; rfl, by simp, by simp, hr⟩

/-- A countdown that is stopped where none runs. -/
theorem Monitor.Fits.stopped {m : Monitor} {x : CamState} (h : m.Fits x) (hx : x.takes = false) : m.countdown = Option.none := by
  have := h.armed
  rw [hx] at this
  simpa using this

theorem State.Frames.countdownLaws {s t : State} (h : s.Frames t) (hs : s.CountdownLaws) : t.CountdownLaws := by
  induction h with
  | refl => exact hs
  | trans _ _ ih1 ih2 => exact ih2 (ih1 hs)
  | raise s n => exact hs.congr rfl rfl
  | port s c p hp =>
    obtain ⟨hstate, hformat, hcal⟩ := hp.frame
    obtain ⟨hfit, hconf, hparts⟩ := State.countdownLaw_iff.mp (hs c)
    refine hs.updatePort (hstate ▸ hfit) ?_ (by rw [hcal, hformat]; exact hparts)
    rw [hstate, Port.configured, hformat, hcal]
    exact hconf
  | status s c x m ht hx hm =>
    obtain ⟨hfit, hconf, hparts⟩ := State.countdownLaw_iff.mp (hs c)
    refine hs.update (p := { s.port c with state := x }) (hm hfit) (fun _ => hconf fun hoff => ?_) hparts
    rw [hoff] at ht
    cases ht

/-! ### Scripts' ends (R8, R13, R29) -/

theorem State.CountdownLaws.reportScript {s : State} (h : s.CountdownLaws) (c : Cam) (sel : Selector)
    (result : ScriptResult) : (s.reportScript c sel result).CountdownLaws := by
  obtain ⟨hfit, hconf, hparts⟩ := State.countdownLaw_iff.mp (h c)
  cases sel with
  | stop =>
    by_cases hs : (s.port c).state = .stopping
    · rw [State.reportScript_stop hs]
      rw [hs] at hfit
      exact (h.updatePort (p := { s.port c with state := .off }) (.idle (.inl rfl) (hfit.stopped rfl) hfit.range)
        (fun hne => absurd rfl hne) hparts).congr rfl rfl
    · rw [State.reportScript_stop_disregarded hs]
      exact h
  | start =>
    by_cases hs : (s.port c).state = .loading
    · rw [hs] at hfit hconf
      have hc : (s.port c).configured = true := hconf (by simp)
      cases result with
      | aborted =>
        rw [State.reportScript_start_disregarded (.inr rfl)]
        exact h
      | failed =>
        rw [State.reportScript_failed hs, State.enterFaulted_from hs]
        refine State.CountdownLaws.raise ?_ _
        refine State.CountdownLaws.updatePort h ?_ (fun _ => hc) hparts
        exact .idle (.inr (.inr rfl)) (hfit.stopped rfl) hfit.range
      | ok =>
        obtain ⟨k, hk⟩ := Port.cal_of_configured hc
        rw [State.reportScript_started hs hk]
        refine (h.update (p := { s.port c with state := .waiting })
          (m := { s.monitor c with countdown := some k.first }) ?_ (fun _ => hc) hparts).congr rfl rfl
        exact ⟨rfl, fun _ => hfit.none (.inl rfl), by simp, hfit.range⟩
    · rw [State.reportScript_start_disregarded (.inl hs)]
      exact h

theorem State.CountdownLaws.buses {s t : State} (h : s.CountdownLaws) (hb : s.Buses t) : t.CountdownLaws :=
  h.congr hb.frame.1 hb.frame.2.1

theorem State.CountdownLaws.endScript {s : State} (h : s.CountdownLaws) (x : Bus) (run : Run) (result : ScriptResult)
    (step : Nat) (cause : ScriptCause) : (s.endScript x run result step cause).CountdownLaws :=
  (((h.raise _).reportScript _ _ _).buses (.setRunning _ x _)).buses (.startWaiting _ x)

theorem State.CountdownLaws.stepDone {s : State} (h : s.CountdownLaws) (x : Bus) (r : Running) :
    (s.stepDone x r).CountdownLaws := by
  unfold State.stepDone
  dsimp only
  split
  · exact h.buses (.beginStep s x r _)
  · exact h.endScript x _ _ _ _

theorem State.CountdownLaws.scriptOutcome {s : State} (h : s.CountdownLaws) (x : Bus) (r : Running) (o : BusOutcome) :
    (s.scriptOutcome x r o).CountdownLaws := by
  unfold State.scriptOutcome
  split
  · exact h.endScript x _ _ _ _
  · exact h.endScript x _ _ _ _
  split
  · split
    · exact h.stepDone x r
    split
    · exact h.buses (.setRunning s x _)
    · exact h.endScript x _ _ _ _
  · exact h.stepDone x r

/-! ### Starts and stops (R7, R12, R13) -/

theorem State.CountdownLaws.startLive {s : State} (h : s.CountdownLaws) {c : Cam} {k : Cal} (hk : (s.port c).cal = some k)
    (hs : (s.port c).state = .off) (reason : Reason) : (s.startLive c reason).CountdownLaws := by
  obtain ⟨hfit, -, hparts⟩ := State.countdownLaw_iff.mp (h c)
  have hf : (s.port c).format.isSome = true := hparts (by rw [hk]; rfl)
  have hc : (s.port c).configured = true := by simp [Port.configured, hk, hf]
  rw [hs] at hfit
  by_cases he : s.scriptOf c .start = []
  · rw [State.startLive_waiting hk he]
    exact (h.update (p := { s.port c with state := .waiting, startMode := .live, faultReason := .none })
      (m := { s.monitor c with countdown := some k.first, stallCount := 0 })
      ⟨rfl, fun _ => rfl, by simp, Nat.zero_le _⟩ (fun _ => hc) hparts).congr rfl rfl
  · rw [State.startLive_loading hk he]
    exact (h.update (p := { s.port c with state := .loading, startMode := .live, faultReason := .none })
      (m := { s.monitor c with stallCount := 0 })
      ⟨hfit.armed, fun _ => rfl, by simp, Nat.zero_le _⟩ (fun _ => hc) hparts).congr rfl rfl

theorem State.CountdownLaws.startIn {s : State} (h : s.CountdownLaws) {c : Cam} (hc : (s.port c).configured = true)
    (hs : (s.port c).state = .off) (mode : StartMode) : (s.startIn c mode).CountdownLaws := by
  obtain ⟨k, hk⟩ := Port.cal_of_configured hc
  cases mode with
  | live => exact h.startLive hk hs .request
  | pattern =>
    refine (State.Frames.patternStart _ c).countdownLaws ?_
    obtain ⟨-, -, hparts⟩ := State.countdownLaw_iff.mp (h c)
    have hstarted : (s.markStart c .pattern).enterWaiting c .request = ((s.setPort c { s.port c with
        state := .waiting, startMode := .pattern, faultReason := .none }).setMonitor c { s.monitor c with
        countdown := some k.first, stallCount := 0 }).raise (.cameraState c (s.port c).state .waiting .request) := by
      simp [State.markStart, State.enterWaiting, State.changeState_eq, State.arm, hk]
    rw [hstarted]
    exact (h.update (p := { s.port c with state := .waiting, startMode := .pattern, faultReason := .none })
      (m := { s.monitor c with countdown := some k.first, stallCount := 0 })
      ⟨rfl, fun _ => rfl, by simp, Nat.zero_le _⟩ (fun _ => hc) hparts).congr rfl rfl

/-- An abort changes no port and no countdown. -/
theorem State.abortLoading_frame (s : State) (c : Cam) :
    (s.abortLoading c).ports = s.ports ∧ (s.abortLoading c).monitors = s.monitors := by
  have one : ∀ (t : State) (x : Bus), (t.abortOn x c).ports = t.ports ∧ (t.abortOn x c).monitors = t.monitors := by
    intro t x
    obtain ⟨ns, b, h⟩ := t.abortOn_cases x c
    rw [h]
    exact ⟨t.raiseAll_ports ns, t.raiseAll_monitors ns⟩
  unfold State.abortLoading
  split
  · obtain ⟨pa, ma⟩ := one s .a
    obtain ⟨pb, mb⟩ := one (s.abortOn .a c) .b
    exact ⟨pb.trans pa, mb.trans ma⟩
  · exact ⟨rfl, rfl⟩

theorem State.CountdownLaws.stopCamera {s : State} (h : s.CountdownLaws) {c : Cam} (hc : (s.port c).configured = true) :
    (s.stopCamera c).CountdownLaws := by
  obtain ⟨hp, hm⟩ := s.abortLoading_frame c
  have ht : (s.abortLoading c).CountdownLaws := h.congr hp hm
  have hport : (s.abortLoading c).port c = s.port c := by rw [State.port, hp]; rfl
  obtain ⟨hfit, -, hparts⟩ := State.countdownLaw_iff.mp (ht c)
  have stopped : ∀ state : CamState, state = .off ∨ state = .stopping →
      ((s.abortLoading c).stoppedTo c state).CountdownLaws := by
    intro state hstate
    refine (ht.update (p := ((s.abortLoading c).port c).stoppedTo state)
      (m := { (s.abortLoading c).monitor c with countdown := none })
      (.idle (hstate.imp_right .inl) rfl hfit.range) (fun _ => ?_) hparts).congr rfl rfl
    rw [hport]
    exact hc
  show (((s.abortLoading c).setPort c ((s.abortLoading c).port c).stopWork).disarm c |>.stopStep c).CountdownLaws
  unfold State.stopStep
  rw [State.stopWork_changeState, State.stopWork_changeState]
  split
  · exact (stopped .stopping (.inr rfl)).buses (.queueRun _ c _)
  · exact stopped .off (.inl rfl)

/-! ### Every step -/

theorem Monitor.Fits.tick {m : Monitor} {x : CamState} (h : m.Fits x) : m.tick.Fits x :=
  ⟨by rw [← h.armed]; simp [Monitor.tick], h.none, h.some, h.range⟩

theorem State.CountdownLaws.tick {s : State} (h : s.CountdownLaws) : s.tick.CountdownLaws := by
  intro c
  obtain ⟨hfit, hrest⟩ := State.countdownLaw_iff.mp (h c)
  have hport : s.tick.port c = (s.port c).tick := by cases c <;> rfl
  have hmonitor : s.tick.monitor c = (s.monitor c).tick := by cases c <;> rfl
  rw [State.countdownLaw_iff, hport, hmonitor]
  exact ⟨hfit.tick, hrest⟩

theorem State.CountdownLaws.autoStart {s : State} (h : s.CountdownLaws) {c : Cam} (ha : s.autoStarts c = true) :
    (s.autoStart c).CountdownLaws := by
  obtain ⟨k, hk⟩ := State.cal_of_autoStarts ha
  unfold State.autoStart
  split
  · exact h.startLive hk ‹_› _
  · exact h

theorem State.CountdownLaws.pins {s : State} (h : s.CountdownLaws) (named : Cam → Option (Nat × Pin)) :
    (s.applyPins named).CountdownLaws := by
  intro c
  have hport : ((s.applyPins named).port c).state = (s.port c).state ∧ ((s.applyPins named).port c).cal = (s.port c).cal ∧
      ((s.applyPins named).port c).format = (s.port c).format := by cases c <;> exact ⟨rfl, rfl, rfl⟩
  obtain ⟨hstate, hcal, hformat⟩ := hport
  rw [State.countdownLaw_iff, Port.configured, hstate, hcal, hformat]
  exact State.countdownLaw_iff.mp (h c)

theorem State.Quiet.countdownLaws {s t : State} (h : s.Quiet t) (hs : s.CountdownLaws) : t.CountdownLaws := by
  induction h with
  | frames h => exact h.countdownLaws hs
  | autoStart s c ha => exact hs.autoStart ha
  | trans _ _ ih1 ih2 => exact ih2 (ih1 hs)
  | tick s => exact hs.tick
  | pins s named => exact hs.pins named
  | _ => exact hs.congr rfl rfl

theorem State.CountdownLaws.of_reset {s : State} (hp : s.ports = State.reset.ports)
    (hm : s.monitors = State.reset.monitors) : s.CountdownLaws :=
  State.CountdownLaws.congr (s := State.reset) State.reset_countdownLaw hp hm

theorem countdowns_keptQuietly : KeptQuietly State.CountdownLaws where
  quiet hq hs := hq.countdownLaws hs
  startIn c mode hc ho hs := hs.startIn hc ho mode
  stopCamera c hc _ _ hs := hs.stopCamera hc
  giveBus x hs := hs.buses (.giveBus _ x)
  freed x o hs := hs.buses (.freeEngine _ x o)
  serveScript x r o _ hs := by
    split
    · exact hs.endScript x _ _ _ _
    · exact hs.scriptOutcome x r o
  endWait x hs := by
    unfold State.endWait
    split
    · split
      · exact (hs.stepDone x _).buses (.giveBus _ x)
      · exact hs
    · exact hs
  endRetry x hs := by
    unfold State.endRetry
    split
    · split
      · exact (hs.buses (.setRunning _ x _)).buses (.giveBus _ x)
      · exact hs
    · exact hs
  link _ hs := hs.congr rfl rfl
  pending _ hs := hs.congr rfl rfl
  released hs := hs.congr rfl rfl
  pinReset _ := .of_reset rfl rfl
  partReset _ := .of_reset rfl rfl
  booted _ hs := hs.congr rfl rfl
  begins _ hs := hs.congr rfl rfl
  stops _ hs := hs.congr rfl rfl
  stopPending _ hs := hs.congr rfl rfl
  setFormat {s} c f ho hs :=
    (hs.updatePort (p := { s.port c with format := some f, ring := freshRing f.slots s.freeSeed }) (hs.fits c)
      (fun hne => absurd ho hne) fun _ => rfl).congr rfl rfl
  removeCamera {s} c ho hs := by
    unfold State.removeCamera
    split
    · exact hs.updatePort (p := { s.port c with format := none, cal := none, ring := [] }) (hs.fits c)
        (fun hne => absurd ho hne) nofun
    · exact hs
  withCal {s} c k f hf hs := by
    have hport : (s.setPort c { s.port c with cal := some k }).CountdownLaws :=
      hs.updatePort (p := { s.port c with cal := some k }) (hs.fits c) (fun _ => by simp [Port.configured, hf])
        fun _ => by simp [hf]
    unfold State.withCal
    dsimp only
    split
    · exact hport.congr rfl rfl
    · exact hport
  setScript _ _ _ _ hs := hs.congr rfl rfl
  passes _ _ _ hs := hs.congr rfl rfl

/-- Settles O57: the law of all countdowns, carried along a step. -/
theorem stepKeepsCountdowns : Obligations.StepKeepsCountdowns := by
  unfold Obligations.StepKeepsCountdowns
  exact fun s t => countdowns_keptQuietly.kept.step

end Sys2Proof.Machine
end

section
/-!
PROOF. Laws that read the mode, the Zoom Controller and the Camera Ports' records: `KeptFinely` lists the changes of these
parts that the pieces of work of a step make, and a law that each of them keeps is kept by every step.
-/

namespace Sys2Proof.Machine

/-- The mode, the Zoom Controller and the Camera Ports are as they were. -/
structure State.SameBasis (s t : State) : Prop where
  mode : t.mode = s.mode
  zoom : t.zoom = s.zoom
  ports : t.ports = s.ports

theorem State.SameBasis.refl (s : State) : s.SameBasis s := ⟨rfl, rfl, rfl⟩

theorem State.SameBasis.trans {s t u : State} (h : s.SameBasis t) (k : t.SameBasis u) : s.SameBasis u :=
  ⟨k.mode.trans h.mode, k.zoom.trans h.zoom, k.ports.trans h.ports⟩

theorem State.Buses.sameBasis {s t : State} (h : s.Buses t) : s.SameBasis t :=
  ⟨h.sameParts.mode, h.sameParts.zoom, h.frame.1⟩

/-- Fields of the Zoom Controller that no law speaks of: effective maxima, distance, rest value and selection. -/
structure Zoom.Minor (z z' : Zoom) : Prop where
  queue : z'.queue = z.queue
  engine : z'.engine = z.engine
  outgoing : z'.outgoing = z.outgoing
  incoming : z'.incoming = z.incoming
  view : z'.view = z.view
  settings : z'.settings = z.settings
  pendingSettings : z'.pendingSettings = z.pendingSettings
  priorM : z'.priorM = z.priorM
  current : z'.current = z.current

/-- What every boundary begins with leaves the mode, the Zoom Controller and the ports alone. -/
theorem State.beforeBoundary_basis (s : State) :
    s.SameBasis s.applyShadowed.sendMetadata.frameDone := by
  have sent : ∀ t : State, t.SameBasis t.sendMetadata := by
    intro t
    unfold State.sendMetadata
    split <;> exact ⟨rfl, rfl, rfl⟩
  have done : ∀ t : State, t.SameBasis t.frameDone := by
    intro t
    unfold State.frameDone
    split <;> exact ⟨rfl, rfl, rfl⟩
  have shadowed : s.SameBasis s.applyShadowed := ⟨rfl, rfl, rfl⟩
  exact (shadowed.trans (sent _)).trans (done _)

/-- A law of mode, Zoom Controller and ports is kept by every change a piece of work makes to them. -/
structure KeptFinely (Q : State → Prop) : Prop where
  same : ∀ {s t : State}, s.SameBasis t → Q s → Q t
  ticks : ∀ {s : State}, Q s → Q { s with ports := Quad.tab fun c => (s.port c).tick }
  move : ∀ {s : State} (c : Cam) {p : Port}, (s.port c).Move p → Q s → Q (s.setPort c p)
  state : ∀ {s : State} (c : Cam) (x : CamState), Q s → Q (s.setPort c { s.port c with state := x })
  setFormat : ∀ {s : State} (c : Cam) (f : Format), s.mode = .config → formatOk f.ws f.hs f.slots = true → Q s →
    Q (s.setFormat c f)
  removeCamera : ∀ {s : State} (c : Cam), s.mode = .config → Q s → Q (s.removeCamera c)
  withCal : ∀ {s : State} (c : Cam) (k : Cal) (f : Format), ¬ (s.mode = .run ∧ s.names c = true) → Q s → Q (s.withCal c k f)
  reset : ∀ {s : State}, s.mode = .booting → s.zoom = .reset → s.ports = State.reset.ports → Q s
  booted : ∀ {s : State}, s.mode = .booting → Q s → Q { s with mode := .config }
  begins : ∀ {s : State}, s.mode = .config → Q s → Q { s with mode := .run }
  stops : ∀ {s : State}, s.mode = .run → Q s →
    Q { s.applyPins fun _ => none with zoom := s.zoom.stopped, mode := .config }
  minor : ∀ {s : State} {z : Zoom}, s.zoom.Minor z → Q s → Q { s with zoom := z }
  handoff : ∀ {s : State} (b : HandoffBody), marginsOk b = true → Q s →
    Q { s with zoom := { s.zoom with pendingSettings := some (handoffTaken b) } }
  zoomTo : ∀ {s : State} (target frames : Nat) (mode : RampMode),
    (mode = .append → s.zoom.queue.length < Config.rampDepth) → Q s →
    Q { s with zoom := { s.zoom with queue := joinQueue s.zoom.queue (s.segmentOf target frames mode) mode } }
  zoomCancel : ∀ {s : State}, Q s → Q { s with zoom := { s.zoom with queue := [], rest := s.zoom.lastApplied } }
  view : ∀ {s : State} (mode first second : Byte) (split : Nat) (v : View), s.viewOf mode first second split = some v →
    Q s → Q { s with zoom := { s.zoom with view := v } }
  compose : ∀ {s : State}, s.mode = .run → Q s → Q s.compose
  countLine : ∀ {s : State} (rec : Record) (underran : Bool), s.zoom.current = some rec → Q s →
    Q { s with zoom := { s.zoom with current := some (rec.countLine underran) } }

namespace KeptFinely

variable {Q : State → Prop}

theorem keep (h : KeptFinely Q) {s t : State} (hs : Q s) (hb : s.SameBasis t) : Q t := h.same hb hs

theorem setMinor (h : KeptFinely Q) {s : State} (hs : Q s) (z : Zoom) (hz : s.zoom.Minor z) : Q { s with zoom := z } :=
  h.minor hz hs

theorem giveBus (h : KeptFinely Q) {s : State} (x : Bus) (hs : Q s) : Q (s.giveBus x) :=
  h.keep hs (State.Buses.giveBus s x).sameBasis

theorem frames (h : KeptFinely Q) {s t : State} (hst : s.Frames t) (hs : Q s) : Q t := by
  induction hst with
  | refl => exact hs
  | trans _ _ ih1 ih2 => exact ih2 (ih1 hs)
  | raise s n => exact h.keep hs ⟨rfl, rfl, rfl⟩
  | port s c p hp => exact h.move c hp hs
  | status s c x m _ _ _ => exact h.keep (h.state c x hs) ⟨rfl, rfl, rfl⟩

theorem work (h : KeptFinely Q) {s t : State} (hst : s.Work t) (hs : Q s) : Q t := by
  induction hst with
  | frames hf => exact h.frames hf hs
  | trans _ _ ih1 ih2 => exact ih2 (ih1 hs)
  | state s c x => exact h.state c x hs
  | monitor s c m => exact h.keep hs ⟨rfl, rfl, rfl⟩
  | buses hb => exact h.same hb.sameBasis hs

theorem beginFrame (h : KeptFinely Q) {s : State} (phase : Nat) (hm : s.mode = .run) (hs : Q s) : Q (s.beginFrame phase) := by
  have hb := s.beforeBoundary_basis
  have hc : Q (s.applyShadowed.sendMetadata.frameDone.compose) := h.compose (hb.mode.trans hm) (h.same hb hs)
  have opened : ∀ t : State, t.SameBasis t.openWindows := by
    intro t
    unfold State.openWindows
    split <;> exact ⟨rfl, rfl, rfl⟩
  exact h.keep (h.keep hc (opened _)) ⟨rfl, rfl, rfl⟩

theorem boundary (h : KeptFinely Q) {s : State} (hm : s.mode = .run) (hs : Q s) : Q s.boundary := by
  unfold State.boundary
  split
  · have hb := s.beforeBoundary_basis
    exact h.keep (h.stops (hb.mode.trans hm) (h.same hb hs)) ⟨rfl, rfl, rfl⟩
  · exact h.beginFrame _ hm hs

theorem takeOpportunity (h : KeptFinely Q) {s : State} (hs : Q s) : Q s.takeOpportunity := by
  unfold State.takeOpportunity
  dsimp only
  split
  · unfold State.markGranted
    split
    · exact h.move _ (Port.Move.inFlight _ true) (h.keep hs ⟨rfl, rfl, rfl⟩)
    · exact h.keep hs ⟨rfl, rfl, rfl⟩
  · exact h.keep hs ⟨rfl, rfl, rfl⟩

theorem completeTransfer (h : KeptFinely Q) {s : State} (hs : Q s) : Q s.completeTransfer := by
  unfold State.completeTransfer
  split
  · exact hs
  · exact hs
  have free : Q { s with arbiter := { s.arbiter with channel := .free } } := h.keep hs ⟨rfl, rfl, rfl⟩
  dsimp only
  split
  · exact h.frames (.writeDone _ _) free
  · unfold State.readDone
    split
    · exact free
    · exact h.keep free ⟨rfl, rfl, rfl⟩

theorem endTransaction (h : KeptFinely Q) {s : State} (x : Bus) (o : BusOutcome) (hs : Q s) : Q (s.endTransaction x o) := by
  rcases s.endTransaction_cases x o with hw | ⟨t, p, rest, bytes, ht, -, he⟩
  · exact h.work hw hs
  · rw [he]
    exact h.giveBus x (h.keep (h.keep hs ht.sameBasis) ⟨rfl, rfl, rfl⟩)

theorem lineStart (h : KeptFinely Q) {s : State} (hs : Q s) : Q s.lineStart := by
  unfold State.lineStart
  split
  · rename_i f rec _ hrec
    split
    · exact h.keep (h.countLine rec _ hrec hs) ⟨rfl, rfl, rfl⟩
    · exact hs
  · exact hs

theorem outputFrameEnd (h : KeptFinely Q) {s : State} (hs : Q s) : Q s.outputFrameEnd := by
  have reported : ∀ {t : State}, Q t → Q t.reportUnderrun := by
    intro t ht
    unfold State.reportUnderrun
    split
    · split
      · exact h.keep ht ⟨rfl, rfl, rfl⟩
      · exact ht
    · exact ht
  unfold State.outputFrameEnd
  split
  · split
    · exact reported (h.keep hs ⟨rfl, rfl, rfl⟩)
    · exact hs
  · exact hs

theorem kept (h : KeptFinely Q) : Kept fun _ => Q where
  pending q hs := h.keep hs ⟨rfl, rfl, rfl⟩
  tick hs := h.keep (h.ticks hs) ⟨rfl, rfl, rfl⟩
  pinReset _ := h.reset rfl rfl rfl
  released hs := h.keep hs ⟨rfl, rfl, rfl⟩
  bootingEnd {s} hs := by
    unfold State.bootingEnd
    split
    · rename_i hb
      exact h.keep (h.booted hb.1 hs) ⟨rfl, rfl, rfl⟩
    · exact hs
  read _ _ hs := h.keep hs ⟨rfl, rfl, rfl⟩
  endRead hs := h.keep hs ⟨rfl, rfl, rfl⟩
  beginWrite hs := h.keep hs ⟨rfl, rfl, rfl⟩
  discard _ hs := h.keep hs ⟨rfl, rfl, rfl⟩
  taken _ hs := h.keep hs ⟨rfl, rfl, rfl⟩
  reply _ _ _ _ hs := h.keep hs ⟨rfl, rfl, rfl⟩
  resetPart _ _ := h.reset rfl rfl rfl
  mask _ hs := h.keep hs ⟨rfl, rfl, rfl⟩
  outputFormat _ _ hs := h.keep hs ⟨rfl, rfl, rfl⟩
  blanking b hs := by
    unfold State.setBlanking
    split <;> exact h.keep hs ⟨rfl, rfl, rfl⟩
  setFormat c f hm _ hf hs := h.setFormat c f hm hf hs
  removeCamera c hm _ hs := h.removeCamera c hm hs
  withCal c k f _ hn hs := h.withCal c k f hn hs
  handoff b hb hs := h.handoff b hb hs
  setTable _ _ _ _ _ hs := by
    unfold State.setTable
    split <;> exact h.keep hs ⟨rfl, rfl, rfl⟩
  setFsync c x hs := by
    unfold State.setFsync
    split <;> exact h.keep hs ⟨rfl, rfl, rfl⟩
  setScript _ _ _ _ hs := h.keep hs ⟨rfl, rfl, rfl⟩
  startIn c mode _ _ hs := h.work (.startIn _ c mode) hs
  stopCamera c _ _ _ hs := h.work (.stopCamera _ c) hs
  clearCounters c hs := h.frames (.clearCounters _ c) hs
  beginOutput {s} f z tag body hm hs := by
    have hz : Q (s.withMaxima f.wo) := h.setMinor hs _ ⟨rfl, rfl, rfl, rfl, rfl, rfl, rfl, rfl, rfl⟩
    have hr : Q { s.withMaxima f.wo with mode := .run } := h.begins hm hz
    have hv : Q { s.withMaxima f.wo with mode := .run, zoom := { (s.withMaxima f.wo).zoom with rest := z } } :=
      h.setMinor hr _ ⟨rfl, rfl, rfl, rfl, rfl, rfl, rfl, rfl, rfl⟩
    exact h.beginFrame _ rfl (h.keep hv ⟨rfl, rfl, rfl⟩)
  stopOutput {s} tag _ hp hs := by
    unfold State.takeStopOutput
    rw [hp]
    exact h.keep hs ⟨rfl, rfl, rfl⟩
  zoomTo target frames mode hm hs := h.zoomTo target frames mode hm hs
  zoomCancel hs := h.zoomCancel hs
  distance _ hs := h.setMinor hs _ ⟨rfl, rfl, rfl, rfl, rfl, rfl, rfl, rfl, rfl⟩
  view mode first second split v hv hs := h.view mode first second split v hv hs
  queuePass {s} kind tag x t _ hs := h.giveBus x (h.keep hs ⟨rfl, rfl, rfl⟩)
  frameStart c hs := h.frames (.frameStart _ c) hs
  linePacket c luma u v hs := h.frames (.linePacket _ c luma u v) hs
  frameEnd c hs := h.frames (.frameEnd _ c) hs
  patternStart c hs := h.frames (.patternStart _ c) hs
  patternTo c g row hs := h.frames (.patternTo _ c g row) hs
  expire c hs := h.frames (.expire _ c) hs
  boundary hm hs := h.boundary hm hs
  blankingLine {s} hs := by
    unfold State.blankingLine
    split
    · exact h.keep hs ⟨rfl, rfl, rfl⟩
    · exact hs
  outputFrameStart {s} hs := by
    unfold State.outputFrameStart
    split
    · split
      · exact h.keep hs ⟨rfl, rfl, rfl⟩
      · exact hs
    · exact hs
  lineStart hs := h.lineStart hs
  outputFrameEnd hs := h.outputFrameEnd hs
  opportunity _ hs := h.takeOpportunity hs
  completeTransfer hs := h.completeTransfer hs
  endTransaction x o hs := h.endTransaction x o hs
  endWait x hs := h.work (.endWait _ x) hs
  endRetry x hs := h.work (.endRetry _ x) hs
  pulseStart c hs := h.keep hs ⟨rfl, rfl, rfl⟩
  pulseEnd c hs := h.keep hs ⟨rfl, rfl, rfl⟩

end KeptFinely

end Sys2Proof.Machine
end

section
/-!
PROOF. The Zoom Controller's laws (R40, R68, R76, R82, R104, R109): the ranges of correction records, ramp queue, engine and
settings, and where an M from before a replacement stands, kept by every step.
-/

namespace Sys2Proof.Machine

/-! ### Correction records (R109 to R116) -/

theorem clampNat_bounds {lo hi : Nat} (h : lo ≤ hi) (x : Nat) : lo ≤ clampNat lo hi x ∧ clampNat lo hi x ≤ hi := by
  unfold clampNat
  split
  · omega
  · split <;> omega

theorem clampInt_bounds {lo hi : Int} (h : lo ≤ hi) (x : Int) : lo ≤ clampInt lo hi x ∧ clampInt lo hi x ≤ hi := by
  unfold clampInt
  split
  · omega
  · split <;> omega

theorem measured_law (ref inc : Means) (approx : Bool) : (measured ref inc approx).Law := by
  have gain : ∀ p q : Nat, 512 ≤ measuredGain p q ∧ measuredGain p q ≤ 2047 := by
    intro p q
    unfold measuredGain
    split
    · omega
    · exact clampNat_bounds (by omega) _
  exact ⟨gain _ _, clampInt_bounds (by omega) _, clampInt_bounds (by omega) _⟩

theorem measure_law (r i : Cam) (ref inc : Slot) (k : Corr) : (measure r i ref inc k).Law := by
  unfold measure
  split
  · exact measured_law _ _ _
  split <;> exact measured_law _ _ _

/-- A quarter step stays between the value and its goal. -/
theorem quarterStep_bounds {lo hi x y : Int} (hx : lo ≤ x ∧ x ≤ hi) (hy : lo ≤ y ∧ y ≤ hi) :
    lo ≤ quarterStep x y ∧ quarterStep x y ≤ hi := by
  unfold quarterStep
  rcases Int.le_total 0 (y - x) with h | h
  · rw [Int.tdiv_eq_ediv_of_nonneg h]
    omega
  · rw [← Int.neg_neg (y - x), Int.neg_tdiv, Int.tdiv_eq_ediv_of_nonneg (by omega)]
    omega

theorem Corr.Law.smooth {k m : Corr} (hk : k.Law) (hm : m.Law) : (k.smooth m).Law := by
  obtain ⟨⟨hg1, hg2⟩, hu, hv⟩ := hk
  obtain ⟨⟨mg1, mg2⟩, mu, mv⟩ := hm
  have hg := quarterStep_bounds (lo := 512) (hi := 2047) (x := k.g) (y := m.g) (by omega) (by omega)
  refine ⟨?_, quarterStep_bounds hu mu, quarterStep_bounds hv mv⟩
  show 512 ≤ (quarterStep k.g m.g).toNat ∧ (quarterStep k.g m.g).toNat ≤ 2047
  omega

/-- A relaxation step from above goes down, not past the rest. -/
theorem relaxStep_above {rest x : Int} (h : rest < x) :
    relaxStep rest x = x - max 1 ((x - rest) / 4) ∧ rest ≤ relaxStep rest x := by
  have hs : (x - rest).sign = 1 := Int.sign_eq_one_of_pos (by omega)
  unfold relaxStep
  rw [hs]
  omega

/-- A relaxation step from below goes up, not past the rest. -/
theorem relaxStep_below {rest x : Int} (h : x < rest) :
    relaxStep rest x = x + max 1 ((rest - x) / 4) ∧ relaxStep rest x ≤ rest := by
  have hs : (x - rest).sign = -1 := Int.sign_eq_neg_one_of_neg (by omega)
  unfold relaxStep
  rw [hs]
  omega

theorem relaxStep_rest (rest : Int) : relaxStep rest rest = rest := by
  simp [relaxStep]

/-- Relaxation stays between the value and the rest. -/
theorem relaxStep_between (rest x : Int) :
    (rest ≤ x → rest ≤ relaxStep rest x ∧ relaxStep rest x ≤ x) ∧ (x ≤ rest → x ≤ relaxStep rest x ∧ relaxStep rest x ≤ rest) := by
  rcases Int.lt_trichotomy x rest with h | rfl | h
  · have := relaxStep_below h
    omega
  · rw [relaxStep_rest]
    omega
  · have := relaxStep_above h
    omega

theorem Corr.Law.relax {k : Corr} (hk : k.Law) : k.relax.Law := by
  obtain ⟨⟨hg1, hg2⟩, hu, hv⟩ := hk
  have hg := relaxStep_between 1024 k.g
  have hou := relaxStep_between 0 k.oU
  have hov := relaxStep_between 0 k.oV
  refine ⟨?_, ?_, ?_⟩
  · show 512 ≤ (relaxStep 1024 k.g).toNat ∧ (relaxStep 1024 k.g).toNat ≤ 2047
    omega
  · show -32 ≤ relaxStep 0 k.oU ∧ relaxStep 0 k.oU ≤ 32
    omega
  · show -32 ≤ relaxStep 0 k.oV ∧ relaxStep 0 k.oV ≤ 32
    omega

/-- The correction update stage keeps the ranges, whatever it measures (R80). -/
theorem Zoom.CorrLaw.corrected {s : State} (h : s.zoom.CorrLaw) (k : CorrStep) :
    (s.corrected k).1.Law ∧ (s.corrected k).2.Law := by
  obtain ⟨hout, hinc⟩ := h
  cases k with
  | relax => exact ⟨hout.relax, Corr.identity_law⟩
  | takeAndRelax => exact ⟨hinc.relax, Corr.identity_law⟩
  | take => exact ⟨hinc, Corr.identity_law⟩
  | dropIncoming => exact ⟨hout, Corr.identity_law⟩
  | identity => exact ⟨Corr.identity_law, Corr.identity_law⟩
  | keep => exact ⟨hout, hinc⟩
  | measure f =>
    refine ⟨?_, Corr.identity_law⟩
    show (s.measureAgainstRecord f).Law
    unfold State.measureAgainstRecord
    split
    · exact Corr.identity_law
    · split
      · exact measure_law _ _ _ _ _
      · exact Corr.identity_law
  | smooth o i =>
    refine ⟨hout, ?_⟩
    show (s.smoothIncoming o i).Law
    unfold State.smoothIncoming
    split
    · exact hinc.smooth (measure_law _ _ _ _ _)
    · exact hinc

/-! ### The ramp queue (R40 to R49) -/

theorem Segment.Law.fresh {g : Segment} (hf : 1 ≤ g.frames) (hp : g.progress = none) : g.Law :=
  ⟨hf, fun p h => by rw [hp] at h; cases h⟩

/-- A segment that joins the queue, or replaces it. -/
theorem Zoom.RampLaw.join {z : Zoom} (h : z.RampLaw) {g : Segment} {mode : RampMode} (hf : 1 ≤ g.frames)
    (hp : g.progress = none) (hm : mode = .append → z.queue.length < Config.rampDepth) :
    ({ z with queue := joinQueue z.queue g mode } : Zoom).RampLaw := by
  have hg := Segment.Law.fresh hf hp
  cases mode with
  | replace => exact ⟨joinQueue_length (queue := z.queue) (mode := .replace) g nofun, by simpa [joinQueue] using hg, by simp [joinQueue]⟩
  | append =>
    refine ⟨joinQueue_length g hm, fun x hx => ?_, fun x hx => ?_⟩
    · rcases List.mem_append.mp hx with hx | hx
      · exact h.segments x hx
      · exact (List.mem_singleton.mp hx).symm ▸ hg
    · have hx' : x ∈ z.queue.tail ++ [g] := by
        cases hq : z.queue with
        | nil => simp [joinQueue, hq] at hx
        | cons y ys => simpa [joinQueue, hq] using hx
      rcases List.mem_append.mp hx' with hx | hx
      · exact h.head x hx
      · exact (List.mem_singleton.mp hx).symm ▸ hp

/-- The head's progress and target may change; what follows stays. -/
theorem Zoom.RampLaw.setHead {z z' : Zoom} (h : z.RampLaw) {g g' : Segment} {tail : List Segment} (hq : z.queue = g :: tail)
    (hg : g'.Law) (hq' : z'.queue = g' :: tail) : z'.RampLaw := by
  obtain ⟨hsize, hseg, hhead⟩ := h
  rw [hq] at hsize hseg hhead
  exact ⟨by rw [hq']; exact hsize, by
    rw [hq']
    exact List.forall_mem_cons.mpr ⟨hg, fun x hx => hseg x (List.mem_cons_of_mem _ hx)⟩, by rw [hq']; exact hhead⟩

theorem Segment.Law.activate {g : Segment} (h : g.Law) (zs target : Nat) : ({ g.activate zs with target := target } : Segment).Law := by
  unfold Segment.activate
  split
  · exact h
  · exact ⟨h.1, fun p hp => by cases hp; exact h.1⟩

theorem Zoom.RampLaw.start {z : Zoom} (h : z.RampLaw) (b : Nat × Nat) (zs : Nat) (frame : Word) (rest : Nat) :
    ({ z with queue := (rampStart b zs frame z.queue z.rest).1, rest := rest } : Zoom).RampLaw := by
  cases hq : z.queue with
  | nil => exact ⟨Nat.zero_le _, nofun, nofun⟩
  | cons g tail => exact h.setHead hq ((h.segments g (by simp [hq])).activate zs _) rfl

/-- One more step of an active segment that has one left. -/
theorem Segment.Law.step {g : Segment} (h : g.Law) {p : Progress} (hp : p.i < g.frames) :
    ({ g with progress := some p } : Segment).Law :=
  ⟨h.1, fun q hq => by cases hq; exact hp⟩

theorem Zoom.RampLaw.advance {z : Zoom} (h : z.RampLaw) (rest : Nat) (held : Bool) :
    ({ z with queue := (rampAdvance z.queue z.rest).1, rest := rest, heldRun := held } : Zoom).RampLaw := by
  cases hq : z.queue with
  | nil => exact ⟨Nat.zero_le _, nofun, nofun⟩
  | cons g tail =>
    have hg : g.Law := h.segments g (by simp [hq])
    unfold rampAdvance
    dsimp only
    split
    · exact h.setHead hq hg rfl
    · split
      · obtain ⟨hsize, hseg, hhead⟩ := h
        rw [hq] at hsize hseg hhead
        exact ⟨Nat.le_of_succ_le hsize, fun x hx => hseg x (List.mem_cons_of_mem _ hx),
          fun x hx => hhead x (List.mem_of_mem_tail hx)⟩
      · exact h.setHead hq (hg.step (Nat.lt_of_not_le ‹_›)) rfl

/-! ### The engine (R60 to R79) -/

/-- Engine state and view of a verdict are lawful. -/
def Verdict.Lawful (v : Verdict) : Prop := v.engine.Law ∧ v.view.Law

section Verdicts

variable {s : State} (x : HandoffIn)

theorem State.fallback_lawful (hv : s.zoom.view.Law) (lost : Option Cam) : (s.fallback x lost).Lawful := by
  unfold State.fallback
  split <;> exact ⟨trivial, hv⟩

/-- The step camera is another one (R62). -/
theorem State.stepCamera_ne {p t i : Cam} (ht : t ≠ p) (h : s.stepCamera p t = some i) : p ≠ i := by
  unfold State.stepCamera at h
  split at h
  · exact Option.some.inj h ▸ ht.symm
  · have hmem := List.mem_of_find?_eq_some h
    unfold cameraPath at hmem
    rintro rfl
    split at hmem
    · have := (List.mem_filter.mp hmem).2
      simp at this
    · have := (List.mem_filter.mp hmem).2
      simp at this

theorem State.steadyStep_lawful (hv : s.zoom.view.Law) {p : Cam} (he : s.zoom.engine = .steady p) :
    (s.steadyStep x p).Lawful := by
  have stays : s.zoom.engine.Law := he ▸ trivial
  unfold State.steadyStep
  dsimp only
  split
  · exact ⟨stays, hv⟩
  rename_i ht
  split
  · rename_i i hi
    split
    · exact ⟨State.stepCamera_ne ht hi, hv⟩
    · exact ⟨stays, hv⟩
  · unfold State.waitForCut
    split <;> exact ⟨trivial, hv⟩

theorem State.prepareStep_lawful (hv : s.zoom.view.Law) (hs : s.zoom.settings.Law) {o i : Cam} (hoi : o ≠ i) (count : Nat)
    (started : Bool) : (s.prepareStep x o i count started).Lawful := by
  unfold State.prepareStep
  dsimp only
  split
  · exact ⟨trivial, hv⟩
  rename_i ht
  split
  · rename_i r hr
    split
    · unfold State.prepareOn
      dsimp only
      have counted : ∀ (n : Nat) (k : CorrStep) (b : Bool), Verdict.Lawful (if s.zoom.settings.prepare ≤ n then
          ⟨.blend o i 0 s.zoom.settings.blend .forward, none, s.zoom.view, k,
            [.handoff .begin (some o) (some i) x.frame], none, false⟩
          else ⟨.prepare o i n b, none, s.zoom.view, k, [], none, false⟩) := by
        intro n k b
        split
        · exact ⟨⟨hoi, Nat.zero_le _, hs.blend⟩, hv⟩
        · exact ⟨hoi, hv⟩
      split
      · exact counted _ _ _
      · exact ⟨hoi, hv⟩
    · split
      · exact ⟨State.stepCamera_ne ht hr, hv⟩
      · exact ⟨trivial, hv⟩
  · exact ⟨trivial, hv⟩

theorem State.blendStep_lawful (hv : s.zoom.view.Law) {o i : Cam} {k n : Nat} {dir : Direction}
    (he : (Engine.blend o i k n dir).Law) : (s.blendStep x o i k n dir).Lawful := by
  obtain ⟨hoi, hk, hn⟩ := he
  unfold State.blendStep
  dsimp only
  split
  · split
    · exact ⟨trivial, hv⟩
    · exact ⟨⟨hoi, by omega, hn⟩, hv⟩
  · split
    · exact ⟨trivial, hv⟩
    · exact ⟨⟨hoi, by omega, hn⟩, hv⟩

theorem State.stateStep_lawful (h : s.zoom.EngineLaw) : (s.stateStep x).Lawful := by
  unfold State.stateStep
  split
  next p he => exact State.steadyStep_lawful x h.view he
  next o i count started he =>
    have hl := h.engine
    rw [he] at hl
    exact State.prepareStep_lawful x h.view h.applied hl count started
  next o i k n dir he =>
    have hl := h.engine
    rw [he] at hl
    exact State.blendStep_lawful x h.view hl
  next =>
    unfold State.frozenStep
    split <;> exact ⟨trivial, h.view⟩
  next => exact ⟨h.engine, h.view⟩
  next => exact ⟨h.engine, h.view⟩

theorem State.lossStep_lawful (hv : s.zoom.view.Law) {v : Verdict} (h : s.lossStep x = some v) : v.Lawful := by
  have cut : ∀ a b corr, (s.cutTo x a b corr).Lawful := fun _ _ _ => ⟨trivial, hv⟩
  unfold State.lossStep at h
  split at h
  case h_1 =>
    split at h <;> cases h
    exact State.fallback_lawful x hv _
  case h_2 =>
    split at h
    · cases h
      split
      · exact cut _ _ _
      · exact State.fallback_lawful x hv _
    · split at h <;> cases h
      exact ⟨trivial, hv⟩
  case h_3 =>
    split at h <;> cases h
    · exact cut _ _ _
    · exact cut _ _ _
    · exact State.fallback_lawful x hv _
  case h_4 =>
    split at h <;> cases h
    · exact cut _ _ _
    · exact cut _ _ _
    · exact State.fallback_lawful x hv _
  all_goals cases h

theorem State.viewStep_lawful (hv : s.zoom.view.Law) {v : Verdict} (h : s.viewStep x = some v) : v.Lawful := by
  unfold State.viewStep at h
  split at h
  next a b split' a' b' old hview _ =>
    have hab := hv
    rw [hview] at hab
    split at h
    · cases h
    split at h <;> cases h
    exact ⟨hab, hv⟩
  next a b split' hview _ =>
    have hab := hv
    rw [hview] at hab
    split at h <;> cases h
    exact ⟨hab, hv⟩
  next a b split' _ _ =>
    cases h
    unfold State.leaveCompare
    split
    · exact ⟨trivial, hv⟩
    · exact State.fallback_lawful x hv _
  next => cases h

theorem State.firstStep_lawful (hv : s.zoom.view.Law) : (s.firstStep x).Lawful := by
  unfold State.firstStep
  split
  · split
    · exact ⟨trivial, hv⟩
    · exact State.fallback_lawful x hv none
  · exact State.fallback_lawful x hv none

theorem State.withViewNow_law (h : s.zoom.EngineLaw) : s.withViewNow.zoom.EngineLaw := by
  have view : s.viewNow.Law := by
    have hv := h.view
    unfold State.viewNow
    split
    next a b split' hview =>
      rw [hview] at hv
      have chosen : ∀ normal : Bool, (if normal then View.normal else View.compare a b split').Law := by
        intro normal
        split
        · exact trivial
        · exact hv
      exact chosen _
    next => exact hv
  refine ⟨?_, view, h.applied, h.pending, h.weight⟩
  have he := h.engine
  unfold State.withViewNow
  dsimp only
  split
  next a b _ _ heng =>
    rw [heng] at he
    exact he
  next => exact he

/-- The hand-off stage leaves engine and view lawful. -/
theorem State.handoff_lawful (h : s.zoom.EngineLaw) : (s.handoff x).Lawful := by
  have hw := State.withViewNow_law h
  unfold State.handoff
  dsimp only
  split
  · exact State.firstStep_lawful x hw.view
  split
  · exact State.viewStep_lawful x hw.view ‹_›
  split
  · exact State.lossStep_lawful x hw.view ‹_›
  · exact State.stateStep_lawful x hw

end Verdicts

/-- The weight of a blend is at most 256 (R68). -/
theorem Engine.Law.weight {e : Engine} (h : e.Law) : e.weight ≤ 256 := by
  cases e with
  | blend o i k n dir =>
    obtain ⟨-, hk, hn, -⟩ := h
    show (256 * k + n / 2) / n ≤ 256
    refine Nat.le_of_lt_succ ((Nat.div_lt_iff_lt_mul hn).mpr ?_)
    omega
  | _ => exact Nat.zero_le _

theorem handoffTaken_law {b : HandoffBody} (h : marginsOk b = true) : (handoffTaken b).Law := by
  obtain ⟨hup, hdown⟩ := of_decide_eq_true h
  exact ⟨⟨hdown, hup⟩, clampNat_bounds (by omega) _, clampNat_bounds (by omega) _, Nat.min_le_left _ _⟩

theorem State.viewOf_law {s : State} {mode first second : Byte} {split : Nat} {v : View}
    (h : s.viewOf mode first second split = some v) : v.Law := by
  unfold State.viewOf at h
  split at h
  · cases h
    trivial
  · obtain ⟨c, -, rfl⟩ := Option.map_eq_some_iff.mp h
    trivial
  · split at h
    · split at h
      next hab =>
        cases h
        exact hab.1
      next => cases h
    · cases h
  · cases h

/-! ### Laws of the Zoom Controller alone -/

/-- A law of the Zoom Controller that every stage of a composition keeps (R59). -/
structure KeptByStages (Q : Zoom → Prop) : Prop where
  minor : ∀ {z z' : Zoom}, z.Minor z' → Q z → Q z'
  settings : ∀ {z : Zoom} {h : HandoffSettings}, z.pendingSettings = some h → Q z →
    Q { z with settings := h, pendingSettings := none }
  ramp : ∀ {z : Zoom} (b : Nat × Nat) (zs : Nat) (frame : Word) (rest : Nat), Q z →
    Q { z with queue := (rampStart b zs frame z.queue z.rest).1, rest := rest }
  settle : ∀ (s : State) (x : HandoffIn), Q s.zoom → Q { s.zoom with
    engine := (s.handoff x).engine, pendingCut := (s.handoff x).pendingCut, view := (s.handoff x).view }
  advance : ∀ {z : Zoom} (rest : Nat) (held : Bool), Q z →
    Q { z with queue := (rampAdvance z.queue z.rest).1, rest := rest, heldRun := held }
  corr : ∀ (s : State) (k : CorrStep), Q s.zoom →
    Q { s.zoom with outgoing := (s.corrected k).1, incoming := (s.corrected k).2 }
  publish : ∀ (s : State) (target : Word) (zc : Nat) (w : Windowed), Q s.zoom →
    Q { s.zoom with current := some (s.newRecord target zc w), previous := s.zoom.current }

/-- A law that the stages keep holds after a composition, when it holds with every calibration part's M in use. -/
theorem KeptByStages.compose {Q : Zoom → Prop} (h : KeptByStages Q) {s : State} (hs : Q s.takeCals.zoom) : Q s.compose.zoom := by
  have settings : ∀ t : State, Q t.zoom → Q t.applySettings.zoom := by
    intro t ht
    unfold State.applySettings
    split
    · exact h.settings ‹_› ht
    · exact ht
  have ramp : ∀ (t : State) frame, Q t.zoom → Q (t.rampStep frame).zoom := by
    intro t frame ht
    rw [State.rampStep, State.raiseAll_zoom]
    exact h.ramp _ _ _ _ ht
  have settle : ∀ (t : State) x, Q t.zoom → Q (t.settle (t.handoff x)).zoom := by
    intro t x ht
    have asked : ∀ (u : State) (o : Option Cam), (u.askStart o).zoom = u.zoom := by
      intro u o
      cases o with
      | none => rfl
      | some c => exact (State.Work.autoStart u c).sameParts.zoom
    rw [State.settle, asked, State.raiseAll_zoom]
    exact h.settle t x ht
  have settleZoom : ∀ (t : State) window w frame, Q t.zoom → Q (t.settleZoom window w frame).zoom := by
    intro t window w frame ht
    rw [State.settleZoom, State.raiseAll_zoom]
    split
    · exact h.advance _ _ ht
    · exact h.minor (z := t.zoom) ⟨rfl, rfl, rfl, rfl, rfl, rfl, rfl, rfl, rfl⟩ ht
  have finish : ∀ (t : State) target zc forcing k, Q t.zoom → Q (t.finishComposition target zc forcing k).zoom :=
    fun t target zc forcing k ht => h.publish _ _ _ _ (h.corr _ _ (settleZoom t _ _ _ ht))
  refine finish _ _ _ _ _ (settle _ _ ?_)
  exact h.minor (z := ((s.takeCals.applySettings).rampStep _).zoom) ⟨rfl, rfl, rfl, rfl, rfl, rfl, rfl, rfl, rfl⟩
    (ramp _ _ (settings _ hs))

/-- A law of the Zoom Controller that every change of it keeps. -/
structure KeptZoom (Q : Zoom → Prop) : Prop extends KeptByStages Q where
  reset : Q .reset
  prior : ∀ {z : Zoom} (m : Quad (Option Nat)), Q z → Q { z with priorM := m }
  stopped : ∀ {z : Zoom}, Q z → Q z.stopped
  handoff : ∀ {z : Zoom} (b : HandoffBody), marginsOk b = true → Q z →
    Q { z with pendingSettings := some (handoffTaken b) }
  join : ∀ {z : Zoom} {g : Segment} {mode : RampMode}, 1 ≤ g.frames → g.progress = none →
    (mode = .append → z.queue.length < Config.rampDepth) → Q z → Q { z with queue := joinQueue z.queue g mode }
  cancel : ∀ {z : Zoom}, Q z → Q { z with queue := [], rest := z.lastApplied }
  view : ∀ {z : Zoom} {v : View}, v.Law → Q z → Q { z with view := v }
  countLine : ∀ {z : Zoom} (rec : Record) (underran : Bool), z.current = some rec → Q z →
    Q { z with current := some (rec.countLine underran) }

theorem KeptZoom.finely {Q : Zoom → Prop} (h : KeptZoom Q) : KeptFinely fun s => Q s.zoom where
  same hb hs := hb.zoom ▸ hs
  ticks hs := hs
  move _ _ _ hs := hs
  state _ _ hs := hs
  setFormat _ _ _ _ hs := hs
  removeCamera {s} c _ hs := by
    unfold State.removeCamera
    split <;> exact hs
  withCal {s} c k f _ hs := by
    unfold State.withCal
    dsimp only
    split
    · exact h.minor (z := { s.zoom with priorM := s.keepM c }) ⟨rfl, rfl, rfl, rfl, rfl, rfl, rfl, rfl, rfl⟩ (h.prior _ hs)
    · exact hs
  reset _ hz _ := hz ▸ h.reset
  booted _ hs := hs
  begins _ hs := hs
  stops _ hs := h.stopped hs
  minor hz hs := h.minor hz hs
  handoff b hb hs := h.handoff b hb hs
  zoomTo target frames mode hm hs := h.join (Nat.le_max_left _ _) rfl hm hs
  zoomCancel hs := h.cancel hs
  view _ _ _ _ _ hv hs := h.view (State.viewOf_law hv) hs
  compose _ hs := h.compose (h.prior _ hs)
  countLine rec underran hc hs := h.countLine rec underran hc hs

theorem corr_keptZoom : KeptZoom Zoom.CorrLaw where
  minor hz hs := ⟨hz.outgoing ▸ hs.outgoing, hz.incoming ▸ hs.incoming⟩
  reset := ⟨Corr.identity_law, Corr.identity_law⟩
  prior _ hs := ⟨hs.outgoing, hs.incoming⟩
  stopped _ := ⟨Corr.identity_law, Corr.identity_law⟩
  handoff _ _ hs := ⟨hs.outgoing, hs.incoming⟩
  join _ _ _ hs := ⟨hs.outgoing, hs.incoming⟩
  cancel hs := ⟨hs.outgoing, hs.incoming⟩
  view _ hs := ⟨hs.outgoing, hs.incoming⟩
  settings _ hs := ⟨hs.outgoing, hs.incoming⟩
  ramp _ _ _ _ hs := ⟨hs.outgoing, hs.incoming⟩
  settle _ _ hs := ⟨hs.outgoing, hs.incoming⟩
  advance _ _ hs := ⟨hs.outgoing, hs.incoming⟩
  corr _ k hs := ⟨(hs.corrected k).1, (hs.corrected k).2⟩
  publish _ _ _ _ hs := ⟨hs.outgoing, hs.incoming⟩
  countLine _ _ _ hs := ⟨hs.outgoing, hs.incoming⟩

theorem ramp_keptZoom : KeptZoom Zoom.RampLaw where
  minor hz hs := ⟨hz.queue ▸ hs.size, hz.queue ▸ hs.segments, hz.queue ▸ hs.head⟩
  reset := Zoom.reset_rampLaw
  prior _ hs := ⟨hs.size, hs.segments, hs.head⟩
  stopped _ := ⟨Nat.zero_le _, nofun, nofun⟩
  handoff _ _ hs := ⟨hs.size, hs.segments, hs.head⟩
  join hf hp hm hs := hs.join hf hp hm
  cancel _ := ⟨Nat.zero_le _, nofun, nofun⟩
  view _ hs := ⟨hs.size, hs.segments, hs.head⟩
  settings _ hs := ⟨hs.size, hs.segments, hs.head⟩
  ramp b zs frame rest hs := hs.start b zs frame rest
  settle _ _ hs := ⟨hs.size, hs.segments, hs.head⟩
  advance rest held hs := hs.advance rest held
  corr _ _ hs := ⟨hs.size, hs.segments, hs.head⟩
  publish _ _ _ _ hs := ⟨hs.size, hs.segments, hs.head⟩
  countLine _ _ _ hs := ⟨hs.size, hs.segments, hs.head⟩

theorem engine_keptZoom : KeptZoom Zoom.EngineLaw where
  minor hz hs := ⟨hz.engine ▸ hs.engine, hz.view ▸ hs.view, hz.settings ▸ hs.applied, hz.pendingSettings ▸ hs.pending,
    hz.current ▸ hs.weight⟩
  reset := Zoom.reset_engineLaw
  prior _ hs := ⟨hs.engine, hs.view, hs.applied, hs.pending, hs.weight⟩
  stopped hs := ⟨trivial, trivial, hs.applied, hs.pending, fun _ h => by simp [Zoom.stopped] at h⟩
  handoff _ hb hs := ⟨hs.engine, hs.view, hs.applied, fun _ h => Option.some.inj h ▸ handoffTaken_law hb, hs.weight⟩
  join _ _ _ hs := ⟨hs.engine, hs.view, hs.applied, hs.pending, hs.weight⟩
  cancel hs := ⟨hs.engine, hs.view, hs.applied, hs.pending, hs.weight⟩
  view hv hs := ⟨hs.engine, hv, hs.applied, hs.pending, hs.weight⟩
  settings hp hs := ⟨hs.engine, hs.view, hs.pending _ hp, fun _ h => by simp at h, hs.weight⟩
  ramp _ _ _ _ hs := ⟨hs.engine, hs.view, hs.applied, hs.pending, hs.weight⟩
  settle _ x hs := ⟨(State.handoff_lawful x hs).1, (State.handoff_lawful x hs).2, hs.applied, hs.pending, hs.weight⟩
  advance _ _ hs := ⟨hs.engine, hs.view, hs.applied, hs.pending, hs.weight⟩
  corr _ _ hs := ⟨hs.engine, hs.view, hs.applied, hs.pending, hs.weight⟩
  publish _ _ _ _ hs := ⟨hs.engine, hs.view, hs.applied, hs.pending, fun _ h => Option.some.inj h ▸ hs.engine.weight⟩
  countLine rec underran hc hs := ⟨hs.engine, hs.view, hs.applied, hs.pending, fun _ h => by
    obtain rfl := Option.some.inj h
    unfold Record.countLine
    split <;> exact hs.weight rec hc⟩

/-! ### Calibrations on their way to the Zoom Controller (R4, R104) -/

/-- With no M from before a replacement there is nothing to keep. -/
theorem State.PriorLaw.of_none {s : State} (h : ∀ c, s.zoom.priorM.get c = none) : s.PriorLaw :=
  ⟨fun _ => h, fun c hc => by simp [h c] at hc, fun c _ => h c⟩

/-- The law reads the mode, the M from before, which calibration parts stand, and what the engine names. -/
theorem State.PriorLaw.congr {s t : State} (h : s.PriorLaw) (hm : t.mode = s.mode) (hz : t.zoom.priorM = s.zoom.priorM)
    (hcal : ∀ c, (t.port c).cal = (s.port c).cal) (hn : ∀ c, t.names c = s.names c) : t.PriorLaw :=
  ⟨fun hr => by rw [hz]; exact h.run (hm ▸ hr), fun c hc => by rw [hcal]; exact h.cal c (hz ▸ hc),
    fun c hc => by rw [hz]; exact h.named c (hn c ▸ hc)⟩

theorem State.setPort_cal {s : State} {c : Cam} {p : Port} (h : p.cal = (s.port c).cal) (d : Cam) :
    ((s.setPort c p).port d).cal = (s.port d).cal := by
  by_cases hd : d = c
  · rw [hd, State.port_setPort_same, h]
  · rw [State.port_setPort_ne s p hd]

/-- The stages do not touch the M from before a replacement. -/
theorem noPrior_keptByStages : KeptByStages fun z => z.priorM = .const none where
  minor hz hs := hz.priorM.trans hs
  settings _ hs := hs
  ramp _ _ _ _ hs := hs
  settle _ _ hs := hs
  advance _ _ hs := hs
  corr _ _ hs := hs
  publish _ _ _ _ hs := hs

/-- What the engine names does not depend on a record's count of underruns. -/
theorem State.names_countLine {s : State} {rec : Record} (hc : s.zoom.current = some rec) (underran : Bool) (c : Cam) :
    ({ s with zoom := { s.zoom with current := some (rec.countLine underran) } } : State).names c = s.names c := by
  have hcams : (rec.countLine underran).cams = rec.cams := by
    unfold Record.countLine
    split <;> rfl
  unfold State.names
  dsimp only
  rw [hc]
  cases s.zoom.engine <;> simp [hcams]

theorem State.PriorLaw.withCal {s : State} (h : s.PriorLaw) (c : Cam) (k : Cal) (f : Format)
    (hn : ¬ (s.mode = .run ∧ s.names c = true)) : (s.withCal c k f).PriorLaw := by
  have cals : ∀ d, d ≠ c → ((s.setPort c { s.port c with cal := some k }).port d).cal = (s.port d).cal :=
    fun d hd => by rw [State.port_setPort_ne _ _ hd]
  unfold State.withCal
  dsimp only
  split
  next hm =>
    have hfree : s.names c = false := by simpa [hm] using hn
    have kept : ∀ d, d ≠ c → (s.keepM c).get d = s.zoom.priorM.get d := by
      intro d hd
      unfold State.keepM
      split
      · exact Quad.get_set_ne _ _ hd
      · rfl
    refine ⟨fun hr => absurd hm hr, fun d hd => ?_, fun d hd => ?_⟩
    · by_cases hdc : d = c
      · subst hdc
        show ((s.setPort d _).port d).cal.isSome = true
        rw [State.port_setPort_same]
        rfl
      · exact (congrArg Option.isSome (cals d hdc)).trans (h.cal d (kept d hdc ▸ hd))
    · have hdc : d ≠ c := by
        rintro rfl
        exact absurd (hfree.symm.trans hd) (by simp)
      exact (kept d hdc).trans (h.named d hd)
  next hm => exact .of_none fun d => h.run hm d

theorem prior_keptFinely : KeptFinely State.PriorLaw where
  same hb hs := hs.congr hb.mode (by rw [hb.zoom]) (fun c => by rw [State.port, hb.ports]; rfl)
    fun c => by unfold State.names; rw [hb.zoom]
  ticks hs := hs.congr rfl rfl (fun c => by cases c <;> rfl) fun _ => rfl
  move c _ hp hs := hs.congr rfl rfl (fun d => State.setPort_cal hp.frame.2.2 d) fun _ => rfl
  state {s} c x hs := hs.congr rfl rfl (fun d => State.setPort_cal (p := { s.port c with state := x }) rfl d) fun _ => rfl
  setFormat c f hm _ hs := .of_none fun d => hs.run (by simp [hm]) d
  removeCamera {s} c hm hs := by
    refine .of_none fun d => ?_
    have hz : (s.removeCamera c).zoom = s.zoom := by
      unfold State.removeCamera
      split <;> rfl
    rw [hz]
    exact hs.run (by simp [hm]) d
  withCal c k f hn hs := hs.withCal c k f hn
  reset _ hz _ := .of_none fun d => by rw [hz]; exact Quad.get_const _ d
  booted hm hs := .of_none fun d => hs.run (by simp [hm]) d
  begins hm hs := .of_none fun d => hs.run (by simp [hm]) d
  stops _ _ := .of_none fun d => Quad.get_const _ d
  minor hz hs := hs.congr rfl hz.priorM (fun _ => rfl) fun c => by
    unfold State.names
    dsimp only
    rw [hz.engine, hz.current]
  handoff _ _ hs := hs.congr rfl rfl (fun _ => rfl) fun _ => rfl
  zoomTo _ _ _ _ hs := hs.congr rfl rfl (fun _ => rfl) fun _ => rfl
  zoomCancel hs := hs.congr rfl rfl (fun _ => rfl) fun _ => rfl
  view _ _ _ _ _ _ hs := hs.congr rfl rfl (fun _ => rfl) fun _ => rfl
  compose _ _ := .of_none fun d => by
    rw [noPrior_keptByStages.compose rfl]
    exact Quad.get_const _ d
  countLine rec underran hc hs := hs.congr rfl rfl (fun _ => rfl) (State.names_countLine hc underran)

/-- Settles O59: each of the Zoom Controller's laws, carried along a step. -/
theorem stepKeepsZoomLaws : Obligations.StepKeepsZoomLaws := by
  unfold Obligations.StepKeepsZoomLaws
  exact ⟨fun s t => engine_keptZoom.finely.kept.step, fun s t => ramp_keptZoom.finely.kept.step,
    fun s t => corr_keptZoom.finely.kept.step, fun s t => prior_keptFinely.kept.step⟩

end Sys2Proof.Machine
end

section
/-!
PROOF. The frame ring of one camera (R18, R19, R22, R125): at most one FILLING and one DRAINING slot, writes counted by tag,
the rows of a FILLING slot behind the lines of a DRAINING one, and pins exactly where the current record has them; kept by
every change of a port.
-/

namespace Sys2Proof.Machine

/-! ### Lists -/

/-- At most one element meets a test: any two places with one are the same. -/
theorem countP_le_one_iff {α : Type} {p : α → Bool} {l : List α} :
    l.countP p ≤ 1 ↔ ∀ (i j : Nat) (x y : α), l[i]? = some x → l[j]? = some y → p x = true → p y = true → i = j := by
  induction l with
  | nil => simp
  | cons a t ih =>
    have none_of : t.countP p = 0 → ∀ (i : Nat) x, t[i]? = some x → ¬ p x = true := fun h i x hx =>
      List.countP_eq_zero.mp h x (List.mem_of_getElem? hx)
    constructor
    · intro h i j x y hx hy hpx hpy
      rw [List.countP_cons] at h
      cases i with
      | zero =>
        cases j with
        | zero => rfl
        | succ j =>
          obtain rfl : a = x := by simpa using hx
          rw [if_pos hpx] at h
          exact absurd hpy (none_of (by omega) j y (by simpa using hy))
      | succ i =>
        cases j with
        | zero =>
          obtain rfl : a = y := by simpa using hy
          rw [if_pos hpy] at h
          exact absurd hpx (none_of (by omega) i x (by simpa using hx))
        | succ j =>
          have := (ih.mp (by omega)) i j x y (by simpa using hx) (by simpa using hy) hpx hpy
          omega
    · intro h
      rw [List.countP_cons]
      split
      next ha =>
        have : t.countP p = 0 := List.countP_eq_zero.mpr fun y hy hpy => by
          obtain ⟨j, hj⟩ := List.mem_iff_getElem?.mp hy
          exact absurd (h 0 (j + 1) a y rfl (by simpa using hj) ha hpy) (by omega)
        omega
      next =>
        have := ih.mpr fun i j x y hx hy hpx hpy => by
          have := h (i + 1) (j + 1) x y (by simpa using hx) (by simpa using hy) hpx hpy
          omega
        omega

/-! ### Lines behind (R18) -/

section Behind

variable {j k : Nat} {old seq : Word} {b : List BufferedLine} {l : BufferedLine}

theorem linesBehind_le_length : linesBehind j old k seq b ≤ b.length := by
  unfold linesBehind
  refine Nat.le_trans List.countP_le_length (Nat.le_trans (List.takeWhile_prefix _).length_le ?_)
  rw [List.length_reverse]

/-- A line of another frame joins the buffer behind all others. -/
theorem linesBehind_append (h : l.tagged j old = false) :
    linesBehind j old k seq (b ++ [l]) = linesBehind j old k seq b + if l.tagged k seq then 1 else 0 := by
  unfold linesBehind
  rw [List.reverse_append, List.reverse_singleton, List.singleton_append, List.takeWhile_cons_of_pos (by simp [h]),
    List.countP_cons]

/-- The oldest line leaves: it was not counted, as it is of another frame, or a line of the old frame stands behind it. -/
theorem linesBehind_cons (h : l.tagged k seq = true → l.tagged j old = false → ∃ m ∈ b, m.tagged j old = true) :
    linesBehind j old k seq (l :: b) = linesBehind j old k seq b := by
  unfold linesBehind
  rw [List.reverse_cons, List.takeWhile_append]
  split
  next hall =>
    have hself := (List.takeWhile_prefix _).eq_of_length hall
    have hnone : ∀ m ∈ b, m.tagged j old = false := by
      intro m hm
      simpa using List.takeWhile_eq_self_iff.mp hself m (List.mem_reverse.mpr hm)
    rw [hself, List.countP_append]
    cases hl : l.tagged j old with
    | true => simp [hl]
    | false =>
      cases hk : l.tagged k seq with
      | true =>
        obtain ⟨m, hm, hmj⟩ := h hk hl
        simp [hnone m hm] at hmj
      | false => simp [hl, hk]
  next => rfl

end Behind

/-! ### The ring with the pins a record gives it -/

/-- A frame arrives in the slot or waits for its writes. -/
def Slot.live (x : Slot) : Prop := x.state = .filling ∨ x.state = .draining

/-- The law of one camera's ring, `named` being the slot and role the current record gives it. -/
structure Port.RingOk (p : Port) (named : Option (Nat × Pin)) : Prop where
  filling : p.ring.countP (fun x => x.state == .filling) ≤ 1
  writes : p.DrainLaw
  pinned : ∀ k x, p.ring[k]? = some x → x.pin = pinAt named k
  ready : ∀ k role, named = some (k, role) → ∃ x, p.ring[k]? = some x ∧ x.state = .ready

theorem State.ringLaw_iff {s : State} {c : Cam} : s.RingLaw c ↔ (s.port c).RingOk (s.pinNow c) :=
  ⟨fun h => ⟨h.filling, h.writes, h.pinned, h.ready⟩, fun h => ⟨h.filling, h.writes, h.pinned, h.ready⟩⟩

theorem pinAt_ne_none {named : Option (Nat × Pin)} {k : Nat} (h : pinAt named k ≠ .none) : ∃ role, named = some (k, role) := by
  unfold pinAt at h
  split at h
  · split at h
    next hk =>
      subst hk
      exact ⟨_, rfl⟩
    next => exact absurd rfl h
  · exact absurd rfl h

namespace Port.RingOk

variable {p q : Port} {named : Option (Nat × Pin)}

theorem one_filling (h : p.RingOk named) {i j : Nat} {x y : Slot} (hx : p.ring[i]? = some x) (hy : p.ring[j]? = some y)
    (hsx : x.state = .filling) (hsy : y.state = .filling) : i = j :=
  countP_le_one_iff.mp h.filling i j x y hx hy (by simp [hsx]) (by simp [hsy])

theorem one_draining (h : p.RingOk named) {i j : Nat} {x y : Slot} (hx : p.ring[i]? = some x) (hy : p.ring[j]? = some y)
    (hsx : x.state = .draining) (hsy : y.state = .draining) : i = j :=
  countP_le_one_iff.mp h.writes.draining i j x y hx hy (by simp [hsx]) (by simp [hsy])

/-- A slot with a pin is READY (R125). -/
theorem ready_of_pin (h : p.RingOk named) {k : Nat} {x : Slot} (hx : p.ring[k]? = some x) (hp : x.pin ≠ .none) :
    x.state = .ready := by
  rw [h.pinned k x hx] at hp
  obtain ⟨role, hn⟩ := pinAt_ne_none hp
  obtain ⟨y, hy, hs⟩ := h.ready k role hn
  rw [hx] at hy
  cases hy
  exact hs

/-- A slot in which a frame arrives or drains has no pin. -/
theorem pin_of_live (h : p.RingOk named) {k : Nat} {x : Slot} (hx : p.ring[k]? = some x) (hl : x.live) : x.pin = .none := by
  by_contra hp
  have := h.ready_of_pin hx hp
  rcases hl with hl | hl <;> rw [this] at hl <;> cases hl

end Port.RingOk

/-- What a slot may become without a frame starting or beginning to drain in it: its pin stays, and with a pin it stays READY. -/
structure Slot.Becomes (x y : Slot) : Prop where
  pin : y.pin = x.pin
  filling : y.state = .filling → x.state = .filling
  draining : y.state = .draining → x.state = .draining
  ready : x.state = .ready → x.pin ≠ .none → y.state = .ready

/-- A change of a port in which no frame starts and none begins to drain. -/
theorem Port.RingOk.change {p q : Port} {named : Option (Nat × Pin)} (h : p.RingOk named)
    (hrole : ∀ k role, named = some (k, role) → role ≠ .none) (hformat : q.format = p.format)
    (hsize : q.buffer.length ≤ Config.bufferLines) (hlen : q.ring.length = p.ring.length)
    (hslots : ∀ (k : Nat) (y : Slot), q.ring[k]? = some y → ∃ x, p.ring[k]? = some x ∧ x.Becomes y)
    (hdrains : ∀ (k : Nat) (y : Slot), q.ring[k]? = some y → y.state = .draining → 1 ≤ y.outstanding)
    (hwrites : ∀ (k : Nat) (y : Slot), q.ring[k]? = some y → y.live → y.outstanding ≤ q.buffer.countP fun l => l.tagged k y.seq)
    (hbehind : ∀ (j : Nat) (x : Slot) (k : Nat) (y : Slot), q.ring[j]? = some x → q.ring[k]? = some y → x.state = .draining → y.state = .filling →
      y.dropped = false → y.lines ≤ linesBehind j x.seq k y.seq q.buffer) : q.RingOk named := by
  refine ⟨countP_le_one_iff.mpr fun i j x y hx hy hsx hsy => ?_, ⟨hsize, hformat ▸ h.writes.rows,
    countP_le_one_iff.mpr fun i j x y hx hy hsx hsy => ?_, hdrains, hwrites, hbehind⟩, fun k y hy => ?_, fun k role hn => ?_⟩
  · obtain ⟨x', hx', bx⟩ := hslots i x hx
    obtain ⟨y', hy', by'⟩ := hslots j y hy
    exact h.one_filling hx' hy' (bx.filling (by simpa using hsx)) (by'.filling (by simpa using hsy))
  · obtain ⟨x', hx', bx⟩ := hslots i x hx
    obtain ⟨y', hy', by'⟩ := hslots j y hy
    exact h.one_draining hx' hy' (bx.draining (by simpa using hsx)) (by'.draining (by simpa using hsy))
  · obtain ⟨x, hx, b⟩ := hslots k y hy
    rw [b.pin, h.pinned k x hx]
  · obtain ⟨x, hx, hs⟩ := h.ready k role hn
    have hlt : k < q.ring.length := by
      rw [hlen]
      exact (List.getElem?_eq_some_iff.mp hx).1
    obtain ⟨x', hx', b⟩ := hslots k _ (List.getElem?_eq_getElem hlt)
    rw [hx] at hx'
    cases hx'
    refine ⟨_, List.getElem?_eq_getElem hlt, b.ready hs ?_⟩
    rw [h.pinned k x hx, hn]
    simpa [pinAt] using hrole k role hn

/-- What the laws read of a slot. -/
structure Slot.Alike (x y : Slot) : Prop where
  state : y.state = x.state
  pin : y.pin = x.pin
  seq : y.seq = x.seq
  lines : y.lines = x.lines
  dropped : y.dropped = x.dropped
  outstanding : y.outstanding = x.outstanding

theorem Slot.Alike.refl (x : Slot) : x.Alike x := ⟨rfl, rfl, rfl, rfl, rfl, rfl⟩

theorem Slot.Alike.becomes {x y : Slot} (h : x.Alike y) : x.Becomes y :=
  ⟨h.pin, fun hy => h.state ▸ hy, fun hy => h.state ▸ hy, fun hx _ => h.state.trans hx⟩

/-- A slot that stays as the laws read it, or holds no frame that arrives or drains. -/
def Slot.Fades (x y : Slot) : Prop := x.Alike y ∨ (x.Becomes y ∧ ¬ y.live)

theorem Slot.Fades.becomes {x y : Slot} (h : x.Fades y) : x.Becomes y := h.elim Slot.Alike.becomes And.left

theorem Slot.Fades.alike {x y : Slot} (h : x.Fades y) (hl : y.live) : x.Alike y := h.resolve_right fun hn => hn.2 hl

/-- Slots that stay or fade, over a buffer that keeps the lines of the frames that stay. -/
theorem Port.RingOk.fade {p q : Port} {named : Option (Nat × Pin)} (h : p.RingOk named)
    (hrole : ∀ k role, named = some (k, role) → role ≠ .none) (hformat : q.format = p.format)
    (hsize : q.buffer.length ≤ p.buffer.length) (hlen : q.ring.length = p.ring.length)
    (hslots : ∀ (k : Nat) (y : Slot), q.ring[k]? = some y → ∃ x, p.ring[k]? = some x ∧ x.Fades y)
    (hcount : ∀ (k : Nat) (y : Slot), q.ring[k]? = some y → y.live →
      (p.buffer.countP fun l => l.tagged k y.seq) ≤ q.buffer.countP fun l => l.tagged k y.seq)
    (hbehind : ∀ (j : Nat) (x : Slot) (k : Nat) (y : Slot), q.ring[j]? = some x → q.ring[k]? = some y → x.state = .draining → y.state = .filling →
      linesBehind j x.seq k y.seq p.buffer ≤ linesBehind j x.seq k y.seq q.buffer) : q.RingOk named := by
  refine h.change hrole hformat (Nat.le_trans hsize h.writes.size) hlen
    (fun k y hy => ?_) (fun k y hy hs => ?_) (fun k y hy hl => ?_) fun j x k y hx hy hsx hsy hd => ?_
  · obtain ⟨x, hx, hf⟩ := hslots k y hy
    exact ⟨x, hx, hf.becomes⟩
  · obtain ⟨x, hx, hf⟩ := hslots k y hy
    have ha := hf.alike (.inr hs)
    rw [ha.outstanding]
    exact h.writes.drains k x hx (ha.state ▸ hs)
  · obtain ⟨x, hx, hf⟩ := hslots k y hy
    have ha := hf.alike hl
    have hw := h.writes.writes k x hx (by unfold Slot.live at hl; rwa [ha.state] at hl)
    rw [← ha.seq, ← ha.outstanding] at hw
    exact Nat.le_trans hw (hcount k y hy hl)
  · obtain ⟨x', hx', hfx⟩ := hslots j x hx
    obtain ⟨y', hy', hfy⟩ := hslots k y hy
    have hax := hfx.alike (.inr hsx)
    have hay := hfy.alike (.inl hsy)
    have hb := h.writes.behind j x' k y' hx' hy' (hax.state ▸ hsx) (hay.state ▸ hsy) (hay.dropped ▸ hd)
    rw [← hay.lines, ← hax.seq, ← hay.seq] at hb
    exact Nat.le_trans hb (hbehind j x k y hx hy hsx hsy)

/-- Slots that stay or fade, over the same buffer. -/
theorem Port.RingOk.fadeSame {p q : Port} {named : Option (Nat × Pin)} (h : p.RingOk named)
    (hrole : ∀ k role, named = some (k, role) → role ≠ .none) (hformat : q.format = p.format) (hbuffer : q.buffer = p.buffer)
    (hlen : q.ring.length = p.ring.length)
    (hslots : ∀ (k : Nat) (y : Slot), q.ring[k]? = some y → ∃ x, p.ring[k]? = some x ∧ x.Fades y) : q.RingOk named :=
  h.fade hrole hformat (by rw [hbuffer]) hlen hslots (fun _ _ _ _ => by rw [hbuffer]) fun _ _ _ _ _ _ _ _ => by rw [hbuffer]

/-- Slots of a ring of which one was changed. -/
theorem Port.modSlot_get {p : Port} {k j : Nat} {f : Slot → Slot} {y : Slot} (h : (p.modSlot k f).ring[j]? = some y) :
    ∃ x, p.ring[j]? = some x ∧ y = if k = j then f x else x := by
  rw [Port.modSlot_ring_get] at h
  split at h
  next hk =>
    obtain ⟨x, hx, rfl⟩ := Option.map_eq_some_iff.mp h
    exact ⟨x, hx, (if_pos hk).symm⟩
  next hk => exact ⟨y, h, (if_neg hk).symm⟩

/-- The slot changed and the others. -/
theorem Port.modSlot_slots {p : Port} {k j : Nat} {f : Slot → Slot} {x y : Slot} (hx : p.ring[k]? = some x)
    (h : (p.modSlot k f).ring[j]? = some y) : (k ≠ j ∧ p.ring[j]? = some y) ∨ (k = j ∧ y = f x) := by
  obtain ⟨z, hz, rfl⟩ := Port.modSlot_get h
  split
  next hkj =>
    subst hkj
    rw [hx] at hz
    cases hz
    exact .inr ⟨rfl, rfl⟩
  next hkj => exact .inl ⟨hkj, hz⟩

/-- The slot at place `k` replaced. -/
theorem Port.modSlot_of_get {p : Port} {k : Nat} {x : Slot} (hx : p.ring[k]? = some x) (f : Slot → Slot) :
    p.modSlot k f = { p with ring := p.ring.set k (f x) } := by
  have hset : p.ring.modify k f = p.ring.set k (f x) := by
    have : Inhabited Slot := ⟨x⟩
    rw [List.modify_eq_set, hx, Option.getD_some]
  rw [Port.modSlot, hset]

theorem Port.modSlot_length (p : Port) (k : Nat) (f : Slot → Slot) : (p.modSlot k f).ring.length = p.ring.length :=
  List.length_modify _ _ _

/-- One slot that stays as the laws read it, or fades. -/
theorem Port.RingOk.modSlot {p : Port} {named : Option (Nat × Pin)} (h : p.RingOk named)
    (hrole : ∀ k role, named = some (k, role) → role ≠ .none) (k : Nat) {f : Slot → Slot}
    (hf : ∀ x, p.ring[k]? = some x → x.Fades (f x)) : (p.modSlot k f).RingOk named := by
  refine h.fadeSame hrole rfl rfl (p.modSlot_length k f) fun j y hy => ?_
  obtain ⟨x, hx, rfl⟩ := Port.modSlot_get hy
  refine ⟨x, hx, ?_⟩
  split
  next hk => exact hf x (hk ▸ hx)
  next => exact .inl (.refl x)

/-- A port with the same format part, ring and buffer. -/
theorem Port.RingOk.congr {p q : Port} {named : Option (Nat × Pin)} (h : p.RingOk named) (hformat : q.format = p.format)
    (hring : q.ring = p.ring) (hbuffer : q.buffer = p.buffer) : q.RingOk named := by
  obtain ⟨hf, ⟨hsize, hrows, hone, hdrains, hwrites, hbehind⟩, hpin, hready⟩ := h
  exact ⟨hring ▸ hf, ⟨hbuffer ▸ hsize, hformat ▸ hrows, hring ▸ hone, hring ▸ hdrains, hring ▸ hbuffer ▸ hwrites,
    hring ▸ hbuffer ▸ hbehind⟩, hring ▸ hpin, hring ▸ hready⟩

/-! ### A row taken (R17, R18) -/

section Rows

variable {p : Port} {f : Format} {k : Nat} {x : Slot} {luma u v : List Byte}

/-- A line beyond the active height marks the frame as long. -/
theorem Port.takeLine_excess (hx : p.ring[k]? = some x) (hl : f.hs ≤ x.lines) :
    p.takeLine f k luma u v = p.modSlot k fun t => { t with long := true } := by
  simp only [Port.takeLine, hx, hl, ↓reduceIte]

/-- A row taken while a place of the line buffer is left. -/
theorem Port.takeLine_held (hx : p.ring[k]? = some x) (hl : x.lines < f.hs) (hb : p.buffer.length < 4) :
    p.takeLine f k luma u v = { p.modSlot k fun t => { t with
        lines := x.lines + 1, narrow := x.narrow || rowIsNarrow f.ws x.lines luma u v, outstanding := t.outstanding + 1 } with
      sums := p.sums.add p.region x.lines (normaliseRow f.ws x.lines luma u v)
      buffer := p.buffer ++ [⟨k, x.lines, x.seq, x.seed, normaliseRow f.ws x.lines luma u v⟩] } := by
  have hget : (p.ring.modify k fun t => { t with
      lines := x.lines + 1, narrow := x.narrow || rowIsNarrow f.ws x.lines luma u v })[k]? = some { x with
        lines := x.lines + 1, narrow := x.narrow || rowIsNarrow f.ws x.lines luma u v } := by
    simp [hx]
  simp only [Port.takeLine, hx, Nat.not_le.mpr hl, ↓reduceIte, Port.offer, Port.modSlot, hget, Config.bufferLines, hb,
    List.modify_modify_eq]
  rfl

/-- A row dropped while the line buffer is full. -/
theorem Port.takeLine_full (hx : p.ring[k]? = some x) (hl : x.lines < f.hs) (hb : 4 ≤ p.buffer.length) :
    p.takeLine f k luma u v = { p.modSlot k fun t => { t with
        lines := x.lines + 1, narrow := x.narrow || rowIsNarrow f.ws x.lines luma u v, dropped := true } with
      sums := p.sums.add p.region x.lines (normaliseRow f.ws x.lines luma u v) } := by
  have hget : (p.ring.modify k fun t => { t with
      lines := x.lines + 1, narrow := x.narrow || rowIsNarrow f.ws x.lines luma u v })[k]? = some { x with
        lines := x.lines + 1, narrow := x.narrow || rowIsNarrow f.ws x.lines luma u v } := by
    simp [hx]
  simp only [Port.takeLine, hx, Nat.not_le.mpr hl, ↓reduceIte, Port.offer, Port.modSlot, hget, Config.bufferLines,
    Nat.not_lt.mpr hb, List.modify_modify_eq]
  rfl

end Rows

/-! ### Lines withdrawn (R19) -/

/-- A withdrawal keeps the lines it is to keep. -/
theorem Port.withdraw_countP {p : Port} {keep test : BufferedLine → Bool} (h : ∀ l, test l = true → keep l = true) :
    (p.withdraw keep).buffer.countP test = p.buffer.countP test := by
  have filtered : ∀ b : List BufferedLine, (b.filter keep).countP test = b.countP test := by
    intro b
    rw [List.countP_filter]
    refine List.countP_congr fun l _ => ?_
    simp only [Bool.and_eq_true]
    exact ⟨And.left, fun ht => ⟨ht, h l ht⟩⟩
  rw [Port.withdraw_eq]
  dsimp only
  split
  · rw [List.countP_append, filtered, ← List.countP_append, List.take_append_drop]
  · exact filtered _

theorem BufferedLine.tagged_iff {k : Nat} {seq : Word} {l : BufferedLine} : l.tagged k seq = true ↔ l.slot = k ∧ l.seq = seq := by
  simp [BufferedLine.tagged]

/-- A line carries the tag of one slot only. -/
theorem BufferedLine.tagged_ne {j k : Nat} {old seq : Word} {l : BufferedLine} (hjk : j ≠ k) (h : l.tagged k seq = true) :
    l.tagged j old = false := by
  rw [Bool.eq_false_iff]
  exact fun hj => hjk ((BufferedLine.tagged_iff.mp hj).1.symm.trans (BufferedLine.tagged_iff.mp h).1)

/-- A slot without a pin becomes FREE. -/
theorem Slot.freed_fades {x : Slot} (hp : x.pin = .none) : x.Fades x.freed :=
  .inr ⟨⟨hp.symm, nofun, nofun, fun _ hn => absurd hp hn⟩, by rintro (h | h) <;> cases h⟩

/-- The chosen slot has no pin (R16). -/
theorem Port.RingOk.chooseSlot {p : Port} {named : Option (Nat × Pin)} (h : p.RingOk named) {k : Nat} (hk : p.chooseSlot = some k) :
    ∃ x, p.ring[k]? = some x ∧ x.pin = .none := by
  unfold Port.chooseSlot at hk
  split at hk
  next j hj =>
    cases hk
    obtain ⟨x, hx, hs⟩ := Port.slotIn_get hj
    refine ⟨x, hx, ?_⟩
    by_contra hp
    rw [h.ready_of_pin hx hp] at hs
    cases hs
  next =>
    obtain ⟨⟨x, j⟩, ho, rfl⟩ := Option.map_eq_some_iff.mp hk
    have hmem : ∀ (l : List (Slot × Nat)) y, oldestOf l = some y → y ∈ l := by
      intro l
      induction l with
      | nil => simp [oldestOf]
      | cons a t ih =>
        intro y hy
        unfold oldestOf at hy
        split at hy
        · cases hy
          simp
        · rename_i z hz
          split at hy <;> cases hy
          · simp
          · exact List.mem_cons_of_mem _ (ih _ hz)
    obtain ⟨hin, hidle⟩ := List.mem_filter.mp (hmem _ _ ho)
    have hx := List.mem_zipIdx_iff_getElem?.mp hin
    simp only [Slot.idleReady, Bool.and_eq_true, beq_iff_eq] at hidle
    exact ⟨x, hx, hidle.2⟩

section Moves

variable {p : Port} {named : Option (Nat × Pin)} (h : p.RingOk named)
  (hrole : ∀ k role, named = some (k, role) → role ≠ Pin.none)

include h hrole

/-! ### A frame discarded (R15, R20) -/

theorem Port.RingOk.discardSlot {k : Nat} (hk : p.slotIn .filling = some k) :
    (p.discardSlot k).RingOk named ∧ ∀ (j : Nat) (y : Slot), (p.discardSlot k).ring[j]? = some y → y.state ≠ .filling := by
  obtain ⟨x, hx, hs⟩ := Port.slotIn_get hk
  have hdiscard : p.discardSlot k = (p.modSlot k Slot.freed).withdrawFrame k x.seq := by simp only [Port.discardSlot, hx]
  have hring : (p.discardSlot k).ring = (p.modSlot k Slot.freed).ring := by
    rw [hdiscard, Port.withdrawFrame, Port.withdraw_eq]
  have hslots : ∀ (j : Nat) (y : Slot), (p.discardSlot k).ring[j]? = some y →
      (k ≠ j ∧ p.ring[j]? = some y) ∨ (k = j ∧ y = x.freed) := by
    intro j y hy
    rw [hring] at hy
    exact Port.modSlot_slots hx hy
  have hnone : ∀ (j : Nat) (y : Slot), (p.discardSlot k).ring[j]? = some y → y.state ≠ .filling := by
    intro j y hy hfill
    rcases hslots j y hy with ⟨hkj, hy'⟩ | ⟨-, rfl⟩
    · exact hkj (h.one_filling hx hy' hs hfill)
    · cases hfill
  refine ⟨h.fade hrole ?_ (p.discardSlot_length k) ?_ (fun j y hy => ?_) (fun j y hy hl => ?_)
    fun j x k y _ hy _ hsy => absurd hsy (hnone k y hy), hnone⟩
  · rw [hdiscard, Port.withdrawFrame, Port.withdraw_eq]
    rfl
  · rw [hring, Port.modSlot_length]
  · rcases hslots j y hy with ⟨-, hy'⟩ | ⟨rfl, rfl⟩
    · exact ⟨y, hy', .inl (.refl y)⟩
    · exact ⟨x, hx, Slot.freed_fades (h.pin_of_live hx (.inl hs))⟩
  · rcases hslots j y hy with ⟨hkj, -⟩ | ⟨-, rfl⟩
    · rw [hdiscard, Port.withdrawFrame, Port.withdraw_countP]
      · rfl
      · intro l ht
        have hother : l.slot ≠ k := fun hl => hkj (hl.symm.trans (BufferedLine.tagged_iff.mp ht).1)
        simp [hother]
    · rcases hl with hl | hl <;> cases hl

theorem Port.RingOk.truncate :
    p.truncate.RingOk named ∧ ∀ (j : Nat) (y : Slot), p.truncate.ring[j]? = some y → y.state ≠ .filling := by
  unfold Port.truncate
  split
  next k hk =>
    obtain ⟨hok, hnone⟩ := h.discardSlot hrole hk
    exact ⟨hok.congr rfl rfl rfl, hnone⟩
  next hk =>
    refine ⟨h, fun j y hy hs => ?_⟩
    have := List.findIdx?_eq_none_iff.mp hk y (List.mem_of_getElem? hy)
    simp [hs] at this

/-! ### A frame starts (R16) -/

/-- A slot without a frame and without a pin is filled, where none is FILLING. -/
theorem Port.RingOk.fill (hnone : ∀ (j : Nat) (y : Slot), p.ring[j]? = some y → y.state ≠ .filling) {k : Nat} {x : Slot}
    (hx : p.ring[k]? = some x) (hp : x.pin = .none) (seq now : Word) :
    (p.modSlot k fun y => y.fill seq now).RingOk named := by
  have hslots : ∀ (j : Nat) (y : Slot), (p.modSlot k fun y => y.fill seq now).ring[j]? = some y →
      (k ≠ j ∧ p.ring[j]? = some y) ∨ (k = j ∧ y = x.fill seq now) := fun j y hy => Port.modSlot_slots hx hy
  refine ⟨countP_le_one_iff.mpr fun i j y z hy hz hsy hsz => ?_, ⟨h.writes.size, h.writes.rows,
    countP_le_one_iff.mpr fun i j y z hy hz hsy hsz => ?_, fun j y hy hd => ?_, fun j y hy hl => ?_,
    fun i y j z hy hz hsy hsz _ => ?_⟩, fun j y hy => ?_, fun j role hn => ?_⟩
  · rcases hslots i y hy with ⟨-, hy'⟩ | ⟨rfl, -⟩
    · exact absurd (by simpa using hsy) (hnone i y hy')
    · rcases hslots j z hz with ⟨-, hz'⟩ | ⟨rfl, -⟩
      · exact absurd (by simpa using hsz) (hnone j z hz')
      · rfl
  · rcases hslots i y hy with ⟨-, hy'⟩ | ⟨-, rfl⟩
    · rcases hslots j z hz with ⟨-, hz'⟩ | ⟨-, rfl⟩
      · exact h.one_draining hy' hz' (by simpa using hsy) (by simpa using hsz)
      · simp [Slot.fill] at hsz
    · simp [Slot.fill] at hsy
  · rcases hslots j y hy with ⟨-, hy'⟩ | ⟨-, rfl⟩
    · exact h.writes.drains j y hy' hd
    · cases hd
  · rcases hslots j y hy with ⟨-, hy'⟩ | ⟨-, rfl⟩
    · exact h.writes.writes j y hy' hl
    · exact Nat.zero_le _
  · rcases hslots j z hz with ⟨-, hz'⟩ | ⟨-, rfl⟩
    · exact absurd hsz (hnone j z hz')
    · exact Nat.zero_le _
  · rcases hslots j y hy with ⟨-, hy'⟩ | ⟨rfl, rfl⟩
    · exact h.pinned j y hy'
    · exact hp.symm.trans (h.pinned k x hx)
  · obtain ⟨y, hy, hr⟩ := h.ready j role hn
    have hkj : k ≠ j := by
      rintro rfl
      rw [hx] at hy
      cases hy
      have := h.pinned k x hx
      rw [hp, hn] at this
      exact hrole k role hn (by simpa [pinAt] using this.symm)
    refine ⟨y, ?_, hr⟩
    rw [Port.modSlot_ring_get, if_neg hkj]
    exact hy

theorem Port.RingOk.beginFrame (now : Word) (region : Option Region) : (p.beginFrame now region).RingOk named := by
  obtain ⟨hok, hnone⟩ := h.truncate hrole
  unfold Port.beginFrame
  dsimp only
  split
  next k hk =>
    obtain ⟨x, hx, hp⟩ := hok.chooseSlot hk
    exact Port.RingOk.fill (p := { p.truncate with seq := _, sums := .zero, region := region })
      (hok.congr rfl rfl rfl) hrole hnone hx hp _ now
  next => exact hok.congr rfl rfl rfl

/-! ### A row arrives (R17, R18) -/

theorem Port.RingOk.takeLine (f : Format) {k : Nat} (hk : p.slotIn .filling = some k) (luma u v : List Byte) :
    (p.takeLine f k luma u v).RingOk named := by
  obtain ⟨x, hx, hs⟩ := Port.slotIn_get hk
  rcases Nat.lt_or_ge x.lines f.hs with hl | hl
  · rcases Nat.lt_or_ge p.buffer.length 4 with hb | hb
    · rw [Port.takeLine_held hx hl hb]
      have other : ∀ {j : Nat} {seq : Word}, k ≠ j → BufferedLine.tagged j seq
          ⟨k, x.lines, x.seq, x.seed, normaliseRow f.ws x.lines luma u v⟩ = false := by
        intro j seq hkj
        simp [BufferedLine.tagged, hkj]
      have own : BufferedLine.tagged k x.seq ⟨k, x.lines, x.seq, x.seed, normaliseRow f.ws x.lines luma u v⟩ = true :=
        BufferedLine.tagged_iff.mpr ⟨rfl, rfl⟩
      refine h.change hrole rfl ?_ (p.modSlot_length k _) (fun j y hy => ?_) (fun j y hy hd => ?_) (fun j y hy hlive => ?_)
        fun i z j y hz hy hsz hsy hd => ?_
      · simp only [List.length_append, List.length_singleton, Config.bufferLines]
        omega
      · rcases Port.modSlot_slots hx hy with ⟨-, hy⟩ | ⟨rfl, rfl⟩
        · exact ⟨y, hy, (Slot.Alike.refl y).becomes⟩
        · exact ⟨x, hx, ⟨rfl, id, id, fun hr _ => hr⟩⟩
      · rcases Port.modSlot_slots hx hy with ⟨-, hy⟩ | ⟨-, rfl⟩
        · exact h.writes.drains j y hy hd
        · exact Nat.succ_pos _
      · rw [List.countP_append, List.countP_singleton]
        rcases Port.modSlot_slots hx hy with ⟨-, hy⟩ | ⟨rfl, rfl⟩
        · exact Nat.le_trans (h.writes.writes j y hy hlive) (Nat.le_add_right _ _)
        · have hw := h.writes.writes k x hx hlive
          simp only [own, ↓reduceIte]
          exact Nat.succ_le_succ hw
      · rcases Port.modSlot_slots hx hz with ⟨hkz, hz⟩ | ⟨-, rfl⟩
        · rw [linesBehind_append (other hkz)]
          rcases Port.modSlot_slots hx hy with ⟨-, hy⟩ | ⟨rfl, rfl⟩
          · exact Nat.le_trans (h.writes.behind i z j y hz hy hsz hsy hd) (Nat.le_add_right _ _)
          · simp only [own, ↓reduceIte]
            exact Nat.succ_le_succ (h.writes.behind i z k x hz hx hsz hs hd)
        · rw [show x.state = .draining from hsz] at hs
          cases hs
    · rw [Port.takeLine_full hx hl hb]
      refine h.change hrole rfl h.writes.size (p.modSlot_length k _) (fun j y hy => ?_) (fun j y hy hd => ?_)
        (fun j y hy hlive => ?_) fun i z j y hz hy hsz hsy hd => ?_
      · rcases Port.modSlot_slots hx hy with ⟨-, hy⟩ | ⟨rfl, rfl⟩
        · exact ⟨y, hy, (Slot.Alike.refl y).becomes⟩
        · exact ⟨x, hx, ⟨rfl, id, id, fun hr _ => hr⟩⟩
      · rcases Port.modSlot_slots hx hy with ⟨-, hy⟩ | ⟨rfl, rfl⟩
        · exact h.writes.drains j y hy hd
        · exact h.writes.drains k x hx hd
      · rcases Port.modSlot_slots hx hy with ⟨-, hy⟩ | ⟨rfl, rfl⟩
        · exact h.writes.writes j y hy hlive
        · exact h.writes.writes k x hx hlive
      · rcases Port.modSlot_slots hx hy with ⟨-, hy⟩ | ⟨-, rfl⟩
        · rcases Port.modSlot_slots hx hz with ⟨-, hz⟩ | ⟨-, rfl⟩
          · exact h.writes.behind i z j y hz hy hsz hsy hd
          · rw [show x.state = .draining from hsz] at hs
            cases hs
        · cases hd
  · rw [Port.takeLine_excess hx hl]
    exact h.modSlot hrole k fun _ _ => .inl ⟨rfl, rfl, rfl, rfl, rfl, rfl⟩

/-! ### A frame begins to drain (R20) -/

omit hrole in
/-- A whole frame begins to drain where none drains: its rows have passed the buffer behind any that drained before. -/
theorem Port.RingOk.drain {f : Format} (hf : p.format = some f) {k : Nat} {x : Slot} (hx : p.ring[k]? = some x)
    (hs : x.state = .filling) (hd : x.dropped = false) (hl : f.hs ≤ x.lines) (ho : x.outstanding ≠ 0) :
    (p.modSlot k fun t => { t with state := .draining }).RingOk named := by
  have hnone : ∀ (j : Nat) (y : Slot), p.ring[j]? = some y → y.state ≠ .draining := by
    intro j y hy hdrain
    have hbehind := h.writes.behind j y k x hy hx hdrain hs hd
    have hlen := linesBehind_le_length (j := j) (old := y.seq) (k := k) (seq := x.seq) (b := p.buffer)
    have hsize := h.writes.size
    have hrows := h.writes.rows f hf
    simp only [Config.bufferLines] at hsize
    omega
  have hpin := h.pin_of_live hx (.inl hs)
  have slots : ∀ {j : Nat} {y : Slot}, (p.modSlot k fun t => { t with state := .draining }).ring[j]? = some y →
      (k ≠ j ∧ p.ring[j]? = some y) ∨ (k = j ∧ y = { x with state := .draining }) := fun hy => Port.modSlot_slots hx hy
  refine ⟨countP_le_one_iff.mpr fun i j y z hy hz hsy hsz => ?_, ⟨h.writes.size, h.writes.rows,
    countP_le_one_iff.mpr fun i j y z hy hz hsy hsz => ?_, fun j y hy hd => ?_, fun j y hy hlive => ?_,
    fun i y j z hy hz hsy hsz _ => ?_⟩, fun j y hy => ?_, fun j role hn => ?_⟩
  · rcases slots hy with ⟨-, hy⟩ | ⟨-, rfl⟩
    · rcases slots hz with ⟨-, hz⟩ | ⟨-, rfl⟩
      · exact h.one_filling hy hz (by simpa using hsy) (by simpa using hsz)
      · simp at hsz
    · simp at hsy
  · rcases slots hy with ⟨-, hy⟩ | ⟨rfl, -⟩
    · exact absurd (by simpa using hsy) (hnone i y hy)
    · rcases slots hz with ⟨-, hz⟩ | ⟨rfl, -⟩
      · exact absurd (by simpa using hsz) (hnone j z hz)
      · rfl
  · rcases slots hy with ⟨-, hy⟩ | ⟨-, rfl⟩
    · exact absurd hd (hnone j y hy)
    · exact Nat.one_le_iff_ne_zero.mpr ho
  · rcases slots hy with ⟨-, hy⟩ | ⟨rfl, rfl⟩
    · exact h.writes.writes j y hy hlive
    · exact h.writes.writes k x hx (.inl hs)
  · rcases slots hz with ⟨hkj, hz⟩ | ⟨-, rfl⟩
    · exact absurd (h.one_filling hx hz hs hsz) hkj
    · cases hsz
  · rcases slots hy with ⟨-, hy⟩ | ⟨rfl, rfl⟩
    · exact h.pinned j y hy
    · exact h.pinned k x hx
  · obtain ⟨y, hy, hr⟩ := h.ready j role hn
    have hkj : k ≠ j := by
      rintro rfl
      rw [hx] at hy
      cases hy
      rw [hs] at hr
      cases hr
    exact ⟨y, by rw [Port.modSlot_ring_get, if_neg hkj]; exact hy, hr⟩

/-! ### A write completed (R19) -/

section Landed

variable {l : BufferedLine} {rest : List BufferedLine} (hb : p.buffer = l :: rest)

omit h hrole in
include hb in
theorem Port.countP_rest {k : Nat} {seq : Word} (hl : l.tagged k seq = false) :
    (p.buffer.countP fun m => m.tagged k seq) = rest.countP fun m => m.tagged k seq := by
  rw [hb, List.countP_cons_of_neg (by simp [hl])]

omit h hrole in
/-- Storing a row changes nothing the laws read. -/
theorem Port.storeLine_get {k : Nat} {y : Slot} (hy : (p.storeLine l).ring[k]? = some y) :
    ∃ x, p.ring[k]? = some x ∧ x.Alike y := by
  obtain ⟨x, hx, rfl⟩ := Port.modSlot_get hy
  refine ⟨x, hx, ?_⟩
  split
  · split
    · exact ⟨rfl, rfl, rfl, rfl, rfl, rfl⟩
    · exact .refl x
  · exact .refl x

omit hrole in
include hb in
/-- The oldest line is none that stands behind the lines of a DRAINING slot. -/
theorem Port.RingOk.behind_rest {j k : Nat} {x : Slot} {seq : Word} (hx : p.ring[j]? = some x) (hs : x.state = .draining) :
    linesBehind j x.seq k seq p.buffer = linesBehind j x.seq k seq rest := by
  rw [hb]
  refine linesBehind_cons fun _ hlj => ?_
  have hone := h.writes.drains j x hx hs
  have hcount := h.writes.writes j x hx (.inr hs)
  rw [Port.countP_rest hb hlj] at hcount
  obtain ⟨m, hm, ht⟩ := List.countP_pos_iff.mp (Nat.lt_of_lt_of_le hone hcount)
  exact ⟨m, hm, ht⟩

include hb

/-- The write of a line that counts toward no slot. -/
theorem Port.RingOk.landedStray (hstray : ∀ x, p.ring[l.slot]? = some x → x.counts l = false) :
    ({ p with buffer := rest, inFlight := false }.storeLine l).RingOk named := by
  refine h.fade hrole rfl (by simp [Port.storeLine, Port.modSlot, hb]) (Port.modSlot_length _ _ _) (fun k y hy => ?_)
    (fun k y hy hlive => ?_) fun j y k z hy hz hsy _ => ?_
  · obtain ⟨x, hx, ha⟩ := Port.storeLine_get hy
    exact ⟨x, hx, .inl ha⟩
  · obtain ⟨x, hx, ha⟩ := Port.storeLine_get hy
    refine (Port.countP_rest hb ?_).le
    by_contra ht
    obtain ⟨rfl, hseq⟩ := BufferedLine.tagged_iff.mp (by simpa using ht)
    have hno := hstray x hx
    rw [Slot.live, ha.state] at hlive
    rcases hlive with hs | hs <;> simp [Slot.counts, hs, hseq, ha.seq] at hno
  · obtain ⟨x, hx, ha⟩ := Port.storeLine_get hy
    rw [ha.seq]
    exact (h.behind_rest hb hx (ha.state ▸ hsy)).le

section Counting

variable {x : Slot} (hx : p.ring[l.slot]? = some x) (hc : x.counts l = true)

omit h hrole hb in
include hx in
/-- The slots after a write that counted: its own with the counted change, the others alike. -/
theorem Port.storeLine_slots {g : Slot → Slot} {k : Nat} {y : Slot}
    (hy : (({ p with buffer := rest, inFlight := false }.storeLine l).modSlot l.slot g).ring[k]? = some y) :
    (l.slot ≠ k ∧ ∃ z, p.ring[k]? = some z ∧ z.Alike y) ∨ (l.slot = k ∧ ∃ z, x.Alike z ∧ y = g z) := by
  obtain ⟨z, hz, rfl⟩ := Port.modSlot_get hy
  obtain ⟨w, hw, ha⟩ := Port.storeLine_get hz
  split
  next hk =>
    subst hk
    obtain rfl : x = w := Option.some.inj (hx.symm.trans hw)
    exact .inr ⟨rfl, z, ha, rfl⟩
  next hk => exact .inl ⟨hk, w, hw, ha⟩

omit h hrole hb in
include hc in
theorem Slot.counts_live : x.live := by
  simp only [Slot.counts, Bool.and_eq_true, Bool.or_eq_true, beq_iff_eq] at hc
  exact hc.1

include hx hc

/-- The write of a line of slot `x`, not the last one of a DRAINING slot. -/
theorem Port.RingOk.landed (hmore : ¬ (x.state = .draining ∧ x.outstanding ≤ 1)) :
    (({ p with buffer := rest, inFlight := false }.storeLine l).modSlot l.slot fun y =>
      { y with outstanding := x.outstanding - 1 }).RingOk named := by
  refine h.change hrole rfl ?_ ?_ (fun k y hy => ?_) (fun k y hy hd => ?_) (fun k y hy hlive => ?_)
    fun j y k z hy hz hsy hsz hdz => ?_
  · have hsize := h.writes.size
    rw [hb] at hsize
    exact Nat.le_trans (Nat.le_succ _) hsize
  · rw [Port.modSlot_length, Port.storeLine, Port.modSlot_length]
  · rcases Port.storeLine_slots hx hy with ⟨-, z, hz, ha⟩ | ⟨rfl, z, ha, rfl⟩
    · exact ⟨z, hz, ha.becomes⟩
    · exact ⟨x, hx, ⟨ha.pin, fun hz => ha.state.symm.trans hz, fun hz => ha.state.symm.trans hz, fun hr _ => ha.state.trans hr⟩⟩
  · rcases Port.storeLine_slots hx hy with ⟨-, z, hz, ha⟩ | ⟨rfl, z, ha, rfl⟩
    · rw [ha.outstanding]
      exact h.writes.drains k z hz (ha.state.symm.trans hd)
    · have : ¬ x.outstanding ≤ 1 := fun hle => hmore ⟨ha.state.symm.trans hd, hle⟩
      dsimp only
      omega
  · rcases Port.storeLine_slots hx hy with ⟨hk, z, hz, ha⟩ | ⟨rfl, z, ha, rfl⟩
    · have hw := h.writes.writes k z hz (by unfold Slot.live at hlive; rwa [ha.state] at hlive)
      rw [Port.countP_rest hb (BufferedLine.tagged_ne (Ne.symm hk) (BufferedLine.tagged_iff.mpr ⟨rfl, rfl⟩))] at hw
      rw [ha.outstanding, ha.seq]
      exact hw
    · have hw := h.writes.writes l.slot x hx (Slot.counts_live hc)
      have hseq : l.seq = x.seq := by
        simp only [Slot.counts, Bool.and_eq_true, beq_iff_eq] at hc
        exact hc.2.symm
      have own : l.tagged l.slot x.seq = true := BufferedLine.tagged_iff.mpr ⟨rfl, hseq⟩
      rw [hb, List.countP_cons_of_pos own] at hw
      have hz : z.seq = x.seq := ha.seq
      show x.outstanding - 1 ≤ rest.countP fun m => m.tagged l.slot z.seq
      rw [hz]
      exact Nat.sub_le_of_le_add hw
  · obtain ⟨y', hy', hay, hsy'⟩ : ∃ y', p.ring[j]? = some y' ∧ y.seq = y'.seq ∧ y'.state = .draining := by
      rcases Port.storeLine_slots hx hy with ⟨-, y', hy', ha⟩ | ⟨rfl, w, ha, rfl⟩
      · exact ⟨y', hy', ha.seq, ha.state.symm.trans hsy⟩
      · exact ⟨x, hx, ha.seq, ha.state.symm.trans hsy⟩
    obtain ⟨z', hz', hzseq, hsz', hdz', hlz⟩ : ∃ z', p.ring[k]? = some z' ∧ z.seq = z'.seq ∧ z'.state = .filling
        ∧ z'.dropped = false ∧ z.lines = z'.lines := by
      rcases Port.storeLine_slots hx hz with ⟨-, z', hz', ha⟩ | ⟨rfl, w, ha, rfl⟩
      · exact ⟨z', hz', ha.seq, ha.state.symm.trans hsz, ha.dropped.symm.trans hdz, ha.lines⟩
      · exact ⟨x, hx, ha.seq, ha.state.symm.trans hsz, ha.dropped.symm.trans hdz, ha.lines⟩
    rw [hlz, hay, hzseq]
    exact Nat.le_trans (h.writes.behind j y' k z' hy' hz' hsy' hsz' hdz') (h.behind_rest hb hy' hsy').le

omit hc in
/-- The last write of a DRAINING slot makes it READY. -/
theorem Port.RingOk.landedLast (hlast : x.state = .draining ∧ x.outstanding ≤ 1) :
    ((({ p with buffer := rest, inFlight := false }.storeLine l).modSlot l.slot fun y =>
      { y with outstanding := x.outstanding - 1 }).modSlot l.slot fun y => { y with state := .ready }).RingOk named := by
  have hpin := h.pin_of_live hx (.inr hlast.1)
  have slots : ∀ {k : Nat} {y : Slot}, ((({ p with buffer := rest, inFlight := false }.storeLine l).modSlot l.slot fun y =>
      { y with outstanding := x.outstanding - 1 }).modSlot l.slot fun y => { y with state := .ready }).ring[k]? = some y →
      (l.slot ≠ k ∧ ∃ z, p.ring[k]? = some z ∧ z.Alike y) ∨ (l.slot = k ∧ y.pin = .none ∧ y.state = .ready) := by
    intro k y hy
    obtain ⟨z, hz, rfl⟩ := Port.modSlot_get hy
    rcases Port.storeLine_slots hx hz with ⟨hk, w, hw, ha⟩ | ⟨rfl, w, ha, rfl⟩
    · rw [if_neg hk]
      exact .inl ⟨hk, w, hw, ha⟩
    · rw [if_pos rfl]
      exact .inr ⟨rfl, ha.pin.trans hpin, rfl⟩
  refine h.fade hrole rfl ?_ ?_ (fun k y hy => ?_) (fun k y hy hlive => ?_) fun j y k z hy hz hsy hsz => ?_
  · simp [Port.storeLine, Port.modSlot, hb]
  · rw [Port.modSlot_length, Port.modSlot_length, Port.storeLine, Port.modSlot_length]
  · rcases slots hy with ⟨-, z, hz, ha⟩ | ⟨rfl, hnone, hready⟩
    · exact ⟨z, hz, .inl ha⟩
    · refine ⟨x, hx, .inr ⟨⟨hnone.trans hpin.symm, ?_, ?_, fun _ hp => absurd hpin hp⟩, ?_⟩⟩ <;> simp [Slot.live, hready]
  · rcases slots hy with ⟨hk, z, hz, ha⟩ | ⟨-, -, hready⟩
    · exact (Port.countP_rest hb (BufferedLine.tagged_ne (Ne.symm hk) (BufferedLine.tagged_iff.mpr ⟨rfl, rfl⟩))).le
    · simp [Slot.live, hready] at hlive
  · rcases slots hy with ⟨hk, y', hy', ha⟩ | ⟨-, -, hready⟩
    · exact absurd (h.one_draining hx hy' hlast.1 (ha.state.symm.trans hsy)) hk
    · rw [hready] at hsy
      cases hsy

end Counting

end Landed

/-! ### Work discarded or stopped (R14, R12) -/

/-- Nothing arrives or drains any more, whatever lines are left. -/
theorem Port.RingOk.idle {q : Port} (hformat : q.format = p.format) (hsize : q.buffer.length ≤ p.buffer.length) (g : Slot → Slot)
    (hring : q.ring = p.ring.map g) (hg : ∀ (k : Nat) (x : Slot), p.ring[k]? = some x → x.Becomes (g x) ∧ ¬ (g x).live) :
    q.RingOk named := by
  have slots : ∀ {k : Nat} {y : Slot}, q.ring[k]? = some y → ∃ x, p.ring[k]? = some x ∧ x.Becomes y ∧ ¬ y.live := by
    intro k y hy
    rw [hring, List.getElem?_map] at hy
    obtain ⟨x, hx, rfl⟩ := Option.map_eq_some_iff.mp hy
    exact ⟨x, hx, hg k x hx⟩
  refine h.fade hrole hformat hsize (by rw [hring, List.length_map]) (fun k y hy => ?_) (fun k y hy hlive => ?_)
    fun j y k z hy _ hsy _ => ?_
  · obtain ⟨x, hx, hf⟩ := slots hy
    exact ⟨x, hx, .inr hf⟩
  · obtain ⟨-, -, -, hno⟩ := slots hy
    exact absurd hlive hno
  · obtain ⟨-, -, -, hno⟩ := slots hy
    exact absurd (.inr hsy) hno

theorem Port.RingOk.discardWork : p.discardWork.RingOk named := by
  refine h.idle hrole (g := fun x => if x.state = .filling ∨ x.state = .draining then x.freed else x) ?_ ?_ ?_
    fun k x hx => ?_
  · simp only [Port.discardWork, Port.withdrawAll_eq]
  · simp only [Port.discardWork, Port.withdrawAll_eq]
    split <;> simp
  · simp only [Port.discardWork, Port.withdrawAll_eq]
  · split
    next hl =>
      have hpin := h.pin_of_live hx hl
      exact ⟨⟨hpin.symm, nofun, nofun, fun _ hp => absurd hpin hp⟩, by simp [Slot.live, Slot.freed]⟩
    next hl => exact ⟨(Slot.Alike.refl x).becomes, hl⟩

theorem Port.RingOk.stopWork : p.stopWork.RingOk named := by
  refine h.idle hrole (g := Slot.stopped) ?_ ?_ ?_ fun k x hx => ?_
  · simp only [Port.stopWork, Port.withdrawAll_eq]
  · simp only [Port.stopWork, Port.withdrawAll_eq]
    split <;> simp
  · simp only [Port.stopWork, Port.withdrawAll_eq]
  · unfold Slot.stopped
    split
    next hp => exact ⟨⟨hp.symm, nofun, nofun, fun _ hn => absurd hp hn⟩, by simp [Slot.live, Slot.freed]⟩
    next hp =>
      have hready := h.ready_of_pin hx hp
      exact ⟨⟨rfl, id, id, fun hr _ => hr⟩, by simp [Slot.live, hready]⟩

end Moves

/-- A slot with no frame left to arrive is READY. -/
theorem Slot.ready_fades (x : Slot) : x.Fades { x with state := .ready } :=
  .inr ⟨⟨rfl, nofun, nofun, fun _ _ => rfl⟩, by simp [Slot.live]⟩

/-- A frame that ended with nothing left to write. -/
theorem Port.RingOk.formMeans {p : Port} {named : Option (Nat × Pin)} (h : p.RingOk named)
    (hrole : ∀ k role, named = some (k, role) → role ≠ .none) (k : Nat) : (p.formMeans k).RingOk named :=
  (h.modSlot hrole k (f := fun t =>
    { t with full := some p.sums.full.means, region := p.region.map fun _ => p.sums.region.means })
    fun _ _ => .inl ⟨rfl, rfl, rfl, rfl, rfl, rfl⟩).congr rfl rfl rfl

/-- Every change of a port keeps its ring. -/
theorem Port.Move.ringOk {p q : Port} (hm : p.Move q) {named : Option (Nat × Pin)}
    (hrole : ∀ k role, named = some (k, role) → role ≠ .none) (h : p.RingOk named) : q.RingOk named := by
  induction hm with
  | refl => exact h
  | trans _ _ ih1 ih2 => exact ih2 (ih1 h)
  | fields => exact h.congr rfl rfl rfl
  | beginFrame p now region => exact h.beginFrame hrole now region
  | takeLine p f k luma u v _ hk => exact h.takeLine hrole f hk luma u v
  | endStamp p k now => exact h.modSlot hrole k fun _ _ => .inl ⟨rfl, rfl, rfl, rfl, rfl, rfl⟩
  | formMeans p k => exact h.formMeans hrole k
  | discardFrame p k counters hk => exact (h.discardSlot hrole hk).1.congr rfl rfl rfl
  | drain p f k x hf hx hs hd hl ho => exact h.drain hf hx hs hd hl ho
  | ready p k => exact h.modSlot hrole k fun x _ => x.ready_fades
  | landedStray p l rest hb hstray => exact h.landedStray hrole hb hstray
  | landed p l rest x hb hx hc hmore => exact h.landed hrole hb hx hc hmore
  | landedLast p l rest x hb hx hc hlast => exact h.landedLast hrole hb hx hlast
  | inFlight => exact h.congr rfl rfl rfl
  | discardWork => exact h.discardWork hrole
  | stopWork => exact h.stopWork hrole

end Sys2Proof.Machine
end

section
/-!
PROOF. The rings and pins of all cameras and the form of the frame store's areas (R22, R125, R126): kept by every change of
the mode, the Zoom Controller and the ports, the composition of a frame with its new pins among them.
-/

namespace Sys2Proof.Machine

/-! ### What a record names (R125) -/

/-- The slot a record gives a camera is that of one of its sources, in a role. -/
theorem Record.pinOf_source {r : Record} {c : Cam} {k : Nat} {role : Pin} (h : r.pinOf c = some (k, role)) :
    role ≠ .none ∧ ∃ e, (r.primary = some e ∨ r.secondary = some e) ∧ e.camera = c ∧ e.slot = k := by
  unfold Record.pinOf at h
  split at h
  · split at h
    · cases h
      exact ⟨nofun, _, .inl ‹_›, ‹_›, rfl⟩
    · split at h <;> cases h
      exact ⟨nofun, _, .inr ‹_›, ‹_›, rfl⟩
  · split at h <;> cases h
    exact ⟨nofun, _, .inl ‹_›, ‹_›, rfl⟩
  · split at h <;> cases h
    exact ⟨nofun, _, .inr ‹_›, ‹_›, rfl⟩
  · cases h

theorem State.pinNow_role {s : State} {c : Cam} (k : Nat) (role : Pin) (h : s.pinNow c = some (k, role)) : role ≠ .none := by
  obtain ⟨r, -, hr⟩ := Option.bind_eq_some_iff.mp h
  exact (Record.pinOf_source hr).1

/-! ### Pins brought into line with a record (R125, R126) -/

/-- A slot after the pins follow a record: pinned as it is named, and a frame that arrives or drains in it untouched. -/
theorem pinRing_get {named : Option (Nat × Pin)} {ring : List Slot} {k : Nat} {y : Slot} (h : (pinRing named ring)[k]? = some y) :
    ∃ x, ring[k]? = some x ∧ y.pin = pinAt named k
      ∧ (y.live → y.state = x.state ∧ y.seq = x.seq ∧ y.lines = x.lines ∧ y.dropped = x.dropped ∧ y.outstanding = x.outstanding) := by
  have unpinned : ∀ x : Slot, x.unpin.pin = .none ∧ (x.unpin.live → x.unpin.state = x.state ∧ x.unpin.seq = x.seq
      ∧ x.unpin.lines = x.lines ∧ x.unpin.dropped = x.dropped ∧ x.unpin.outstanding = x.outstanding) := by
    intro x
    unfold Slot.unpin
    split
    · exact ⟨‹_›, fun _ => ⟨rfl, rfl, rfl, rfl, rfl⟩⟩
    · split
      · exact ⟨rfl, by rintro (hl | hl) <;> cases hl⟩
      · exact ⟨rfl, fun _ => ⟨rfl, rfl, rfl, rfl, rfl⟩⟩
  rw [pinRing, List.getElem?_mapIdx] at h
  obtain ⟨x, hx, rfl⟩ := Option.map_eq_some_iff.mp h
  refine ⟨x, hx, ?_⟩
  cases named with
  | none => exact unpinned x
  | some jr =>
    obtain ⟨j, role⟩ := jr
    by_cases hk : k = j
    · simp [pinAt, hk]
    · simp only [hk, ↓reduceIte, pinAt, Ne.symm hk]
      exact unpinned x

theorem pinRing_named {k : Nat} {role : Pin} {ring : List Slot} {x : Slot} (hx : ring[k]? = some x) :
    (pinRing (some (k, role)) ring)[k]? = some { x with pin := role } := by
  simp [pinRing, hx]

/-- The pins of a ring follow a record that names a READY slot or none. -/
theorem Port.RingOk.repin {p : Port} {named new : Option (Nat × Pin)} (h : p.RingOk named)
    (hready : ∀ k role, new = some (k, role) → ∃ x, p.ring[k]? = some x ∧ x.state = .ready) :
    ({ p with ring := pinRing new p.ring } : Port).RingOk new := by
  refine ⟨countP_le_one_iff.mpr fun i j x y hx hy hsx hsy => ?_, ⟨h.writes.size, h.writes.rows,
    countP_le_one_iff.mpr fun i j x y hx hy hsx hsy => ?_, fun k y hy hd => ?_, fun k y hy hl => ?_,
    fun j x k y hx hy hsx hsy hd => ?_⟩, fun k y hy => ?_, fun k role hn => ?_⟩
  · simp only [beq_iff_eq] at hsx hsy
    obtain ⟨x', hx', -, hlx⟩ := pinRing_get hx
    obtain ⟨y', hy', -, hly⟩ := pinRing_get hy
    exact h.one_filling hx' hy' ((hlx (.inl hsx)).1 ▸ hsx) ((hly (.inl hsy)).1 ▸ hsy)
  · simp only [beq_iff_eq] at hsx hsy
    obtain ⟨x', hx', -, hlx⟩ := pinRing_get hx
    obtain ⟨y', hy', -, hly⟩ := pinRing_get hy
    exact h.one_draining hx' hy' ((hlx (.inr hsx)).1 ▸ hsx) ((hly (.inr hsy)).1 ▸ hsy)
  · obtain ⟨x, hx, -, hl⟩ := pinRing_get hy
    obtain ⟨hstate, -, -, -, hout⟩ := hl (.inr hd)
    rw [hout]
    exact h.writes.drains k x hx (hstate ▸ hd)
  · obtain ⟨x, hx, -, hlive⟩ := pinRing_get hy
    obtain ⟨hstate, hseq, -, -, hout⟩ := hlive hl
    rw [hout, hseq]
    exact h.writes.writes k x hx (by rwa [hstate] at hl)
  · obtain ⟨x', hx', -, hlx⟩ := pinRing_get hx
    obtain ⟨y', hy', -, hly⟩ := pinRing_get hy
    obtain ⟨hstate, hseq, -, -, -⟩ := hlx (.inr hsx)
    obtain ⟨hstate', hseq', hlines, hdropped, -⟩ := hly (.inl hsy)
    rw [hlines, hseq, hseq']
    exact h.writes.behind j x' k y' hx' hy' (hstate ▸ hsx) (hstate' ▸ hsy) (hdropped ▸ hd)
  · obtain ⟨x, -, hp, -⟩ := pinRing_get hy
    exact hp
  · subst hn
    obtain ⟨x, hx, hs⟩ := hready k role rfl
    exact ⟨_, pinRing_named hx, hs⟩

/-- A ring in which nothing arrives and that no record names. -/
theorem Port.RingOk.fresh {p q : Port} {named : Option (Nat × Pin)} (h : p.RingOk named) (hbuffer : q.buffer = p.buffer)
    (hrows : ∀ f, q.format = some f → 64 ≤ f.hs) (hring : ∀ x ∈ q.ring, x.state = .free ∧ x.pin = .none) : q.RingOk none := by
  have free : ∀ {k : Nat} {x : Slot}, q.ring[k]? = some x → x.state = .free := fun hx => (hring _ (List.mem_of_getElem? hx)).1
  refine ⟨?_, ⟨hbuffer ▸ h.writes.size, hrows, ?_, fun k x hx hs => ?_, fun k x hx hl => ?_, fun j x k y hx _ hs => ?_⟩,
    fun k x hx => (hring x (List.mem_of_getElem? hx)).2, nofun⟩
  · exact Nat.le_trans (Nat.le_of_eq (List.countP_eq_zero.mpr fun x hx => by simp [(hring x hx).1])) (Nat.zero_le 1)
  · exact Nat.le_trans (Nat.le_of_eq (List.countP_eq_zero.mpr fun x hx => by simp [(hring x hx).1])) (Nat.zero_le 1)
  · simp [free hx] at hs
  · simp [free hx] at hl
  · simp [free hx] at hs

/-! ### The composition, as the rings see it -/

/-- Every camera's format part, ring and buffer are as they were. -/
def State.SameRings (s t : State) : Prop :=
  ∀ c, (t.port c).format = (s.port c).format ∧ (t.port c).ring = (s.port c).ring ∧ (t.port c).buffer = (s.port c).buffer

namespace State.SameRings

theorem refl (s : State) : s.SameRings s := fun _ => ⟨rfl, rfl, rfl⟩

theorem trans {s t u : State} (h : s.SameRings t) (k : t.SameRings u) : s.SameRings u := fun c =>
  ⟨(k c).1.trans (h c).1, (k c).2.1.trans (h c).2.1, (k c).2.2.trans (h c).2.2⟩

theorem of_ports {s t : State} (h : t.ports = s.ports) : s.SameRings t := fun c => by
  rw [State.port, State.port, h]
  exact ⟨rfl, rfl, rfl⟩

theorem setPort (s : State) (c : Cam) {p : Port} (h : p.format = (s.port c).format ∧ p.ring = (s.port c).ring
    ∧ p.buffer = (s.port c).buffer) : s.SameRings (s.setPort c p) :=
  State.forall_port_setPort (q := fun d p => p.format = (s.port d).format ∧ p.ring = (s.port d).ring
    ∧ p.buffer = (s.port d).buffer) (fun _ => ⟨rfl, rfl, rfl⟩) h

theorem changeState (s : State) (c : Cam) (x : CamState) (reason : Reason) : s.SameRings (s.changeState c x reason) :=
  (setPort s c (p := { s.port c with state := x }) ⟨rfl, rfl, rfl⟩).trans (of_ports rfl)

theorem startLive (s : State) (c : Cam) (reason : Reason) : s.SameRings (s.startLive c reason) := by
  have marked : s.SameRings (s.markStart c .live) :=
    (setPort s c (p := { s.port c with startMode := .live, faultReason := .none }) ⟨rfl, rfl, rfl⟩).trans (of_ports rfl)
  have armed : ∀ (t : State), t.SameRings (t.arm c Cal.first) := by
    intro t
    unfold State.arm
    split
    · exact of_ports rfl
    · exact refl t
  unfold State.startLive
  dsimp only
  split
  · exact (marked.trans (changeState _ c _ reason)).trans (armed _)
  · exact (marked.trans (changeState _ c _ reason)).trans (of_ports (State.Buses.queueRun _ c .start).frame.1)

theorem askStart (s : State) (o : Option Cam) : s.SameRings (s.askStart o) := by
  cases o with
  | none => exact refl s
  | some c =>
    show s.SameRings (s.autoStart c)
    unfold State.autoStart
    split
    · exact startLive s c _
    · exact refl s

theorem settle (s : State) (v : Verdict) : s.SameRings (s.settle v) := by
  refine SameRings.trans (of_ports ?_) (askStart _ _)
  rw [State.raiseAll_ports]

end State.SameRings

/-- The best of some candidates is one of them. -/
theorem bestOf_mem {early : Bool} {t : Word} {l : List (Slot × Nat)} {y : Slot × Nat} (h : bestOf early t l = some y) : y ∈ l := by
  induction l generalizing y with
  | nil => cases h
  | cons a rest ih =>
    unfold bestOf at h
    split at h
    · cases h
      exact List.mem_cons_self
    next z hz =>
      have better : ∀ a b : Slot × Nat, betterOf early t a b = a ∨ betterOf early t a b = b := by
        intro a b
        unfold betterOf
        dsimp only
        split
        · split
          · exact .inr rfl
          · exact .inl rfl
        · split
          · split
            · exact .inl rfl
            · exact .inr rfl
          · split
            · exact .inl rfl
            · exact .inr rfl
      cases h
      rcases better a z with hb | hb <;> rw [hb]
      · exact List.mem_cons_self
      · exact List.mem_cons_of_mem _ (ih hz)

/-- A selected slot is READY (R121, R122). -/
theorem Port.RingOk.selected {p : Port} {named : Option (Nat × Pin)} (h : p.RingOk named) {t : Word} {sel : Selection}
    (hsel : selectFrom p.ring t = some sel) : ∃ x, p.ring[sel.slot]? = some x ∧ x.state = .ready := by
  have candidate : ∀ {y : Slot × Nat}, y ∈ p.ring.zipIdx.filter (fun x => x.1.candidate) →
      ∃ x, p.ring[y.2]? = some x ∧ x.state = .ready := by
    rintro ⟨x, k⟩ hy
    obtain ⟨hin, hc⟩ := List.mem_filter.mp hy
    simp only [Slot.candidate, Bool.and_eq_true, beq_iff_eq] at hc
    exact ⟨x, List.mem_zipIdx_iff_getElem?.mp hin, hc.1⟩
  unfold selectFrom at hsel
  dsimp only at hsel
  split at hsel
  next y hy =>
    cases hsel
    exact candidate (List.mem_of_mem_filter (bestOf_mem hy))
  next =>
    split at hsel
    next y hy =>
      cases hsel
      exact candidate (bestOf_mem hy)
    next =>
      obtain ⟨⟨x, k⟩, hf, rfl⟩ := Option.map_eq_some_iff.mp hsel
      have hx := List.mem_zipIdx_iff_getElem?.mp (List.mem_of_find?_eq_some hf)
      have hp : x.pin ≠ .none := by simpa using List.find?_some hf
      exact ⟨x, hx, h.ready_of_pin hx hp⟩

/-- A source of a new record is a selected slot, or, in FROZEN, repeats the record before. -/
theorem State.newRecord_pinOf {s : State} {target : Word} {zc : Nat} {w : Windowed} {c : Cam} {k : Nat} {role : Pin}
    (h : (s.newRecord target zc w).pinOf c = some (k, role)) :
    (∃ sel, s.zoom.selection.get c = some sel ∧ sel.slot = k) ∨ s.pinNow c = some (k, role) := by
  by_cases hf : s.zoom.engine = .frozen
  · right
    have hp : (s.newRecord target zc w).primary = s.zoom.current.bind Record.primary := by
      simp [State.newRecord, State.sources, hf]
    have hq : (s.newRecord target zc w).secondary = s.zoom.current.bind Record.secondary := by
      simp [State.newRecord, State.sources, hf]
    unfold Record.pinOf at h
    rw [hp, hq] at h
    unfold State.pinNow
    cases hc : s.zoom.current with
    | none => simp [hc] at h
    | some r =>
      rw [hc] at h
      exact h
  · left
    obtain ⟨-, e, he, rfl, rfl⟩ := Record.pinOf_source h
    have entry : ∀ {d : Cam} {m : Corr}, s.sourceEntry w.applied d m = some e →
        ∃ sel, s.zoom.selection.get e.camera = some sel ∧ sel.slot = e.slot := by
      intro d m hd
      obtain ⟨sel, hsel, rfl⟩ := Option.map_eq_some_iff.mp hd
      exact ⟨sel, hsel, rfl⟩
    have hsources : s.sources w.applied s.zoom.engine =
      ((s.newRecord target zc w).primary, (s.newRecord target zc w).secondary) := rfl
    have one : ∀ {d : Cam} {m : Corr}, (s.sourceEntry w.applied d m, none) =
        ((s.newRecord target zc w).primary, (s.newRecord target zc w).secondary) →
        ∃ sel, s.zoom.selection.get e.camera = some sel ∧ sel.slot = e.slot := by
      intro d m hd
      obtain ⟨hp, hq⟩ := Prod.mk.inj hd
      exact entry (he.resolve_right (by simp [← hq]) |> hp.trans)
    have two : ∀ {d i : Cam} {m n : Corr}, (s.sourceEntry w.applied d m, s.sourceEntry w.applied i n) =
        ((s.newRecord target zc w).primary, (s.newRecord target zc w).secondary) →
        ∃ sel, s.zoom.selection.get e.camera = some sel ∧ sel.slot = e.slot := by
      intro d i m n hd
      obtain ⟨hp, hq⟩ := Prod.mk.inj hd
      exact he.elim (fun h => entry (hp.trans h)) fun h => entry (hq.trans h)
    cases heng : s.zoom.engine with
    | frozen => exact absurd heng hf
    | stopped =>
      rw [heng] at hsources
      obtain ⟨hp, hq⟩ := Prod.mk.inj hsources
      rw [← hp, ← hq] at he
      exact he.elim nofun nofun
    | steady p => exact one (heng ▸ hsources)
    | prepare o i count step => exact one (heng ▸ hsources)
    | blend o i k n dir => exact two (heng ▸ hsources)
    | compare a b old => exact two (heng ▸ hsources)

/-! ### The stages of a composition, one by one (R59) -/

/-- The state after the ramp step. -/
def State.ramped (s : State) : State :=
  s.takeCals.applySettings.rampStep (nextFrame s.takeCals.applySettings.zoom.current)

/-- The target time of the composition at this boundary (R120). -/
def State.targetNow (s : State) : Word := targetTime s.timebase s.takeCals.applySettings.zoom.settings.latency

/-- The state after the selection stage. -/
def State.chosen (s : State) : State := s.ramped.selectFrames s.targetNow

/-- What the hand-off stage settles. -/
def State.verdictNow (s : State) : Verdict :=
  s.chosen.handoff ⟨s.ramped.candidate, Quad.tab (s.ramped.freshNow s.targetNow), nextFrame s.ramped.zoom.current⟩

/-- The state after the hand-off stage. -/
def State.settled (s : State) : State := s.chosen.settle s.verdictNow

/-- What the zoom-window stage makes of the candidate. -/
def State.windowedNow (s : State) : Windowed :=
  windowZoom (s.settled.window s.settled.zoom.engine) s.settled.zoom.lastApplied s.ramped.candidate s.verdictNow.forcing

/-- The state before publication. -/
def State.unpublished (s : State) : State :=
  (s.settled.settleZoom (s.settled.window s.settled.zoom.engine) s.windowedNow (nextFrame s.settled.zoom.current)).updateCorr
    s.verdictNow.corr

/-- The record published. -/
def State.composedRecord (s : State) : Record := s.unpublished.newRecord s.targetNow s.ramped.candidate s.windowedNow

theorem State.compose_eq (s : State) : s.compose = s.unpublished.publish s.composedRecord := by
  unfold State.compose
  show s.ramped.composeFrom s.targetNow = _
  unfold State.composeFrom
  show s.settled.finishComposition s.targetNow s.ramped.candidate s.verdictNow.forcing s.verdictNow.corr = _
  unfold State.finishComposition
  rfl

theorem State.ramped_ports (s : State) : s.ramped.ports = s.ports := by
  rw [State.ramped, State.rampStep, State.raiseAll_ports]
  unfold State.applySettings
  split <;> rfl

theorem State.ramped_current (s : State) : s.ramped.zoom.current = s.zoom.current := by
  rw [State.ramped, State.rampStep, State.raiseAll_zoom]
  unfold State.applySettings
  split <;> rfl

theorem State.askStart_zoom (s : State) (o : Option Cam) : (s.askStart o).zoom = s.zoom := by
  cases o with
  | none => rfl
  | some c => exact (State.Work.autoStart s c).sameParts.zoom

theorem State.settled_zoom (s : State) : s.settled.zoom = { s.chosen.zoom with
    engine := s.verdictNow.engine, pendingCut := s.verdictNow.pendingCut, view := s.verdictNow.view } := by
  rw [State.settled, State.settle, State.askStart_zoom, State.raiseAll_zoom]

theorem State.unpublished_zoom (s : State) : s.unpublished.zoom.selection = s.chosen.zoom.selection
    ∧ s.unpublished.zoom.current = s.zoom.current := by
  have hz : s.unpublished.zoom.selection = s.settled.zoom.selection ∧ s.unpublished.zoom.current = s.settled.zoom.current := by
    rw [State.unpublished, State.updateCorr, State.settleZoom, State.raiseAll_zoom]
    exact ⟨rfl, rfl⟩
  rw [hz.1, hz.2, State.settled_zoom]
  exact ⟨rfl, s.ramped_current⟩

theorem State.unpublished_ports (s : State) : s.unpublished.ports = s.settled.ports := by
  rw [State.unpublished, State.updateCorr, State.settleZoom, State.raiseAll_ports]

theorem State.unpublished_rings (s : State) : s.SameRings s.unpublished :=
  ((State.SameRings.of_ports s.ramped_ports).trans (.settle s.chosen _)).trans (.of_ports s.unpublished_ports)

/-- The record names selected slots, or those the record before named. -/
theorem State.composedRecord_pinOf {s : State} {c : Cam} {k : Nat} {role : Pin} (h : s.composedRecord.pinOf c = some (k, role)) :
    (∃ sel, selectFrom (s.port c).ring s.targetNow = some sel ∧ sel.slot = k) ∨ s.pinNow c = some (k, role) := by
  refine (State.newRecord_pinOf h).imp ?_ ?_
  · rintro ⟨sel, hsel, hk⟩
    rw [s.unpublished_zoom.1] at hsel
    have hnow : s.ramped.selectionNow s.targetNow c = some sel := by
      rw [← hsel]
      exact (Quad.get_tab _ c).symm
    unfold State.selectionNow at hnow
    split at hnow
    · rw [State.port, s.ramped_ports] at hnow
      exact ⟨sel, hnow, hk⟩
    · cases hnow
  · rw [State.pinNow, s.unpublished_zoom.2]
    exact id

/-! ### The laws of all rings -/

theorem State.pinNow_of_none {s : State} (h : s.zoom.current = none) (c : Cam) : s.pinNow c = none := by
  rw [State.pinNow, h]
  rfl

namespace State.RingsLaw

variable {s t : State}

theorem ring (h : s.RingsLaw) (c : Cam) : (s.port c).RingOk (s.pinNow c) := State.ringLaw_iff.mp (h.rings c)

/-- The mode and what the current record names stay; the rings stay lawful. -/
theorem keep (h : s.RingsLaw) (hm : t.mode = s.mode) (hc : ∀ c, t.pinNow c = s.pinNow c)
    (hz : s.zoom.current = none → t.zoom.current = none)
    (hp : ∀ c, (s.port c).RingOk (s.pinNow c) → (t.port c).RingOk (s.pinNow c)) : t.RingsLaw :=
  ⟨fun c => State.ringLaw_iff.mpr (by rw [hc]; exact hp c (h.ring c)), fun hr => hz (h.record (hm ▸ hr))⟩

/-- One port changes, its ring staying lawful. -/
theorem setPort (h : s.RingsLaw) (c : Cam) {p : Port} (hp : p.RingOk (s.pinNow c)) : (s.setPort c p).RingsLaw :=
  ⟨fun d => State.ringLaw_iff.mpr (State.forall_port_setPort (q := fun d p => p.RingOk (s.pinNow d)) h.ring hp d), h.record⟩

/-- Outside RUN no slot is named. -/
theorem unnamed (h : s.RingsLaw) (hm : s.mode ≠ .run) (c : Cam) : s.pinNow c = none := State.pinNow_of_none (h.record hm) c

end State.RingsLaw

theorem State.applyPins_port (s : State) (named : Cam → Option (Nat × Pin)) (c : Cam) :
    (s.applyPins named).port c = { s.port c with ring := pinRing (named c) (s.port c).ring } := by
  cases c <;> rfl

theorem State.compose_port (s : State) (c : Cam) :
    s.compose.port c = { s.unpublished.port c with ring := pinRing (s.composedRecord.pinOf c) (s.unpublished.port c).ring } := by
  rw [State.compose_eq, State.publish, State.applyPins_port]
  rfl

theorem State.compose_pinNow (s : State) (c : Cam) : s.compose.pinNow c = s.composedRecord.pinOf c := by
  rw [State.compose_eq, State.publish, State.pinNow]
  rfl

theorem freshRing_free {n seed : Nat} {x : Slot} (hx : x ∈ freshRing n seed) : x.state = .free ∧ x.pin = .none := by
  obtain ⟨k, -, rfl⟩ := List.mem_map.mp hx
  exact ⟨rfl, rfl⟩

theorem formatOk_rows {ws hs slots : Nat} (h : formatOk ws hs slots = true) : 64 ≤ hs := by
  simp only [formatOk, evenInRange, inRange, Bool.and_eq_true, decide_eq_true_eq] at h
  omega

theorem rings_keptFinely : KeptFinely State.RingsLaw where
  same {s t} hb hs := hs.keep hb.mode (fun c => by rw [State.pinNow, hb.zoom]; rfl) (fun h => by rw [hb.zoom]; exact h)
    fun c h => by rw [State.port, hb.ports]; exact h
  ticks hs := hs.keep rfl (fun _ => rfl) id fun c h => h.congr (by cases c <;> rfl) (by cases c <;> rfl) (by cases c <;> rfl)
  move c _ hp hs := hs.setPort c (hp.ringOk State.pinNow_role (hs.ring c))
  state c x hs := hs.setPort c ((hs.ring c).congr rfl rfl rfl)
  setFormat {s} c f hm hf hs := by
    have hr : (s.setPort c { s.port c with format := some f, ring := freshRing f.slots s.freeSeed }).RingsLaw := by
      refine hs.setPort c ?_
      rw [hs.unnamed (by simp [hm]) c]
      exact (hs.ring c).fresh rfl (fun _ h => Option.some.inj h ▸ formatOk_rows hf) fun _ => freshRing_free
    exact hr.keep rfl (fun _ => rfl) id fun _ => id
  removeCamera {s} c hm hs := by
    unfold State.removeCamera
    split
    · refine hs.setPort c ?_
      rw [hs.unnamed (by simp [hm]) c]
      exact (hs.ring c).fresh rfl (fun _ h => by simp at h) fun _ h => by simp at h
    · exact hs
  withCal {s} c k f _ hs := by
    have hr : (s.setPort c { s.port c with cal := some k }).RingsLaw := hs.setPort c ((hs.ring c).congr rfl rfl rfl)
    unfold State.withCal
    dsimp only
    split
    · exact hr.keep rfl (fun _ => rfl) id fun _ => id
    · exact hr
  reset {s} hm hz hp := State.reset_ringsLaw.keep hm (fun c => by rw [State.pinNow, hz]; rfl) (fun _ => by rw [hz]; rfl)
    fun c h => by rw [State.port, hp]; exact h
  booted hm hs := ⟨fun c => State.ringLaw_iff.mpr (hs.ring c), fun _ => hs.record (by simp [hm])⟩
  begins hm hs := ⟨fun c => State.ringLaw_iff.mpr (hs.ring c), fun h => absurd rfl h⟩
  stops {s} _ hs := by
    refine ⟨fun c => State.ringLaw_iff.mpr ?_, fun _ => rfl⟩
    show ((s.applyPins fun _ => none).port c).RingOk none
    rw [State.applyPins_port]
    exact (hs.ring c).repin nofun
  minor hz hs := hs.keep rfl (fun c => by simp only [State.pinNow, hz.current]) (fun h => hz.current.trans h) fun _ => id
  handoff _ _ hs := hs.keep rfl (fun _ => rfl) id fun _ => id
  zoomTo _ _ _ _ hs := hs.keep rfl (fun _ => rfl) id fun _ => id
  zoomCancel hs := hs.keep rfl (fun _ => rfl) id fun _ => id
  view _ _ _ _ _ _ hs := hs.keep rfl (fun _ => rfl) id fun _ => id
  compose {s} hm hs := by
    have hrun : s.compose.mode = .run := (State.Quiet.compose s).mode.trans hm
    refine ⟨fun c => State.ringLaw_iff.mpr ?_, fun h => absurd hrun h⟩
    obtain ⟨hf, hring, hbuffer⟩ := s.unpublished_rings c
    rw [State.compose_port, State.compose_pinNow]
    refine ((hs.ring c).congr hf hring hbuffer).repin fun k role hn => ?_
    rw [hring]
    rcases State.composedRecord_pinOf hn with ⟨sel, hsel, rfl⟩ | hnow
    · exact (hs.ring c).selected hsel
    · exact (hs.ring c).ready k role hnow
  countLine {s} rec underran hc hs := by
    refine hs.keep rfl (fun c => ?_) (fun h => by simp [hc] at h) fun _ => id
    have hpin : (rec.countLine underran).pinOf c = rec.pinOf c := by
      unfold Record.countLine
      split <;> rfl
    simp only [State.pinNow, hc, Option.bind_some, hpin]
/-! ### The form of the areas (entry 10) -/

/-- Every slot's area of a port is in canonical form. -/
def Port.Stored (p : Port) : Prop := ∀ x ∈ p.ring, areaWf x.area = true

namespace Port.Stored

variable {p : Port}

theorem of_get (h : p.Stored) {k : Nat} {x : Slot} (hx : p.ring[k]? = some x) : areaWf x.area = true :=
  h x (List.mem_of_getElem? hx)

theorem modSlot (h : p.Stored) (k : Nat) {f : Slot → Slot} (hf : ∀ x, areaWf x.area = true → areaWf (f x).area = true) :
    (p.modSlot k f).Stored := by
  intro y hy
  obtain ⟨j, hj⟩ := List.mem_iff_getElem?.mp hy
  obtain ⟨x, hx, rfl⟩ := Port.modSlot_get hj
  split
  · exact hf x (h.of_get hx)
  · exact h.of_get hx

theorem map (h : p.Stored) {q : Port} (f : Slot → Slot) (hq : q.ring = p.ring.map f) (hf : ∀ x, (f x).area = x.area) :
    q.Stored := by
  intro y hy
  rw [hq] at hy
  obtain ⟨x, hx, rfl⟩ := List.mem_map.mp hy
  rw [hf]
  exact h x hx

theorem discardSlot (h : p.Stored) (k : Nat) : (p.discardSlot k).Stored := by
  unfold Port.discardSlot
  split
  · rw [Port.withdrawFrame, Port.withdraw_eq]
    exact h.modSlot k (f := Slot.freed) fun _ => id
  · exact h

theorem truncate (h : p.Stored) : p.truncate.Stored := by
  unfold Port.truncate
  split
  · exact h.discardSlot _
  · exact h

theorem beginFrame (h : p.Stored) (now : Word) (region : Option Region) : (p.beginFrame now region).Stored := by
  have begun : Port.Stored { p.truncate with seq := p.truncate.seq + 1, sums := .zero, region := region } := h.truncate
  unfold Port.beginFrame
  dsimp only
  split
  · exact begun.modSlot _ fun _ => id
  · exact begun

theorem takeLine (h : p.Stored) (f : Format) (k : Nat) (luma u v : List Byte) : (p.takeLine f k luma u v).Stored := by
  cases hx : p.ring[k]? with
  | none =>
    simp only [Port.takeLine, hx]
    exact h
  | some x =>
    rcases Nat.lt_or_ge x.lines f.hs with hl | hl
    · rcases Nat.lt_or_ge p.buffer.length 4 with hb | hb
      · rw [Port.takeLine_held hx hl hb]
        exact h.modSlot k (f := fun t => { t with lines := x.lines + 1
                                                  narrow := x.narrow || rowIsNarrow f.ws x.lines luma u v
                                                  outstanding := t.outstanding + 1 }) fun _ => id
      · rw [Port.takeLine_full hx hl hb]
        exact h.modSlot k (f := fun t => { t with lines := x.lines + 1
                                                  narrow := x.narrow || rowIsNarrow f.ws x.lines luma u v
                                                  dropped := true }) fun _ => id
    · rw [Port.takeLine_excess hx hl]
      exact h.modSlot k fun _ => id

theorem storeLine (h : p.Stored) (l : BufferedLine) : (p.storeLine l).Stored :=
  h.modSlot _ fun x hx => by
    split
    · exact storeRow_wf _ _ _ hx
    · exact hx

theorem move {q : Port} (hm : p.Move q) (h : p.Stored) : q.Stored := by
  induction hm with
  | refl => exact h
  | trans _ _ ih1 ih2 => exact ih2 (ih1 h)
  | fields => exact h
  | beginFrame p now region => exact h.beginFrame now region
  | takeLine p f k luma u v _ _ => exact h.takeLine f k luma u v
  | endStamp p k now => exact h.modSlot k fun _ => id
  | formMeans p k =>
    exact h.modSlot k (f := fun t =>
      { t with full := some p.sums.full.means, region := p.region.map fun _ => p.sums.region.means }) fun _ => id
  | discardFrame p k counters _ => exact h.discardSlot k
  | drain p f k x _ _ _ _ _ _ => exact h.modSlot k fun _ => id
  | ready p k => exact h.modSlot k fun _ => id
  | landedStray p l rest _ _ => exact Port.Stored.storeLine (p := { p with buffer := rest, inFlight := false }) h l
  | landed p l rest x _ _ _ _ =>
    exact (Port.Stored.storeLine (p := { p with buffer := rest, inFlight := false }) h l).modSlot _ fun _ => id
  | landedLast p l rest x _ _ _ _ =>
    have landed := (Port.Stored.storeLine (p := { p with buffer := rest, inFlight := false }) h l).modSlot l.slot
      (f := fun y => { y with outstanding := x.outstanding - 1 }) fun _ => id
    exact landed.modSlot l.slot fun _ => id
  | inFlight => exact h
  | discardWork p =>
    refine h.map (fun x => if x.state = .filling ∨ x.state = .draining then x.freed else x) ?_ fun x => ?_
    · simp only [Port.discardWork, Port.withdrawAll_eq]
    · split <;> rfl
  | stopWork p =>
    refine h.map Slot.stopped ?_ fun x => ?_
    · simp only [Port.stopWork, Port.withdrawAll_eq]
    · unfold Slot.stopped
      split <;> rfl

theorem pins (h : p.Stored) (named : Option (Nat × Pin)) : ({ p with ring := pinRing named p.ring } : Port).Stored := by
  have area : ∀ x : Slot, x.unpin.area = x.area := by
    intro x
    unfold Slot.unpin
    split
    · rfl
    · split <;> rfl
  intro y hy
  obtain ⟨k, hk⟩ := List.mem_iff_getElem?.mp hy
  rw [pinRing, List.getElem?_mapIdx] at hk
  obtain ⟨x, hx, rfl⟩ := Option.map_eq_some_iff.mp hk
  split
  · split
    · exact h x (List.mem_of_getElem? hx)
    · rw [area]
      exact h.of_get hx
  · rw [area]
    exact h.of_get hx

end Port.Stored

theorem State.StoreLaw.setPort {s : State} (h : s.StoreLaw) (c : Cam) {p : Port} (hp : p.Stored) : (s.setPort c p).StoreLaw :=
  State.forall_port_setPort (q := fun _ p => p.Stored) h hp

theorem store_keptFinely : KeptFinely State.StoreLaw where
  same hb hs c := by
    rw [State.port, hb.ports]
    exact hs c
  ticks hs c := by cases c <;> exact hs _
  move c _ hp hs := hs.setPort c (.move hp (hs c))
  state {s} c x hs := State.StoreLaw.setPort hs c (p := { s.port c with state := x }) (hs c)
  setFormat c f _ _ hs := hs.setPort c (freshRing_wf _ _)
  removeCamera c _ hs := by
    unfold State.removeCamera
    split
    · exact hs.setPort c fun _ h => by simp at h
    · exact hs
  withCal {s} c k f _ hs := by
    have hr : (s.setPort c { s.port c with cal := some k }).StoreLaw := hs.setPort c (hs c)
    unfold State.withCal
    dsimp only
    split <;> exact hr
  reset _ _ hp c := by
    rw [State.port, hp]
    exact State.reset_storeLaw c
  booted _ hs := hs
  begins _ hs := hs
  stops {s} _ hs c := by
    show ((s.applyPins fun _ => none).port c).Stored
    rw [State.applyPins_port]
    exact Port.Stored.pins (hs c) none
  minor _ hs := hs
  handoff _ _ hs := hs
  zoomTo _ _ _ _ hs := hs
  zoomCancel hs := hs
  view _ _ _ _ _ _ hs := hs
  compose {s} _ hs c := by
    rw [State.compose_port]
    refine Port.Stored.pins (fun x hx => ?_) _
    rw [(s.unpublished_rings c).2.1] at hx
    exact hs c x hx
  countLine _ _ _ hs := hs

/-- Settles O58: the law of the rings and that of the areas, each carried along a step. -/
theorem stepKeepsRingsAndPins : Obligations.StepKeepsRingsAndPins := by
  unfold Obligations.StepKeepsRingsAndPins
  exact ⟨fun s t => rings_keptFinely.kept.step, fun s t => store_keptFinely.kept.step⟩

end Sys2Proof.Machine
end

section
/-!
PROOF. The events that are due on an empty queue, and the microsecond that passes with none due (R119, entries 2 and 5).
-/

namespace Sys2Proof.Machine

/-! ### What each event waits for -/

theorem Otg.rasterDue_iff {o : Otg} {i : Instr} : o.rasterDue = some i ↔
    ∃ f b n, o.format = some f ∧ o.blanking = some b ∧ nextRaster f b o.raster = some (n, i) ∧ 1000 * n < o.phase := by
  refine ⟨Otg.rasterDue_eq_some, ?_⟩
  rintro ⟨f, b, n, hf, hb, hn, hp⟩
  simp [Otg.rasterDue, hf, hb, hn, Option.filter, hp]

/-- The raster event after a blanking line (Table 22). -/
theorem nextRaster_blanking {f : OutFormat} {b : Blanking} {q n : Nat} {begun : Bool} {i : Instr} :
    nextRaster f b (.blanking q begun) = some (n, i) ↔
      (begun = false ∧ q + 1 < b.vb ∧ i = .blankingLineStart ∧ n = (q + 1) * linePixels f b)
        ∨ (begun = false ∧ b.vb ≤ q + 1 ∧ i = .outputFrameStart ∧ n = (b.vb - 1) * linePixels f b)
        ∨ (begun = true ∧ i = .lineStart ∧ n = b.vb * linePixels f b) := by
  unfold nextRaster
  cases begun with
  | true => simp [eq_comm, and_comm]
  | false =>
    by_cases h : q + 1 < b.vb
    · simp [h, eq_comm, and_comm]
    · simp [h, Nat.not_lt.mp h, eq_comm, and_comm]

/-- The raster event after an active line (Table 22). -/
theorem nextRaster_active {f : OutFormat} {b : Blanking} {r n : Nat} {ended : Bool} {i : Instr} :
    nextRaster f b (.active r ended) = some (n, i) ↔
      (r + 1 < f.ho ∧ i = .lineStart ∧ n = (b.vb + r + 1) * linePixels f b)
        ∨ (f.ho ≤ r + 1 ∧ ended = false ∧ i = .outputFrameEnd ∧ n = (b.vb + f.ho - 1) * linePixels f b + f.wo)
        ∨ (f.ho ≤ r + 1 ∧ ended = true ∧ i = .boundary ∧ n = (b.vb + f.ho) * linePixels f b) := by
  unfold nextRaster
  by_cases h : r + 1 < f.ho
  · simp [h, eq_comm, and_comm]
  · cases ended <;> simp [h, Nat.not_lt.mp h, framePixels, Nat.mul_comm, Nat.add_comm, eq_comm, and_comm]

theorem State.patternDue_iff {s : State} {c : Cam} {i : Instr} : s.patternDue c = some i ↔
    ∃ g f, (s.port c).pattern = some g ∧ (s.port c).format = some f ∧
      ((g.nextRow < f.hs ∧ patternRowTime g.interval g.nextRow f.hs ≤ g.elapsed ∧ i = .patternRow c)
        ∨ (g.nextRow = f.hs ∧ patternEndTime g.interval ≤ g.elapsed ∧ i = .patternFrameEnd c)
        ∨ (f.hs < g.nextRow ∧ g.interval ≤ g.elapsed ∧ i = .patternFrameStart c)) := by
  have taken : ∀ {p : Prop} [Decidable p] {j : Instr}, (if p then some j else none) = some i ↔ p ∧ i = j := by
    intro p _ j
    split
    next hp => simp [hp, eq_comm]
    next hp => simp [hp]
  unfold State.patternDue
  split
  next g f hg hf =>
    have only : (∃ g' f', (s.port c).pattern = some g' ∧ (s.port c).format = some f' ∧
        ((g'.nextRow < f'.hs ∧ patternRowTime g'.interval g'.nextRow f'.hs ≤ g'.elapsed ∧ i = .patternRow c)
          ∨ (g'.nextRow = f'.hs ∧ patternEndTime g'.interval ≤ g'.elapsed ∧ i = .patternFrameEnd c)
          ∨ (f'.hs < g'.nextRow ∧ g'.interval ≤ g'.elapsed ∧ i = .patternFrameStart c))) ↔
        ((g.nextRow < f.hs ∧ patternRowTime g.interval g.nextRow f.hs ≤ g.elapsed ∧ i = .patternRow c)
          ∨ (g.nextRow = f.hs ∧ patternEndTime g.interval ≤ g.elapsed ∧ i = .patternFrameEnd c)
          ∨ (f.hs < g.nextRow ∧ g.interval ≤ g.elapsed ∧ i = .patternFrameStart c)) := by
      simp [hg, hf]
    rw [only]
    split
    next hlt =>
      rw [taken]
      simp [hlt, Nat.ne_of_lt hlt, Nat.lt_asymm hlt]
    next hge =>
      split
      next heq =>
        rw [taken]
        simp [heq]
      next hne =>
        rw [taken]
        have hgt : f.hs < g.nextRow := by omega
        simp [hge, hne, hgt]
  next hno =>
    refine ⟨nofun, ?_⟩
    rintro ⟨g, f, hg, hf, -⟩
    exact absurd hf (hno g f hg)

theorem Otg.pulseDue_iff {o : Otg} {c : Cam} {i : Instr} : o.pulseDue c = some i ↔
    ∃ p, o.pulse.get c = some p ∧
      ((p.started = false ∧ p.offset ≤ p.elapsed ∧ i = .fsyncPulseStart c)
        ∨ (p.started = true ∧ p.ended = false ∧ p.offset + p.width ≤ p.elapsed ∧ i = .fsyncPulseEnd c)) := by
  unfold Otg.pulseDue
  split
  next p hp =>
    simp only [hp, Option.some.injEq, exists_eq_left']
    cases p.started <;> cases p.ended <;> simp [eq_comm]
  next hp => simp [hp]

theorem State.opportunity_iff {s : State} :
    s.opportunity = true ↔ s.arbiter.channel = .free ∧ ∃ client r, s.presented client = some r := by
  rw [State.opportunity, Bool.and_eq_true, beq_iff_eq]
  refine and_congr_right fun _ => ?_
  simp only [State.anyPresented, Bool.or_eq_true, Option.isSome_iff_exists]
  constructor
  · rintro (((((⟨r, h⟩ | ⟨r, h⟩) | ⟨r, h⟩) | ⟨r, h⟩) | ⟨r, h⟩) | ⟨r, h⟩) <;> exact ⟨_, r, h⟩
  · rintro ⟨client, r, h⟩
    cases client with
    | w c => cases c <;> simp [h]
    | rp => simp [h]
    | rs => simp [h]

/-! ### Due events and the clock -/

/-- An event is due. -/
inductive State.Due (s : State) : Instr → Prop
  | opportunity : s.opportunity = true → Due s .grantOpportunity
  | expiry (c : Cam) : s.expiryDue c = true → Due s (.expiry c)
  | wait (x : Bus) : s.waitDue x = true → Due s (.waitEnd x)
  | retry (x : Bus) : s.retryDue x = true → Due s (.pollRetry x)
  | pattern {c : Cam} {i : Instr} : s.patternDue c = some i → Due s i
  | raster {i : Instr} : s.otg.rasterDue = some i → Due s i
  | pulse {c : Cam} {i : Instr} : s.otg.pulseDue c = some i → Due s i

/-- The list the first due event comes from. -/
theorem firstDue_some {xs : List (Bool × Instr)} {i : Instr} (h : firstDue xs = some i) : (true, i) ∈ xs := by
  obtain ⟨⟨b, j⟩, hf, rfl⟩ := Option.map_eq_some_iff.mp h
  have hb : b = true := List.find?_some hf
  exact hb ▸ List.mem_of_find?_eq_some hf

theorem firstDue_none {xs : List (Bool × Instr)} (h : firstDue xs = none) {i : Instr} : (true, i) ∉ xs := by
  intro hi
  have := List.find?_eq_none.mp (Option.map_eq_none_iff.mp h) _ hi
  exact this rfl

/-- The event taken next is due. -/
theorem State.dueCommand_some {s : State} {i : Instr} (h : s.dueCommand = some i) : s.Due i := by
  unfold State.dueCommand at h
  rcases (Option.orElse_eq_some _ _ _).mp h with h | ⟨-, h⟩
  · rcases (Option.orElse_eq_some _ _ _).mp h with h | ⟨-, h⟩
    · have hi := firstDue_some h
      simp only [List.mem_cons, Prod.mk.injEq, List.not_mem_nil, or_false] at hi
      rcases hi with ⟨hd, rfl⟩ | ⟨hd, rfl⟩ | ⟨hd, rfl⟩ | ⟨hd, rfl⟩ | ⟨hd, rfl⟩ | ⟨hd, rfl⟩ | ⟨hd, rfl⟩ | ⟨hd, rfl⟩ | ⟨hd, rfl⟩
      · exact .opportunity hd.symm
      · exact .expiry _ hd.symm
      · exact .expiry _ hd.symm
      · exact .expiry _ hd.symm
      · exact .expiry _ hd.symm
      · exact .wait _ hd.symm
      · exact .wait _ hd.symm
      · exact .retry _ hd.symm
      · exact .retry _ hd.symm
    · obtain ⟨c, -, hc⟩ := List.exists_of_findSome?_eq_some h
      exact .pattern hc
  · rcases (Option.orElse_eq_some _ _ _).mp h with h | ⟨-, h⟩
    · exact .raster h
    · obtain ⟨c, -, hc⟩ := List.exists_of_findSome?_eq_some h
      exact .pulse hc

/-- With no event taken none is due. -/
theorem State.dueCommand_none {s : State} (h : s.dueCommand = none) (i : Instr) : ¬ s.Due i := by
  unfold State.dueCommand at h
  obtain ⟨hfirst, hlast⟩ := (Option.orElse_eq_none _ _).mp h
  obtain ⟨hready, hpattern⟩ := (Option.orElse_eq_none _ _).mp hfirst
  obtain ⟨hraster, hpulse⟩ := (Option.orElse_eq_none _ _).mp hlast
  have all : ∀ c : Cam, c ∈ Cam.all := fun c => by cases c <;> decide
  rintro (hd | ⟨c, hd⟩ | ⟨x, hd⟩ | ⟨x, hd⟩ | hd | hd | hd)
  · exact firstDue_none hready (i := .grantOpportunity) (by simp [hd])
  · exact firstDue_none hready (i := .expiry c) (by cases c <;> simp [hd])
  · exact firstDue_none hready (i := .waitEnd x) (by cases x <;> simp [hd])
  · exact firstDue_none hready (i := .pollRetry x) (by cases x <;> simp [hd])
  · exact Option.some_ne_none _ (hd.symm.trans (List.findSome?_eq_none_iff.mp hpattern _ (all _)))
  · exact Option.some_ne_none _ (hd.symm.trans hraster)
  · exact Option.some_ne_none _ (hd.symm.trans (List.findSome?_eq_none_iff.mp hpulse _ (all _)))

/-- On an empty queue, with RESETN released, the event taken next or one microsecond. -/
theorem step_of_idle {s : State} (hp : s.pending = []) (hr : s.resetHeld = false) :
    step s = match s.dueCommand with | some i => exec i s | none => .next s.tick := by
  rw [step_of_empty hp, idle, hr]
  rfl

/-- Settles O2: the event taken is the first due one of a list that names every due event. -/
theorem emptyQueueCountsOneMicrosecond : Obligations.EmptyQueueCountsOneMicrosecond := by
  unfold Obligations.EmptyQueueCountsOneMicrosecond
  intro s hp hr o past rasterDue packetDue due
  have raster : ∀ i, rasterDue i ↔ s.otg.rasterDue = some i := by
    intro i
    rw [Otg.rasterDue_iff]
    refine exists_congr fun f => exists_congr fun b => ?_
    rw [exists_and_left, exists_and_left]
    refine and_congr_right fun _ => and_congr_right fun _ => ?_
    show (match s.otg.raster with | .stopped => False | .blanking q begun => _ | .active r ended => _) ↔ _
    cases s.otg.raster with
    | stopped => simp [nextRaster]
    | blanking q begun => simp [nextRaster_blanking, or_and_right, exists_or, and_assoc, linePixels, past, o]
    | active r ended => simp [nextRaster_active, or_and_right, exists_or, and_assoc, linePixels, past, o]
  have iff : ∀ i, due i ↔ s.Due i := by
    intro i
    constructor
    · cases i with
      | grantOpportunity => exact fun h => .opportunity (State.opportunity_iff.mpr h)
      | expiry c => exact fun h => .expiry c (beq_iff_eq.mpr h)
      | waitEnd x => exact fun ⟨r, hrun, hph⟩ => .wait x (by simp [State.waitDue, hrun, hph])
      | pollRetry x => exact fun ⟨r, hrun, hph⟩ => .retry x (by simp [State.retryDue, hrun, hph])
      | patternRow c =>
        exact fun ⟨g, f, hg, hf, hlt, ht⟩ => .pattern (State.patternDue_iff.mpr ⟨g, f, hg, hf, .inl ⟨hlt, ht, rfl⟩⟩)
      | patternFrameEnd c =>
        exact fun ⟨g, f, hg, hf, heq, ht⟩ => .pattern (State.patternDue_iff.mpr ⟨g, f, hg, hf, .inr (.inl ⟨heq, ht, rfl⟩)⟩)
      | patternFrameStart c =>
        exact fun ⟨g, f, hg, hf, hgt, ht⟩ => .pattern (State.patternDue_iff.mpr ⟨g, f, hg, hf, .inr (.inr ⟨hgt, ht, rfl⟩)⟩)
      | fsyncPulseStart c =>
        exact fun ⟨p, hpulse, hs, ho⟩ => .pulse (Otg.pulseDue_iff.mpr ⟨p, hpulse, .inl ⟨hs, ho, rfl⟩⟩)
      | fsyncPulseEnd c =>
        exact fun ⟨p, hpulse, hs, he, ho⟩ => .pulse (Otg.pulseDue_iff.mpr ⟨p, hpulse, .inr ⟨hs, he, ho, rfl⟩⟩)
      | _ => exact fun h => .raster ((raster _).mp h)
    · rintro (hd | ⟨c, hd⟩ | ⟨x, hd⟩ | ⟨x, hd⟩ | hd | hd | hd)
      · exact State.opportunity_iff.mp hd
      · exact beq_iff_eq.mp hd
      · obtain ⟨r, hrun, hph⟩ := (Option.any_eq_true _ _).mp hd
        exact ⟨r, hrun, beq_iff_eq.mp hph⟩
      · obtain ⟨r, hrun, hph⟩ := (Option.any_eq_true _ _).mp hd
        exact ⟨r, hrun, beq_iff_eq.mp hph⟩
      · obtain ⟨g, f, hg, hf, ⟨hlt, ht, rfl⟩ | ⟨heq, ht, rfl⟩ | ⟨hgt, ht, rfl⟩⟩ := State.patternDue_iff.mp hd
        · exact ⟨g, f, hg, hf, hlt, ht⟩
        · exact ⟨g, f, hg, hf, heq, ht⟩
        · exact ⟨g, f, hg, hf, hgt, ht⟩
      · have hr := (raster i).mpr hd
        obtain ⟨f, b, n, -, -, hn, -⟩ := Otg.rasterDue_iff.mp hd
        cases hx : s.otg.raster with
        | stopped => simp [hx, nextRaster] at hn
        | blanking q begun =>
          rw [hx] at hn
          rcases nextRaster_blanking.mp hn with ⟨-, -, rfl, -⟩ | ⟨-, -, rfl, -⟩ | ⟨-, rfl, -⟩ <;> exact hr
        | active r ended =>
          rw [hx] at hn
          rcases nextRaster_active.mp hn with ⟨-, rfl, -⟩ | ⟨-, -, rfl, -⟩ | ⟨-, -, rfl, -⟩ <;> exact hr
      · obtain ⟨p, hpulse, ⟨hs, ho, rfl⟩ | ⟨hs, he, ho, rfl⟩⟩ := Otg.pulseDue_iff.mp hd
        · exact ⟨p, hpulse, hs, ho⟩
        · exact ⟨p, hpulse, hs, he, ho⟩
  constructor
  · rintro ⟨i, hi⟩
    cases hd : s.dueCommand with
    | none => exact absurd ((iff i).mp hi) (State.dueCommand_none hd i)
    | some j => exact ⟨j, (iff j).mpr (State.dueCommand_some hd), by rw [step_of_idle hp hr, hd]⟩
  · intro hno
    have hd : s.dueCommand = none := by
      cases hd : s.dueCommand with
      | none => rfl
      | some j => exact absurd ((iff j).mpr (State.dueCommand_some hd)) (hno j)
    refine ⟨s.tick, by rw [step_of_idle hp hr, hd], rfl, fun c => ?_, fun c => ?_, fun x => ?_, fun f hf => ?_, fun c => ?_, ?_⟩
    · cases c <;> rfl
    · cases c <;> rfl
    · have hbus : s.tick.bus x = (s.bus x).tick := by cases x <;> rfl
      have hphase : ∀ p : Phase, p.tick = match p with | .waiting n => .waiting (n - 1) | .retry n => .retry (n - 1) | p => p :=
        fun p => by cases p <;> rfl
      rw [hbus, BusState.tick]
      simp only [hphase] <;> rfl
    · show (match s.otg.raster, s.otg.format with | .stopped, _ => _ | _, some f => _ | _, none => _) = _
      rw [hf]
      cases hx : s.otg.raster <;> simp [o]
    · exact Quad.get_tab _ c
    · exact ⟨rfl, rfl, rfl, rfl, rfl, rfl, rfl, rfl, rfl, rfl, rfl, rfl, rfl, rfl, rfl, hp⟩

end Sys2Proof.Machine
end

section
/-!
PROOF. The Frame Store Arbiter (chapter 09): what is presented, who wins an opportunity, one turn of the wheel, and the table
of SET_ARBITER.
-/

namespace Sys2Proof.Machine

/-! ### Presented requests (R151, R152) -/

theorem Composer.windowOf_lines (k : Composer) (secondary : Bool) :
    (k.windowOf secondary).lines = if secondary then k.rs.lines else k.rp.lines := by
  cases secondary <;> rfl

theorem State.presented_read (s : State) (secondary : Bool) :
    s.presented (if secondary then .rs else .rp) = s.presentedRead secondary := by
  cases secondary <;> rfl

/-- Settles O27: the oldest line of a port, the first waiting line of a window. -/
theorem presentedRequests : Obligations.PresentedRequests := by
  unfold Obligations.PresentedRequests
  refine ⟨fun s c => ?_, ?_, fun s secondary hno => ?_⟩
  · simp [State.presented, State.presentedWrite, and_assoc]
  · intro s secondary pre post l hl hw hpre urgent
    have hfind : (pre ++ l :: post).find? (fun l => l.fetch == .waiting) = some l := by
      have hnone : pre.find? (fun l => l.fetch == .waiting) = none :=
        List.find?_eq_none.mpr fun m hm => by simpa using hpre m hm
      simp [List.find?_append, hnone, hw]
    rw [State.presented_read, State.presentedRead, Composer.windowOf_lines, hl, hfind]
    have hurgent : s.otg.raster.urgent l.line = urgent := by
      unfold urgent Raster.urgent
      cases s.otg.raster <;> rfl
    rw [Option.map_some, hurgent]
  · have hfind : (s.composer.windowOf secondary).lines.find? (fun l => l.fetch == .waiting) = none := by
      rw [Composer.windowOf_lines]
      exact List.find?_eq_none.mpr fun m hm => by simpa using hno m hm
    rw [State.presented_read, State.presentedRead, hfind]
    rfl

/-! ### The winner (R154 to R156) -/

section Winner

variable {s : State}

/-- An entry matches the request its client presents, with qualifier URGENT only an urgent one (R154). -/
theorem State.matchEntry_iff {e : ArbEntry} {r : Presented} :
    s.matchEntry e = some r ↔ s.presented e.client = some r ∧ (e.qualifier = .urgent → r.urgent = true) := by
  unfold State.matchEntry
  cases s.presented e.client with
  | none => simp
  | some q =>
    cases e.qualifier with
    | any => simp
    | urgent =>
      simp only [true_imp_iff, Option.ite_none_right_eq_some, Option.some.injEq]
      constructor
      · rintro ⟨hu, rfl⟩
        exact ⟨rfl, hu⟩
      · rintro ⟨rfl, hu⟩
        exact ⟨hu, rfl⟩

theorem State.matchEntry_none {e : ArbEntry} (h : ∀ r, ¬ (s.presented e.client = some r ∧ (e.qualifier = .urgent → r.urgent = true))) :
    s.matchEntry e = none := by
  cases hm : s.matchEntry e with
  | none => rfl
  | some r => exact absurd (State.matchEntry_iff.mp hm) (h r)

theorem State.wheelWinner_none (h : ∀ e, s.arbiter.table.wheel[s.arbiter.wheelPtr]? = some e → s.matchEntry e = none) :
    s.wheelWinner = none := by
  unfold State.wheelWinner
  cases hw : s.arbiter.table.wheel[s.arbiter.wheelPtr]? with
  | none => rfl
  | some e => exact h e hw

/-- The first element with a result gives it. -/
theorem findSome?_first {α β : Type} {f : α → Option β} {pre post : List α} {x : α} {y : β} (hpre : ∀ a ∈ pre, f a = none)
    (hx : f x = some y) : (pre ++ x :: post).findSome? f = some y := by
  rw [List.findSome?_append, List.findSome?_eq_none_iff.mpr hpre, List.findSome?_cons, hx]
  rfl

/-- Place `j` is examined before place `k` in the round-robin step that begins at `p` (R156). -/
def examinedBefore (p j k : Nat) : Prop := if p ≤ k then p ≤ j ∧ j < k else p ≤ j ∨ j < k

theorem split_at {α : Type} {l : List α} {k : Nat} {a : α} (h : l[k]? = some a) : l = l.take k ++ a :: l.drop (k + 1) := by
  obtain ⟨hlt, rfl⟩ := List.getElem?_eq_some_iff.mp h
  rw [List.getElem_cons_drop, List.take_append_drop]

/-- The entries examined before the one at place `k`. -/
theorem rotated_split {xs : List ArbEntry} {p k : Nat} {e : ArbEntry} (h : xs[k]? = some e) :
    ∃ pre post, rotated p xs = pre ++ (e, k) :: post ∧ ∀ x ∈ pre, examinedBefore p x.2 k ∧ xs[x.2]? = some x.1 := by
  have hk : xs.zipIdx[k]? = some (e, k) := by simp [List.getElem?_zipIdx, h]
  have here : ∀ {i : Nat} {x : ArbEntry × Nat}, xs.zipIdx[i]? = some x → x.2 = i ∧ xs[x.2]? = some x.1 := by
    intro i x hx
    rw [List.getElem?_zipIdx] at hx
    obtain ⟨d, hd, rfl⟩ := Option.map_eq_some_iff.mp hx
    exact ⟨Nat.zero_add i, by simpa using hd⟩
  unfold rotated examinedBefore
  by_cases hpk : p ≤ k
  · have hat : (xs.zipIdx.drop p)[k - p]? = some (e, k) := by
      rw [List.getElem?_drop, Nat.add_sub_cancel' hpk]
      exact hk
    refine ⟨(xs.zipIdx.drop p).take (k - p), (xs.zipIdx.drop p).drop (k - p + 1) ++ xs.zipIdx.take p, ?_, fun x hx => ?_⟩
    · rw [← List.cons_append, ← List.append_assoc, ← split_at hat]
    · obtain ⟨i, hi⟩ := List.mem_iff_getElem?.mp hx
      rw [List.getElem?_take] at hi
      split at hi
      next hlt =>
        rw [List.getElem?_drop] at hi
        obtain ⟨hxi, hget⟩ := here hi
        rw [if_pos hpk]
        exact ⟨by omega, hget⟩
      next => cases hi
  · have hat : (xs.zipIdx.take p)[k]? = some (e, k) := by
      rw [List.getElem?_take, if_pos (by omega)]
      exact hk
    refine ⟨xs.zipIdx.drop p ++ (xs.zipIdx.take p).take k, (xs.zipIdx.take p).drop (k + 1), ?_, fun x hx => ?_⟩
    · rw [List.append_assoc, ← split_at hat]
    · rw [if_neg hpk]
      rcases List.mem_append.mp hx with hx | hx
      · obtain ⟨i, hi⟩ := List.mem_iff_getElem?.mp hx
        rw [List.getElem?_drop] at hi
        obtain ⟨hxi, hget⟩ := here hi
        exact ⟨.inl (by omega), hget⟩
      · obtain ⟨i, hi⟩ := List.mem_iff_getElem?.mp hx
        rw [List.take_take, List.getElem?_take] at hi
        split at hi
        next hlt =>
          obtain ⟨hxi, hget⟩ := here hi
          exact ⟨.inr (by omega), hget⟩
        next => cases hi

theorem State.winner_wheel {e : ArbEntry} {r : Presented} (he : s.arbiter.table.wheel[s.arbiter.wheelPtr]? = some e)
    (hm : s.matchEntry e = some r) : s.winner = (some r, s.arbiter.robinPtr) := by
  have hw : s.wheelWinner = some r := by rw [State.wheelWinner, he, Option.bind_some, hm]
  simp only [State.winner, hw]

theorem State.winner_priority {pre post : List ArbEntry} {e : ArbEntry} {r : Presented} (hw : s.wheelWinner = none)
    (hp : s.arbiter.table.priority = pre ++ e :: post) (hpre : ∀ d ∈ pre, s.matchEntry d = none) (hm : s.matchEntry e = some r) :
    s.winner = (some r, s.arbiter.robinPtr) := by
  have hpri : s.priorityWinner = some r := by rw [State.priorityWinner, hp, findSome?_first hpre hm]
  simp only [State.winner, hw, hpri]

theorem State.winner_robin {k : Nat} {e : ArbEntry} {r : Presented} (hw : s.wheelWinner = none) (hp : s.priorityWinner = none)
    (he : s.arbiter.table.robin[k]? = some e) (hm : s.matchEntry e = some r)
    (hbefore : ∀ j d, examinedBefore s.arbiter.robinPtr j k → s.arbiter.table.robin[j]? = some d → s.matchEntry d = none) :
    s.winner = (some r, nextPtr k s.arbiter.table.robin.length) := by
  obtain ⟨pre, post, hsplit, hpre⟩ := rotated_split (p := s.arbiter.robinPtr) he
  have hrobin : s.robinWinner = some (r, k) := by
    rw [State.robinWinner, hsplit]
    refine findSome?_first (fun x hx => ?_) (by simp [hm])
    obtain ⟨hb, hget⟩ := hpre x hx
    rw [hbefore _ _ hb hget]
    rfl
  simp only [State.winner, hw, hp, hrobin]

theorem State.winner_none (hw : s.wheelWinner = none) (hp : s.priorityWinner = none)
    (hr : ∀ d ∈ s.arbiter.table.robin, s.matchEntry d = none) : s.winner = (none, s.arbiter.robinPtr) := by
  have hrobin : s.robinWinner = none := by
    rw [State.robinWinner, List.findSome?_eq_none_iff]
    intro x hx
    have hin : x ∈ s.arbiter.table.robin.zipIdx := (List.mem_append.mp hx).elim List.mem_of_mem_drop List.mem_of_mem_take
    rw [hr x.1 (List.fst_mem_of_mem_zipIdx hin)]
    rfl
  simp only [State.winner, hw, hp, hrobin]

/-- The wheel pointer after an opportunity (R155). -/
theorem Arbiter.turnWheel_eq (a : Arbiter) : a.turnWheel = { a with
    wheelPtr := if a.table.wheel = [] then a.wheelPtr else nextPtr a.wheelPtr a.table.wheel.length } := by
  unfold Arbiter.turnWheel
  cases a.table.wheel <;> rfl

/-- Some client presents a request while the channel is FREE. -/
theorem exec_grantOpportunity {client : Client} {req : Presented} (hc : s.arbiter.channel = .free)
    (hp : s.presented client = some req) : exec .grantOpportunity s = .next s.takeOpportunity := by
  show Host.Outcome.next (if s.opportunity = true then s.takeOpportunity else s) = _
  rw [if_pos (State.opportunity_iff.mpr ⟨hc, client, req, hp⟩)]

end Winner

/-- Settles O28: the winner by the wheel, the priority list, the round-robin list, or none. -/
theorem grantDecidedByTable : Obligations.GrantDecidedByTable := by
  unfold Obligations.GrantDecidedByTable
  intro s client req hc hreq a matching next wheelPtr marked grants before
  have none_of : ∀ {e}, (∀ r, ¬ matching e r) → s.matchEntry e = none := fun h => State.matchEntry_none h
  have grant : ∀ {r : Presented} {n : Nat}, s.winner = (some r, n) → grants r n := by
    intro r n hwin
    have taken : s.takeOpportunity = State.markGranted { s with
        arbiter := { a with channel := .busy r.grant, wheelPtr := wheelPtr, robinPtr := n } } r.grant := by
      simp only [State.takeOpportunity, hwin, Arbiter.turnWheel_eq] <;> rfl
    refine (exec_grantOpportunity hc hreq).trans (congrArg Host.Outcome.next (taken.trans ?_))
    cases r.grant with
    | write c => rfl
    | read secondary frame line => cases secondary <;> rfl
  refine ⟨fun e r he hm => grant (State.winner_wheel he (State.matchEntry_iff.mpr hm)), fun hw => ?_⟩
  have hwheel : s.wheelWinner = none := State.wheelWinner_none fun e he => none_of fun r => hw e r he
  refine ⟨fun pre e post r hpri hpre hm => grant (State.winner_priority hwheel hpri (fun d hd => none_of (hpre d hd))
    (State.matchEntry_iff.mpr hm)), fun hpri => ?_⟩
  have hpriority : s.priorityWinner = none := List.findSome?_eq_none_iff.mpr fun d hd => none_of (hpri d hd)
  refine ⟨fun k e r he hm hbefore => grant (State.winner_robin hwheel hpriority he (State.matchEntry_iff.mpr hm)
    fun j d hb hd => none_of fun q => hbefore j d q hb hd), fun hrobin => ?_⟩
  rw [exec_grantOpportunity hc hreq]
  simp only [State.takeOpportunity, State.winner_none hwheel hpriority fun d hd => none_of (hrobin d hd), Arbiter.turnWheel_eq]
  rfl

/-! ### One turn of the wheel (R155) -/

/-- The pointer steps through its list in turn. -/
theorem nextPtr_eq_mod {k n : Nat} (h : k < n) : nextPtr k n = (k + 1) % n := by
  unfold nextPtr
  split
  next hlt => rw [Nat.mod_eq_of_lt hlt]
  next hge => rw [show k + 1 = n by omega, Nat.mod_self]

theorem State.takeOpportunity_arbiter (s : State) :
    s.takeOpportunity.arbiter.wheelPtr = s.arbiter.turnWheel.wheelPtr
      ∧ ∀ r n, s.winner = (some r, n) → s.takeOpportunity.arbiter.channel = .busy r.grant := by
  have marked : ∀ (t : State) (g : Grant), (t.markGranted g).arbiter = t.arbiter := by
    intro t g
    cases g <;> rfl
  unfold State.takeOpportunity
  dsimp only
  split
  next r hr =>
    rw [marked]
    exact ⟨rfl, fun q n h => by rw [h] at hr; cases hr; rfl⟩
  next hr => exact ⟨rfl, fun q n h => by rw [h] at hr; cases hr⟩

/-- Settles O29: the pointer meets the client's entry within one turn, and the wheel goes first. -/
theorem wheelTurnGrantsClient : Obligations.WheelTurnGrantsClient := by
  unfold Obligations.WheelTurnGrantsClient
  intro seq client table hin hstart hall hnext
  obtain ⟨k, hk⟩ := List.mem_iff_getElem?.mp hin
  have hklt : k < table.wheel.length := (List.getElem?_eq_some_iff.mp hk).1
  have hne : table.wheel ≠ [] := List.ne_nil_of_length_pos (Nat.zero_lt_of_lt hklt)
  have taken : ∀ i, exec .grantOpportunity (seq i) = .next (seq i).takeOpportunity := by
    intro i
    obtain ⟨-, hc, hp⟩ := hall i
    obtain ⟨r, hr⟩ := Option.isSome_iff_exists.mp hp
    exact exec_grantOpportunity hc hr
  have pointer : ∀ i, (seq i).arbiter.wheelPtr = ((seq 0).arbiter.wheelPtr + i) % table.wheel.length := by
    intro i
    induction i with
    | zero => exact (Nat.mod_eq_of_lt hstart).symm
    | succ i ih =>
      have hlt : (seq i).arbiter.wheelPtr < table.wheel.length := by
        rw [ih]
        exact Nat.mod_lt _ (Nat.zero_lt_of_lt hklt)
      rw [hnext i _ (taken i), (State.takeOpportunity_arbiter _).1, Arbiter.turnWheel_eq]
      dsimp only
      rw [(hall i).1, if_neg hne, nextPtr_eq_mod hlt, ih, Nat.mod_add_mod, Nat.add_assoc]
  obtain ⟨i, hi, hmeets⟩ : ∃ i, i < table.wheel.length ∧ (seq i).arbiter.wheelPtr = k := by
    have hpos := Nat.zero_lt_of_lt hklt
    by_cases hle : (seq 0).arbiter.wheelPtr ≤ k
    · refine ⟨k - (seq 0).arbiter.wheelPtr, by omega, ?_⟩
      rw [pointer, Nat.add_sub_cancel' hle, Nat.mod_eq_of_lt hklt]
    · refine ⟨k + table.wheel.length - (seq 0).arbiter.wheelPtr, by omega, ?_⟩
      rw [pointer, Nat.add_sub_cancel' (by omega), Nat.add_mod_right, Nat.mod_eq_of_lt hklt]
  obtain ⟨htable, -, hp⟩ := hall i
  obtain ⟨r, hr⟩ := Option.isSome_iff_exists.mp hp
  refine ⟨i, r, _, hi, hr, taken i, (State.takeOpportunity_arbiter _).2 r (seq i).arbiter.robinPtr ?_⟩
  exact State.winner_wheel (by rw [htable, hmeets]; exact hk) (State.matchEntry_iff.mpr ⟨hr, fun h => by simp at h⟩)

/-! ### The table of SET_ARBITER (R160, R161) -/

theorem entryOf_code (e : ArbEntry) : entryOf e.code = some e := by
  obtain ⟨client, qualifier⟩ := e
  cases client with
  | w c => cases c <;> cases qualifier <;> rfl
  | rp => cases qualifier <;> rfl
  | rs => cases qualifier <;> rfl

/-- Bits 4 to 7 of an entry's byte. -/
def Qualifier.num : Qualifier → Nat
  | .any => 0
  | .urgent => 1

/-- A byte that names a client and a qualifier (Table 31). -/
theorem toNat_of_entryOf {b : Byte} {e : ArbEntry} (h : entryOf b = some e) :
    b.toNat % 16 ≤ 5 ∧ b.toNat / 16 ≤ 1 ∧ e.client.code.toNat = b.toNat % 16
      ∧ e.qualifier.num = b.toNat / 16 := by
  unfold entryOf at h
  dsimp only at h
  split at h
  next c q hc hq =>
    cases h
    have client : b.toNat % 16 ≤ 5 ∧ c.code.toNat = b.toNat % 16 := by
      revert hc
      generalize b.toNat % 16 = n
      intro hc
      split at hc <;> cases hc <;> exact ⟨by decide, rfl⟩
    have qualifier : b.toNat / 16 ≤ 1 ∧ q.num = b.toNat / 16 := by
      revert hq
      generalize b.toNat / 16 = n
      intro hq
      split at hq <;> cases hq <;> exact ⟨by decide, rfl⟩
    exact ⟨client.1, qualifier.1, client.2, qualifier.2⟩
  next => cases h

/-- A byte that names a client and a qualifier is their code. -/
theorem code_of_entryOf {b : Byte} {e : ArbEntry} (h : entryOf b = some e) : e.code = b := by
  obtain ⟨-, -, hclient, hqualifier⟩ := toNat_of_entryOf h
  have hcode : e.code.toNat = e.client.code.toNat + 16 * e.qualifier.num := by
    obtain ⟨client, qualifier⟩ := e
    cases client with
    | w c => cases c <;> cases qualifier <;> rfl
    | rp => cases qualifier <;> rfl
    | rs => cases qualifier <;> rfl
  refine BitVec.eq_of_toNat_eq ?_
  rw [hcode, hclient, hqualifier]
  omega

theorem entryOf_bad {b : Byte} (h : 5 < b.toNat % 16 ∨ 1 < b.toNat / 16) : entryOf b = none := by
  cases he : entryOf b with
  | none => rfl
  | some e =>
    obtain ⟨hclient, hqualifier, -, -⟩ := toNat_of_entryOf he
    omega

/-- The entries of some bytes are those whose codes the bytes are. -/
theorem entriesOf_iff {bytes : List Byte} {es : List ArbEntry} : entriesOf bytes = some es ↔ es.map ArbEntry.code = bytes := by
  induction bytes generalizing es with
  | nil => simp [entriesOf, eq_comm]
  | cons b rest ih =>
    constructor
    · intro h
      unfold entriesOf at h
      split at h
      next x xs hx hxs =>
        cases h
        rw [List.map_cons, code_of_entryOf hx, ih.mp hxs]
      next => cases h
    · intro h
      cases es with
      | nil => simp at h
      | cons e es =>
        obtain ⟨rfl, hrest⟩ := List.cons.inj h
        simp only [entriesOf, entryOf_code, ih.mpr hrest]

/-- The table of a request is the one whose codes are the counted bytes. -/
theorem arbTableOf_iff {b : ArbiterBody} {t : ArbTable} : arbTableOf b = some t ↔
    t.wheel.map ArbEntry.code = b.wheel.take (arbCounts b).1 ∧ t.priority.map ArbEntry.code = b.priority.take (arbCounts b).2.1
      ∧ t.robin.map ArbEntry.code = b.robin.take (arbCounts b).2.2 := by
  simp only [← entriesOf_iff]
  unfold arbTableOf
  constructor
  · intro h
    split at h
    next w p r hw hp hr =>
      cases h
      exact ⟨hw, hp, hr⟩
    next => cases h
  · rintro ⟨hw, hp, hr⟩
    rw [hw, hp, hr]

section Table

variable {s : State} {b : ArbiterBody} {tag : Byte}

theorem exec_setArbiter (ha : s.canAccept) (hm : s.mode ≠ .booting) (tag : Byte) (b : ArbiterBody) :
    exec (.setArbiter tag b) s = .next (s.taken.takeArbiter tag b) :=
  congrArg Host.Outcome.next (State.acceptLive_ok ha hm 0x08 tag _)

theorem State.takeArbiter_refused (h : ∀ t, arbTableOf b = some t → t.servesAll ≠ true) :
    s.takeArbiter tag b = s.reply 0x08 tag .badField := by
  unfold State.takeArbiter
  split
  · rfl
  next t ht => rw [if_neg (h t ht)]

theorem State.takeArbiter_ok {t : ArbTable} (h : arbTableOf b = some t) (hs : t.servesAll = true) :
    s.takeArbiter tag b = (s.reply 0x08 tag .ok
      [byteOf (arbCounts b).1, byteOf (arbCounts b).2.1, byteOf (arbCounts b).2.2, flagByte (arbClamped b)]).setTable t := by
  simp only [State.takeArbiter, h, hs, ↓reduceIte]

end Table

/-- Settles O30: refused where no table or none that serves every client is carried; taken by the mode otherwise. -/
theorem setArbiterTakesTable : Obligations.SetArbiterTakesTable := by
  unfold Obligations.SetArbiterTakesTable
  intro s tag b nw np nr ha hm hw hp hr clamped counted refused
  have counts : arbCounts b = (nw, np, nr) := by rw [hw, hp, hr]; rfl
  have refuse : (∀ t, arbTableOf b = some t → t.servesAll ≠ true) → refused := by
    intro h
    show exec _ s = _
    rw [exec_setArbiter ha hm, State.takeArbiter_refused h, State.taken_reply]
  have codes : ∀ {t}, arbTableOf b = some t → counted = t.entries.map ArbEntry.code := by
    intro t ht
    obtain ⟨hw, hp, hr⟩ := arbTableOf_iff.mp ht
    rw [counts] at hw hp hr
    simp only [ArbTable.entries, List.map_append, hw, hp, hr, counted]
  refine ⟨fun e he hbad => refuse fun t ht => ?_, fun k hk hnone => refuse fun t ht hserves => ?_, ?_⟩
  · rw [codes ht] at he
    obtain ⟨x, -, rfl⟩ := List.mem_map.mp he
    have := entryOf_code x
    rw [entryOf_bad hbad] at this
    cases this
  · obtain ⟨client, hclient⟩ : ∃ client : Client, (ArbEntry.code ⟨client, .any⟩).toNat = k := by
      match k, hk with
      | 0, _ => exact ⟨.w .c0, rfl⟩
      | 1, _ => exact ⟨.w .c1, rfl⟩
      | 2, _ => exact ⟨.w .c2, rfl⟩
      | 3, _ => exact ⟨.w .c3, rfl⟩
      | 4, _ => exact ⟨.rp, rfl⟩
      | 5, _ => exact ⟨.rs, rfl⟩
    refine hnone (ArbEntry.code ⟨client, .any⟩) ?_ hclient
    rw [codes ht]
    exact List.mem_map_of_mem (ArbTable.servesAll_iff.mp hserves client)
  · intro table hwheel hpriority hrobin hserves answered
    have ht : arbTableOf b = some table := arbTableOf_iff.mpr (by rw [counts]; exact ⟨hwheel, hpriority, hrobin⟩)
    have hclamped : flagByte (arbClamped b) = if clamped then 1 else 0 := by
      simp [flagByte, arbClamped, clamped, or_assoc]
    have hok : exec (.setArbiter tag b) s = .next (answered.setTable table) := by
      rw [exec_setArbiter ha hm, State.takeArbiter_ok ht (ArbTable.servesAll_iff.mpr hserves), State.taken_reply, counts, hclamped]
    refine ⟨fun hc => ?_, fun hrun => ?_⟩
    · rw [hok, State.setTable, if_neg (c := answered.mode = .run) (fun h => by cases hc.symm.trans h)]
      rfl
    · rw [hok, State.setTable, if_pos (c := answered.mode = .run) hrun]
      rfl

end Sys2Proof.Machine
end

section
/-!
PROOF. The samples of a line (R93 to R98): a line reads no sample outside the rows and columns its read returned, and the
completion of a read keeps them while their line is there (R143, R150).
-/

namespace Sys2Proof.Machine

/-! ### What a line reads (R94, R95, R98) -/

theorem Lattice.index_mono (x : Lattice) {j k : Nat} (h : j ≤ k) : x.index j ≤ x.index k := by
  have hmul : j * x.step ≤ k * x.step := Nat.mul_le_mul_right _ h
  refine Nat.div_le_div_right ?_
  unfold Lattice.coord
  omega

/-- Values that agree where a place is read give the same result. -/
theorem Lattice.along_congr {x : Lattice} {v w : Nat → Nat} {j : Nat} (h : ∀ k ∈ x.rowsRead j, v k = w k) :
    x.along v j = x.along w j := by
  unfold Lattice.rowsRead at h
  unfold Lattice.along
  by_cases he : x.edge ≤ x.index j
  · rw [if_pos he] at h
    rw [if_pos he, if_pos he]
    exact h _ (by rw [Nat.min_eq_left he]; exact List.mem_singleton_self _)
  · rw [if_neg he] at h
    rw [if_neg he, if_neg he, h _ List.mem_cons_self, h _ (List.mem_cons_of_mem _ List.mem_cons_self)]

/-- The columns read for a place of the line lie among those of the line. -/
theorem Lattice.rowsRead_columns {x : Lattice} {n j c : Nat} (h0 : x.index 0 ≤ x.edge) (hj : j < n) (hc : c ∈ x.rowsRead j) :
    (x.columnsRead n).1 ≤ c ∧ c < (x.columnsRead n).1 + (x.columnsRead n).2 := by
  have hlo := x.index_mono (Nat.zero_le j)
  have hhi := x.index_mono (Nat.le_sub_one_of_lt hj)
  unfold Lattice.rowsRead at hc
  unfold Lattice.columnsRead
  dsimp only
  split at hc
  next he =>
    obtain rfl := List.mem_singleton.mp hc
    omega
  next he =>
    rcases List.mem_cons.mp hc with rfl | hc
    · omega
    · obtain rfl := List.mem_singleton.mp hc
      omega

/-- The span of a row among those of some rows. -/
theorem find_span {row : Nat} {rows : List Nat} {span : Nat → Span} (hspan : ∀ r, (span r).row = r) (h : row ∈ rows) :
    (rows.map span).find? (fun s => s.row == row) = some (span row) := by
  induction rows with
  | nil => cases h
  | cons r rest ih =>
    rw [List.map_cons, List.find?_cons, hspan]
    by_cases hr : r = row
    · simp [hr]
    · rw [beq_eq_false_iff_ne.mpr hr]
      exact ih ((List.mem_cons.mp h).resolve_left (Ne.symm hr))

/-- A sample that a line reads is the one stored (R98). -/
theorem Slot.sampleIn_readSpans (x : Slot) (p : Plane) {cols rows : Lattice} {n r row column : Nat} (hrow : row ∈ rows.rowsRead r)
    (hlo : (cols.columnsRead n).1 ≤ column) (hhi : column < (cols.columnsRead n).1 + (cols.columnsRead n).2) :
    sampleIn (x.readSpans p cols rows n r) row column = (x.sample p row column).toNat := by
  unfold sampleIn Slot.readSpans
  rw [find_span (fun _ => rfl) hrow]
  dsimp only
  rw [if_neg (by omega), List.getElem?_map, List.getElem?_range (by omega), Option.map_some, Option.getD_some,
    Nat.add_sub_cancel' hlo]

/-- The result at a place of the line is the same from the rows returned as from the samples stored. -/
theorem Slot.resample_readSpans (x : Slot) (p : Plane) {cols rows : Lattice} {n j : Nat} (r : Nat) (h0 : cols.index 0 ≤ cols.edge)
    (hj : j < n) : resample cols rows (sampleIn (x.readSpans p cols rows n r)) j r
      = resample cols rows (fun row column => (x.sample p row column).toNat) j r :=
  Lattice.along_congr fun _ hrow => Lattice.along_congr fun _ hcolumn => by
    obtain ⟨hlo, hhi⟩ := Lattice.rowsRead_columns h0 hj hcolumn
    exact x.sampleIn_readSpans p hrow hlo hhi

/-! ### The completion of a read (R143, R150) -/

/-- Lines of other requests stay as they are. -/
theorem map_moved_absent {lines : List WindowLine} {frame : Word} {line : Nat}
    (h : ∀ l ∈ lines, ¬ (l.frame = frame ∧ l.line = line)) (old new : Fetch) :
    (lines.map fun l => if l.frame = frame ∧ l.line = line ∧ l.fetch = old then { l with fetch := new } else l) = lines :=
  (List.map_congr_left fun l hl => if_neg fun hc => h l hl ⟨hc.1, hc.2.1⟩).trans (List.map_id _)

theorem Window.moveFetch_absent {w : Window} {frame : Word} {line : Nat} (h : ∀ l ∈ w.lines, ¬ (l.frame = frame ∧ l.line = line))
    (old new : Fetch) : w.moveFetch frame line old new = w := by
  rw [Window.moveFetch, map_moved_absent h]

/-- The one line of a request moves from one state to another. -/
theorem Window.moveFetch_only {w : Window} {frame : Word} {line : Nat} {old : Fetch} {pre post : List WindowLine}
    (hw : w.lines = pre ++ ⟨frame, line, old⟩ :: post) (h : ∀ l ∈ pre ++ post, ¬ (l.frame = frame ∧ l.line = line)) (new : Fetch) :
    w.moveFetch frame line old new = { w with lines := pre ++ ⟨frame, line, new⟩ :: post } := by
  have hpre := map_moved_absent (fun l hl => h l (List.mem_append_left _ hl)) old new
  have hpost := map_moved_absent (fun l hl => h l (List.mem_append_right _ hl)) old new
  rw [Window.moveFetch, hw, List.map_append, List.map_cons, hpre, hpost]
  simp

/-- A window put in its own place. -/
theorem Composer.setWindow_same (k : Composer) (secondary : Bool) : k.setWindow secondary (k.windowOf secondary) = k := by
  cases secondary <;> rfl

theorem State.completeTransfer_read {s : State} {secondary : Bool} {frame : Word} {line : Nat}
    (h : s.arbiter.channel = .busy (.read secondary frame line)) :
    s.completeTransfer = State.readDone { s with arbiter := { s.arbiter with channel := .free } } secondary frame line := by
  simp only [State.completeTransfer, h]

/-- Settles O31: what a line reads lies in what its read returned; the completion keeps that in the one line it was for. -/
theorem readCompletionKeepsRows : Obligations.ReadCompletionKeepsRows := by
  unfold Obligations.ReadCompletionKeepsRows
  refine ⟨?_, ?_⟩
  · intro x g k f wo r hluma hchroma stored line
    have luma : line.luma = (List.range wo).map fun j =>
        corrLuma k.g (resample (lumaColumns g f) (lumaRows g f) (stored .y) j r) :=
      List.map_congr_left fun j hj => by
        show corrLuma k.g (resample _ _ (sampleIn (x.readLine g f wo r).luma) j r) = _
        rw [Slot.readLine, x.resample_readSpans .y r hluma (List.mem_range.mp hj)]
    refine ⟨luma, fun he => ⟨?_, ?_⟩, fun ho => ⟨if_neg (by omega), if_neg (by omega)⟩⟩
    · refine (if_pos he).trans (List.map_congr_left fun j hj => ?_)
      rw [Slot.readLine, if_pos he, x.resample_readSpans .u (r / 2) hchroma (List.mem_range.mp hj)]
    · refine (if_pos he).trans (List.map_congr_left fun j hj => ?_)
      rw [Slot.readLine]
      dsimp only
      rw [if_pos he, x.resample_readSpans .v (r / 2) hchroma (List.mem_range.mp hj)]
  · intro s secondary frame line hc w freed
    have done : exec .transferCompletion s = .next (freed.readDone secondary frame line) :=
      congrArg Host.Outcome.next (State.completeTransfer_read hc)
    have window : s.composer.windowOf secondary = w := by cases secondary <;> rfl
    refine ⟨fun h => ?_, fun pre post r e x f o hw h hr he hx hf ho => ?_⟩
    · rw [done]
      refine congrArg Host.Outcome.next ?_
      unfold State.readDone
      split
      · rfl
      · show ({ freed with composer := s.composer.setWindow secondary ((s.composer.windowOf secondary).moveFetch _ _ _ _) } : State) = _
        rw [Window.moveFetch_absent (by rw [window]; exact h), Composer.setWindow_same]
    · intro kept
      have entry : freed.zoom.current.bind (fun r => r.entryOf secondary) = some e := by
        show s.zoom.current.bind _ = _
        rw [hr]
        exact he
      have rows : freed.readRows e line = x.readLine e.geometry f o.wo line := by
        show (match (s.port e.camera).ring[e.slot]?, (s.port e.camera).format, s.otg.format with
          | some x, some f, some o => x.readLine e.geometry f o.wo line | _, _, _ => _) = _
        rw [hx, hf, ho]
      rw [done]
      refine congrArg Host.Outcome.next ?_
      have moved : (freed.composer.windowOf secondary).moveFetch frame line .inFlight
          (.complete (x.readLine e.geometry f o.wo line)) = kept := by
        show (s.composer.windowOf secondary).moveFetch frame line .inFlight _ = _
        rw [window, Window.moveFetch_only hw h]
      unfold State.readDone
      rw [entry]
      dsimp only
      rw [rows, moved]
      cases secondary <;> rfl

end Sys2Proof.Machine
end

section
/-!
PROOF. The geometry of a source (R87 to R92): crop size, origin and steps, and what bounds them.
-/

namespace Sys2Proof.Machine

/-! ### Rounded quotients -/

theorem evenDown_eq (n : Nat) : evenDown n = n - n % 2 := by
  unfold evenDown
  omega

/-- A rounded quotient that must reach a number has a dividend that does. -/
theorem roundedDiv_ge {n d q : Nat} (hd : 0 < d) : q ≤ (n + d / 2) / d ↔ q * d ≤ n + d / 2 := Nat.le_div_iff_mul_le hd

theorem roundedDiv_le {n d q : Nat} (hd : 0 < d) : (n + d / 2) / d ≤ q ↔ n + d / 2 < (q + 1) * d := by
  rw [← Nat.lt_succ_iff, Nat.div_lt_iff_lt_mul hd]

theorem clampNat_eq {lo hi : Nat} (h : lo ≤ hi) (x : Nat) : clampNat lo hi x = max lo (min hi x) := by
  unfold clampNat
  split
  · omega
  · split <;> omega

theorem clampInt_eq {lo hi : Int} (h : lo ≤ hi) (x : Int) : clampInt lo hi x = max lo (min hi x) := by
  unfold clampInt
  split
  · omega
  · split <;> omega

/-! ### Crop size (R87, R88) -/

theorem cropWidth_bounds {ws : Nat} (m z : Nat) (hws : 64 ≤ ws) (heven : ws % 2 = 0) :
    16 ≤ cropWidth ws m z ∧ cropWidth ws m z ≤ ws ∧ cropWidth ws m z % 2 = 0 := by
  rw [cropWidth, clampNat_eq (by omega), evenDown_eq]
  omega

/-- The crop height of a crop of at least 16 columns. -/
theorem cropHeight_ge {wc wo ho : Nat} (hwc : 16 ≤ wc) (hwo : 0 < wo) (hwo' : wo ≤ 3840) (hho : 360 ≤ ho) :
    2 ≤ cropHeight wc wo ho := by
  have hmul : 16 * 360 ≤ wc * ho := Nat.mul_le_mul hwc hho
  have : 2 ≤ (wc * ho + wo / 2) / wo := (roundedDiv_ge hwo).mpr (by omega)
  unfold cropHeight
  rw [evenDown_eq]
  omega

/-- The width the aspect branch takes is at least 16 columns, and less than the width it was taken for. -/
theorem aspectWidth_bounds {wc hs wo ho : Nat} (hhs : 64 ≤ hs) (heven : hs % 2 = 0) (hwo : 640 ≤ wo) (hho : 360 ≤ ho)
    (hho' : ho ≤ 2160) (h : hs < cropHeight wc wo ho) :
    16 ≤ evenDown ((hs * wo + ho / 2) / ho) ∧ evenDown ((hs * wo + ho / 2) / ho) ≤ wc := by
  have hmul : 64 * 640 ≤ hs * wo := Nat.mul_le_mul hhs hwo
  have hlow : 18 ≤ (hs * wo + ho / 2) / ho := (roundedDiv_ge (by omega)).mpr (by omega)
  have htall : hs + 2 ≤ (wc * ho + wo / 2) / wo := by
    unfold cropHeight at h
    rw [evenDown_eq] at h
    omega
  have hwide : (hs + 2) * wo ≤ wc * ho + wo / 2 := (roundedDiv_ge (by omega)).mp htall
  have hup : (hs * wo + ho / 2) / ho ≤ wc := (roundedDiv_le (by omega)).mpr (by rw [Nat.add_mul] at hwide; rw [Nat.add_mul]; omega)
  rw [evenDown_eq]
  omega

/-- A zoom up to the effective service maximum enlarges the crop eightfold at most, but for the rounding (entry 37). -/
theorem cropWidth_enlargement {ws m z wo : Nat} (hws : 64 ≤ ws) (hz : 0 < z) (hm : m ≤ z) (h : z * wo ≤ m * ws * 8) :
    wo ≤ 8 * cropWidth ws m z + 11 := by
  obtain ⟨q, hq⟩ : ∃ q, q = (ws * m + z / 2) / z := ⟨_, rfl⟩
  have hq' : ws * m + z / 2 < (q + 1) * z := (roundedDiv_le hz).mp (Nat.le_of_eq hq.symm)
  have hq8 : wo ≤ 8 * q + 3 := by
    by_contra hlt
    have hmul : z * (8 * q + 4) ≤ z * wo := Nat.mul_le_mul_left z (by omega)
    have hcomm : m * ws = ws * m := Nat.mul_comm _ _
    have hexpand : z * (8 * q + 4) = 8 * (q * z) + 4 * z := by ring
    have hsucc : (q + 1) * z = q * z + z := by ring
    omega
  have hws8 : wo ≤ 8 * ws := by
    refine Nat.le_of_mul_le_mul_left (Nat.le_trans h ?_) hz
    calc m * ws * 8 ≤ z * ws * 8 := Nat.mul_le_mul_right 8 (Nat.mul_le_mul_right ws hm)
      _ = z * (8 * ws) := by ring
  rw [cropWidth, clampNat_eq (by omega), evenDown_eq, ← hq]
  omega

/-! ### Origin (R90, R91) -/

/-- The clamped origin as written out. -/
theorem originClamped_eq {size part : Nat} (h : part ≤ size) (raw : Int) :
    (originClamped size part raw : Int) = max 0 (min (16 * ((size : Int) - part)) raw) := by
  unfold originClamped clampInt
  omega

theorem originClamped_inside {size part : Nat} (h : part ≤ size) (raw : Int) : originClamped size part raw + 16 * part ≤ 16 * size := by
  have := originClamped_eq h raw
  omega

/-- The parallax offset as written out. -/
theorem parallax_eq (p : Int) (d : Nat) : parallax p d = if d = 0 then 0 else
    max (-4096) (min 4096 (if p < 0 then -(((p.natAbs * 1000 + d / 2) / d : Nat) : Int)
      else (((p.natAbs * 1000 + d / 2) / d : Nat) : Int))) := by
  unfold parallax
  split
  · rfl
  · exact clampInt_eq (by omega) _

/-- The two branches of the crop size (R88). -/
theorem cropSize_cases (x : GeometryIn) :
    (cropHeight (cropWidth x.ws x.m x.z) x.wo x.ho ≤ x.hs ∧
      cropSize x = (cropWidth x.ws x.m x.z, cropHeight (cropWidth x.ws x.m x.z) x.wo x.ho)) ∨
    (x.hs < cropHeight (cropWidth x.ws x.m x.z) x.wo x.ho ∧ cropSize x = (evenDown ((x.hs * x.wo + x.ho / 2) / x.ho), x.hs)) := by
  unfold cropSize
  dsimp only
  split
  next h => exact .inl ⟨h, rfl⟩
  next h => exact .inr ⟨Nat.lt_of_not_le h, rfl⟩

/-- Settles O52: the two branches of the crop size, the clamp of the origin, and the enlargement. -/
theorem cropInsideActiveArea : Obligations.CropInsideActiveArea := by
  unfold Obligations.CropInsideActiveArea
  intro x hws hwsEven hhs hhsEven hm hz hwo hwo' hwoEven hho hho' hhoEven g
  obtain ⟨hlow, hupper, heven⟩ := cropWidth_bounds x.m x.z hws hwsEven
  have hhighEven : ∀ n, evenDown n % 2 = 0 := fun n => by rw [evenDown_eq]; omega
  have hsize : 16 ≤ g.wc ∧ g.wc ≤ x.ws ∧ g.wc % 2 = 0 ∧ 2 ≤ g.hc ∧ g.hc ≤ x.hs ∧ g.hc % 2 = 0 := by
    show 16 ≤ (cropSize x).1 ∧ (cropSize x).1 ≤ x.ws ∧ (cropSize x).1 % 2 = 0 ∧ 2 ≤ (cropSize x).2 ∧ (cropSize x).2 ≤ x.hs
      ∧ (cropSize x).2 % 2 = 0
    rcases cropSize_cases x with ⟨hfits, hc⟩ | ⟨htall, hc⟩ <;> rw [hc]
    · exact ⟨hlow, hupper, heven, cropHeight_ge hlow (by omega) hwo' hho, hfits, hhighEven _⟩
    · obtain ⟨hge, hle⟩ := aspectWidth_bounds hhs hhsEven hwo hho hho' htall
      exact ⟨hge, Nat.le_trans hle hupper, hhighEven _, by omega, Nat.le_refl _, hhsEven⟩
  obtain ⟨hwc, hwcUp, hwcEven, hhc, hhcUp, hhcEven⟩ := hsize
  refine ⟨hwc, hwcUp, hwcEven, hhc, hhcUp, hhcEven, originClamped_inside hwcUp _, originClamped_inside hhcUp _, ?_⟩
  intro even scaled wide high shift rawX rawY
  have hwide : cropWidth x.ws x.m x.z = wide := rfl
  have hhigh : cropHeight wide x.wo x.ho = high := rfl
  have hshift : ∀ p, parallax p x.d = shift p := fun p => parallax_eq p x.d
  have hrawX : originRaw x.ws g.wc x.cx (parallax x.px x.d) = rawX := by rw [hshift]; rfl
  have hrawY : originRaw x.hs g.hc x.cy (parallax x.py x.d) = rawY := by rw [hshift]; rfl
  have hx0 : (g.x0 : Int) = max 0 (min (16 * ((x.ws : Int) - g.wc)) rawX) := by
    rw [← hrawX]
    exact originClamped_eq hwcUp _
  have hy0 : (g.y0 : Int) = max 0 (min (16 * ((x.hs : Int) - g.hc)) rawY) := by
    rw [← hrawY]
    exact originClamped_eq hhcUp _
  have hedgeX : g.edgeX = decide ((g.x0 : Int) ≠ rawX) := by rw [← hrawX]; rfl
  have hedgeY : g.edgeY = decide ((g.y0 : Int) ≠ rawY) := by rw [← hrawY]; rfl
  have hcases : (high ≤ x.hs ∧ cropSize x = (wide, high)) ∨
      (x.hs < high ∧ cropSize x = (evenDown ((x.hs * x.wo + x.ho / 2) / x.ho), x.hs)) := cropSize_cases x
  refine ⟨fun hfits => ?_, fun htall => ?_, hx0, hy0, ?_, ?_, rfl, rfl, fun hmz hz8 => ?_⟩
  · obtain ⟨-, hc⟩ := hcases.resolve_right fun h => absurd h.1 (Nat.not_lt.mpr hfits)
    exact ⟨congrArg Prod.fst hc, congrArg Prod.snd hc⟩
  · obtain ⟨-, hc⟩ := hcases.resolve_left fun h => absurd h.1 (Nat.not_le.mpr htall)
    exact ⟨congrArg Prod.fst hc, congrArg Prod.snd hc⟩
  · rw [hedgeX, decide_eq_false_iff_not, not_not]
  · rw [hedgeY, decide_eq_false_iff_not, not_not]
  · exact cropWidth_enlargement hws (by omega) hmz hz8

end Sys2Proof.Machine
end

section
/-!
PROOF. The arithmetic of samples, sums, means and corrections (R23, R93 to R100, R106 to R116), and cameras in the order of
their index.
-/

namespace Sys2Proof.Machine

/-! ### Cameras in the order of their index -/

/-- The camera of lowest index that meets a test. -/
theorem Cam.find_first {p : Cam → Bool} {n : Cam} (hn : p n = true) (h : ∀ d, d.idx < n.idx → p d = false) :
    Cam.all.find? p = some n := by
  cases n with
  | c0 => simp [Cam.all, hn]
  | c1 => simp [Cam.all, hn, h .c0 (by decide)]
  | c2 => simp [Cam.all, hn, h .c0 (by decide), h .c1 (by decide)]
  | c3 => simp [Cam.all, hn, h .c0 (by decide), h .c1 (by decide), h .c2 (by decide)]

/-- The camera of highest index that meets a test. -/
theorem Cam.find_last {p : Cam → Bool} {n : Cam} (hn : p n = true) (h : ∀ d, n.idx < d.idx → p d = false) :
    Cam.allDown.find? p = some n := by
  cases n with
  | c3 => simp [Cam.allDown, hn]
  | c2 => simp [Cam.allDown, hn, h .c3 (by decide)]
  | c1 => simp [Cam.allDown, hn, h .c3 (by decide), h .c2 (by decide)]
  | c0 => simp [Cam.allDown, hn, h .c3 (by decide), h .c2 (by decide), h .c1 (by decide)]

theorem Cam.find_none {p : Cam → Bool} (h : ∀ d, p d = false) : Cam.all.find? p = none ∧ Cam.allDown.find? p = none :=
  ⟨List.find?_eq_none.mpr fun d _ => by simp [h d], List.find?_eq_none.mpr fun d _ => by simp [h d]⟩

theorem Port.configured_iff {p : Port} : p.configured = true ↔ p.format ≠ none ∧ p.cal ≠ none := by
  simp [Port.configured, Option.isSome_iff_ne_none]

/-! ### Interpolation and blending (R94, R100) -/

/-- A rounded weighted mean lies between its two values. -/
theorem weighted_between {a b f g : Nat} (h : f + g = 256) :
    min a b ≤ (a * g + b * f + 128) / 256 ∧ (a * g + b * f + 128) / 256 ≤ max a b := by
  have low : min a b * g + min a b * f ≤ a * g + b * f :=
    Nat.add_le_add (Nat.mul_le_mul_right _ (Nat.min_le_left _ _)) (Nat.mul_le_mul_right _ (Nat.min_le_right _ _))
  have high : a * g + b * f ≤ max a b * g + max a b * f :=
    Nat.add_le_add (Nat.mul_le_mul_right _ (Nat.le_max_left _ _)) (Nat.mul_le_mul_right _ (Nat.le_max_right _ _))
  rw [← Nat.mul_add, Nat.add_comm g f, h] at low high
  omega

theorem lerp_between {a b f : Nat} (h : f ≤ 256) : min a b ≤ lerp a b f ∧ lerp a b f ≤ max a b :=
  weighted_between (by omega)

theorem lerp_zero (a b : Nat) : lerp a b 0 = a := by
  unfold lerp
  omega

theorem blendSample_eq_lerp (w p q : Nat) : blendSample w p q = lerp p q w := by
  unfold blendSample lerp
  rw [Nat.add_comm (q * w)]

/-! ### Corrections (R99, R110, R116) -/

theorem corrChroma_eq (o : Int) (c : Nat) : (corrChroma o c : Int) = max 0 (min 255 (c + o)) := by
  unfold corrChroma
  rw [clampInt_eq (by omega)]
  omega

/-- What a relaxation step leaves of a distance (R116). -/
def relaxed (n : Nat) : Nat := n - max 1 (n / 4)

theorem relaxed_mono : Monotone relaxed := by
  intro m n h
  unfold relaxed
  omega

theorem relaxStep_distance (rest x : Int) : (relaxStep rest x - rest).natAbs = relaxed (x - rest).natAbs := by
  unfold relaxed
  rcases Int.lt_trichotomy x rest with h | rfl | h
  · have := relaxStep_below h
    omega
  · rw [relaxStep_rest]
    omega
  · have := relaxStep_above h
    omega

theorem Corr.relax_gain (k : Corr) : (k.relax.g : Int) = relaxStep 1024 k.g := by
  have := relaxStep_between 1024 k.g
  show ((relaxStep 1024 k.g).toNat : Int) = _
  omega

/-- The distances from identity after some relaxation steps. -/
theorem Corr.relax_iterate (n : Nat) (k : Corr) :
    (((Corr.relax^[n] k).g : Int) - 1024).natAbs = relaxed^[n] ((k.g : Int) - 1024).natAbs
      ∧ (Corr.relax^[n] k).oU.natAbs = relaxed^[n] k.oU.natAbs ∧ (Corr.relax^[n] k).oV.natAbs = relaxed^[n] k.oV.natAbs := by
  have offset : ∀ x, (relaxStep 0 x).natAbs = relaxed x.natAbs := by simpa using relaxStep_distance 0
  induction n generalizing k with
  | zero => exact ⟨rfl, rfl, rfl⟩
  | succ n ih =>
    obtain ⟨hg, hu, hv⟩ := ih k.relax
    rw [Function.iterate_succ_apply, Function.iterate_succ_apply, Function.iterate_succ_apply, Function.iterate_succ_apply]
    rw [hg, hu, hv, k.relax_gain, relaxStep_distance]
    exact ⟨rfl, congrArg _ (offset k.oU), congrArg _ (offset k.oV)⟩

/-- A distance that is at most one which some steps bring to 0 is at 0 after them. -/
theorem relaxed_iterate_zero {n m d : Nat} (h : relaxed^[n] m = 0) (hd : d ≤ m) : relaxed^[n] d = 0 :=
  Nat.le_zero.mp (h ▸ relaxed_mono.iterate n hd)

theorem Corr.Law.relax_identity {k : Corr} (h : k.Law) : ((Corr.relax^[28]) k).g = 1024 ∧ ((Corr.relax^[13]) k).oU = 0
    ∧ ((Corr.relax^[13]) k).oV = 0 ∧ (Corr.relax^[28]) k = ⟨1024, 0, 0, false⟩ := by
  obtain ⟨⟨hg1, hg2⟩, hu, hv⟩ := h
  have gain : ((Corr.relax^[28]) k).g = 1024 := by
    have := (Corr.relax_iterate 28 k).1
    rw [relaxed_iterate_zero (m := 1023) (by decide) (by omega)] at this
    omega
  have offsets : ∀ n, relaxed^[n] 32 = 0 → ((Corr.relax^[n]) k).oU = 0 ∧ ((Corr.relax^[n]) k).oV = 0 := by
    intro n hn
    obtain ⟨-, hU, hV⟩ := Corr.relax_iterate n k
    rw [relaxed_iterate_zero hn (by omega)] at hU hV
    exact ⟨Int.natAbs_eq_zero.mp hU, Int.natAbs_eq_zero.mp hV⟩
  have last : ∀ x : Corr, x.relax.g = 1024 → x.relax.oU = 0 → x.relax.oV = 0 → x.relax = ⟨1024, 0, 0, false⟩ := by
    intro x hg hu hv
    have hmark : x.relax.approx = (x.approx && !(x.relax.g == 1024 && x.relax.oU == 0 && x.relax.oV == 0)) := rfl
    rw [hg, hu, hv] at hmark
    simp only [beq_self_eq_true, Bool.and_self, Bool.not_true, Bool.and_false] at hmark
    cases hx : x.relax with
    | mk g u v a =>
      rw [hx] at hg hu hv hmark
      cases hg; cases hu; cases hv; cases hmark
      rfl
  obtain ⟨hU, hV⟩ := offsets 13 (by decide)
  refine ⟨gain, hU, hV, ?_⟩
  obtain ⟨hU, hV⟩ := offsets 28 (by decide)
  rw [Function.iterate_succ_apply'] at gain hU hV ⊢
  exact last _ gain hU hV

/-! ### Source coordinates (R93 to R96) -/

theorem Lattice.coord_eq (x : Lattice) (j : Nat) : x.coord j =
    (max 0 ((x.origin : Int) * x.factor + j * x.step + x.step / 2 - 32768)).toNat := by
  unfold Lattice.coord
  omega

/-! ### Held rows (R98) -/

theorem sampleIn_first {pre post : List Span} {x : Span} {n : Nat} {y : Byte} (hpre : ∀ z ∈ pre, z.row ≠ x.row)
    (hy : x.samples[n]? = some y) : sampleIn (pre ++ x :: post) x.row (x.first + n) = y.toNat := by
  have hnone : pre.find? (fun s => s.row == x.row) = none := List.find?_eq_none.mpr fun z hz => by simpa using hpre z hz
  simp [sampleIn, List.find?_append, hnone, hy]

/-! ### Sums (R23, R107) -/

/-- The samples at the indices that meet a test. -/
theorem zipIdx_filter_fst (xs : List Byte) (member : Nat → Bool) :
    (xs.zipIdx.filter fun p => member p.2).map Prod.fst = ((List.range xs.length).filter member).map fun j => xs.getD j 0 := by
  have hzip : xs.zipIdx = (List.range xs.length).map fun j => (xs.getD j 0, j) := by
    refine List.ext_getElem? fun j => ?_
    rw [List.getElem?_zipIdx, List.getElem?_map]
    by_cases hj : j < xs.length
    · simp [hj]
    · simp [hj]
  rw [hzip, List.filter_map, List.map_map]
  rfl

/-- A tally after the samples at the indices that meet a test. -/
theorem Tally.addAll_members (t : Tally) (xs : List Byte) (member : Nat → Bool) :
    t.addAll ((xs.zipIdx.filter fun p => member p.2).map Prod.fst) =
      ⟨t.sum + (((List.range xs.length).filter member).map fun j => (xs.getD j 0).toNat).sum,
        t.count + ((List.range xs.length).filter member).length⟩ := by
  rw [Tally.addAll_eq, zipIdx_filter_fst, List.map_map, List.length_map]
  rfl

theorem Tally.addAll_whole (t : Tally) (xs : List Byte) : t.addAll xs =
    ⟨t.sum + (((List.range xs.length).filter fun _ => true).map fun j => (xs.getD j 0).toNat).sum,
      t.count + ((List.range xs.length).filter fun _ => true).length⟩ := by
  have hall : (xs.zipIdx.filter fun _ => true).map Prod.fst = xs := by simp
  rw [← Tally.addAll_members, hall]

theorem columnsIn_eq {g : Region} (h : 1 ≤ g.wr) (step : Nat) (xs : List Byte) : columnsIn g step xs =
    (xs.zipIdx.filter fun p => decide (g.xr ≤ step * p.2 ∧ step * p.2 < g.xr + g.wr)).map Prod.fst := by
  unfold columnsIn
  congr 2
  funext p
  rw [decide_eq_decide]
  omega

/-! ### The region rectangle (R106, R107) -/

section Region

variable {s : State} {c n : Cam}

theorem State.nextNarrower_eq (hc : c.idx < n.idx) (hn : (s.port n).configured = true)
    (h : ∀ d, c.idx < d.idx → d.idx < n.idx → ¬ (s.port d).configured = true) : s.nextNarrower c = some n := by
  refine Cam.find_first (by simp [hc, hn]) fun d hd => ?_
  by_cases hcd : c.idx < d.idx
  · simp [hcd, h d hcd hd]
  · simp [hcd]

theorem State.nextNarrower_none (h : ∀ n, c.idx < n.idx → ¬ (s.port n).configured = true) : s.nextNarrower c = none := by
  refine (Cam.find_none fun d => ?_).1
  by_cases hcd : c.idx < d.idx
  · simp [hcd, h d hcd]
  · simp [hcd]

/-- The first column as written out. -/
theorem regionFirst_eq (size part : Nat) (centre : Int) : regionFirst size part centre =
    ((max 0 (min (16 * ((size : Int) - part)) (8 * size + centre - 8 * part))).toNat + 8) / 16 := by
  have hclamp : ∀ hi x : Int, (clampInt 0 hi x).toNat = (max 0 (min hi x)).toNat := by
    intro hi x
    unfold clampInt
    split
    · omega
    · split <;> omega
  rw [regionFirst, hclamp]

/-- A rectangle of a narrower camera lies inside the active area. -/
theorem regionFirst_inside {size mc mn : Nat} (centre : Int) (h2 : 2 ≤ size) (hm : mc < mn) :
    regionFirst size (regionSize size mc mn) centre + regionSize size mc mn ≤ size := by
  have hside : regionSize size mc mn ≤ size := by
    have hmul : size * mc ≤ size * mn := Nat.mul_le_mul_left _ hm.le
    have : (size * mc + mn / 2) / mn ≤ size := (roundedDiv_le (by omega)).mpr (by rw [Nat.add_mul]; omega)
    unfold regionSize
    rw [evenDown_eq]
    omega
  rw [regionFirst_eq]
  omega

end Region

/-! ### Means (R108) -/

/-- A mean is its sum over its count, rounded half up. -/
theorem Tally.mean_bounds {t : Tally} (h : t.count ≠ 0) : 2 * t.mean * t.count ≤ 2 * t.sum + t.count
    ∧ 2 * t.sum < (2 * t.mean + 1) * t.count ∧ (t.sum ≤ 255 * t.count → t.mean ≤ 255) := by
  have hpos := Nat.pos_of_ne_zero h
  have low : t.mean * t.count ≤ t.sum + t.count / 2 := (roundedDiv_ge hpos).mp (Nat.le_refl _)
  have high : t.sum + t.count / 2 < (t.mean + 1) * t.count := (roundedDiv_le hpos).mp (Nat.le_refl _)
  have hexpand : (t.mean + 1) * t.count = t.mean * t.count + t.count := Nat.succ_mul _ _
  have htwice : 2 * t.mean * t.count = 2 * (t.mean * t.count) := Nat.mul_assoc _ _ _
  have htwice' : (2 * t.mean + 1) * t.count = 2 * (t.mean * t.count) + t.count := by rw [Nat.succ_mul, htwice]
  refine ⟨by omega, by omega, fun hs => (roundedDiv_le hpos).mpr ?_⟩
  omega

/-! ### Measurement and the correction update (R80, R111 to R115) -/

theorem measuredGain_eq (ref inc : Nat) :
    measuredGain ref inc = if inc = 0 then 1024 else max 512 (min 2047 ((ref * 1024 + inc / 2) / inc)) := by
  unfold measuredGain
  split
  · rfl
  · exact clampNat_eq (by omega) _

theorem measuredOffset_eq (ref inc : Nat) : measuredOffset ref inc = max (-32) (min 32 ((ref : Int) - inc)) :=
  clampInt_eq (by omega) _

section Corrected

variable {s : State}

theorem State.selectedSlot_of {c : Cam} {x : Slot}
    (h : ∃ sel, s.zoom.selection.get c = some sel ∧ (s.port c).ring[sel.slot]? = some x) : s.selectedSlot c = some x := by
  obtain ⟨sel, hsel, hx⟩ := h
  rw [State.selectedSlot, hsel]
  exact hx

end Corrected

/-- Settles O53: part by part, each by the lemma that says it. -/
theorem sampleAndCorrectionArithmetic : Obligations.SampleAndCorrectionArithmetic := by
  unfold Obligations.SampleAndCorrectionArithmetic
  refine ⟨fun a b f hf => ⟨(lerp_between hf).1, (lerp_between hf).2, lerp_zero a b⟩, fun w p q hw => ?_, fun y hy => ?_,
    fun g y o c => ?_, fun g f p j r => ?_, fun d g k f wo r => ?_, fun pre post x n y => sampleIn_first, fun sums region r d => ?_,
    fun k hk => ?_, fun s c => ?_, fun t ht => ⟨rfl, Tally.mean_bounds ht⟩, fun r i ref inc k x y hx hy => ?_,
    fun k m hk hm => ⟨hk.smooth hm, ?_, rfl, rfl, rfl⟩, fun s => ?_⟩
  · have hlerp := lerp_between (a := p) (b := q) hw
    rw [← blendSample_eq_lerp] at hlerp
    refine ⟨rfl, hlerp.1, hlerp.2, (blendSample_eq_lerp 0 p q).trans (lerp_zero p q), ?_⟩
    unfold blendSample
    omega
  · have hc := corrChroma_eq 0 y
    refine ⟨?_, by omega⟩
    unfold corrLuma
    omega
  · have hc := corrChroma_eq o c
    exact ⟨rfl, hc, Nat.min_le_left _ _, by omega⟩
  · intro sampled
    have place : ∀ (x : Lattice) (n : Nat), x.coord n =
        (max 0 ((x.origin : Int) * x.factor + n * x.step + x.step / 2 - 32768)).toNat := Lattice.coord_eq
    constructor
    · simp only [resample, Lattice.along, Lattice.index, Lattice.frac, place]
      rfl
    · simp only [resample, Lattice.along, Lattice.index, Lattice.frac, place]
      rfl
  · intro x
    refine ⟨?_, fun he => ⟨?_, ?_⟩, fun ho => ⟨if_neg (by omega), if_neg (by omega)⟩, fun j hj => ?_, fun j he hj => ⟨?_, ?_⟩⟩
    · simp [x, sourceLine]
    · simp [x, sourceLine, he]
    · simp [x, sourceLine, he]
    · simp [x, sourceLine, hj]
    · simp [x, sourceLine, he, hj]
    · simp [x, sourceLine, he, hj]
  · intro out grown
    refine ⟨?_, fun hn => by subst hn; rfl, fun g hg hwr hhr => ?_⟩
    · show PlaneSums.mk (sums.full.y.addAll d.luma) (sums.full.u.addAll d.u) (sums.full.v.addAll d.v) = _
      rw [Tally.addAll_whole, Tally.addAll_whole, Tally.addAll_whole]
    · intro columns
      have hrow : g.hasRow r = decide (g.yr ≤ r ∧ r < g.yr + g.hr) := by
        unfold Region.hasRow
        rw [decide_eq_decide]
        omega
      have hout : out.region = if g.hasRow r then
          sums.region.add (columnsIn g 1 d.luma) (columnsIn g 2 d.u) (columnsIn g 2 d.v) else sums.region := by
        subst hg
        rfl
      refine ⟨fun hlo hhi => ?_, fun hno => ?_⟩
      · rw [hout, hrow, if_pos (decide_eq_true ⟨hlo, hhi⟩), PlaneSums.add, columnsIn_eq hwr, columnsIn_eq hwr, columnsIn_eq hwr]
        exact congr (congrArg₂ PlaneSums.mk (Tally.addAll_members _ _ (columns 1)) (Tally.addAll_members _ _ (columns 2)))
          (Tally.addAll_members _ _ (columns 2))
      · rw [hout, hrow, if_neg (by simp; omega)]
  · obtain ⟨hg, hU, hV, hall⟩ := hk.relax_identity
    have hbetween := relaxStep_between 1024 k.g
    rw [← k.relax_gain] at hbetween
    exact ⟨fun h => by omega, fun h => by omega, hg, hU, hV, hall⟩
  · intro known
    have configured : ∀ n, (s.port n).configured = true ↔ known n := fun n => Port.configured_iff
    refine ⟨fun f k x n hf hk hcn hn hx hbetween => ?_, fun hno => ?_⟩
    · intro side first
      have hnext : s.nextNarrower c = some n :=
        State.nextNarrower_eq hcn ((configured n).mpr hn) fun d h1 h2 hd => hbetween d h1 h2 ((configured d).mp hd)
      have hm : s.calM n = x.m := by rw [State.calM, hx]
      have hsides : ∀ size, regionSize size k.m x.m = side size := fun size => rfl
      have hfirst : ∀ size centre, regionFirst size (side size) centre = first size centre := fun size centre =>
        regionFirst_eq size (side size) centre
      refine ⟨?_, fun hw _ hh _ _ hmm => ⟨?_, ?_⟩⟩
      · rw [State.regionNow, hnext, hf, hk]
        dsimp only
        rw [hm]
        rw [hsides, hsides, hfirst, hfirst]
      · rw [← hfirst]
        exact regionFirst_inside k.cx hw hmm
      · rw [← hfirst]
        exact regionFirst_inside k.cy hh hmm
    · rw [State.regionNow, State.nextNarrower_none fun n hn hc => hno n hn ((configured n).mp hc)]
  · intro base own seen gain offset
    have fulls : ref.fullMeans = x ∧ inc.fullMeans = y := by simp [Slot.fullMeans, hx, hy]
    have regions : ref.regionMeans = (ref.region.getD x, decide (ref.region = none)) ∧
        inc.regionMeans = (inc.region.getD y, decide (inc.region = none)) := by
      unfold Slot.regionMeans
      rw [fulls.1, fulls.2]
      exact ⟨by cases ref.region <;> rfl, by cases inc.region <;> rfl⟩
    have result : ∀ approx, measured (base.through k) own approx =
        ⟨gain, offset k.oU base.u own.u, offset k.oV base.v own.v, approx⟩ := by
      intro approx
      simp only [measured, Means.through, measuredGain_eq, measuredOffset_eq, corrChroma_eq]
      rfl
    rcases Nat.lt_trichotomy r.idx i.idx with h | h | h
    · have hbase : base = ref.region.getD x := if_pos h
      have hown : own = y := if_neg (Nat.lt_asymm h)
      rw [measure, if_pos h, regions.1, fulls.2, ← result, hbase, hown]
      simp [h, Nat.lt_asymm h]
    · have hbase : base = x := if_neg (by omega)
      have hown : own = y := if_neg (by omega)
      rw [measure, if_neg (by omega), if_neg (by omega), fulls.1, fulls.2, ← result, hbase, hown]
      simp [h]
    · have hbase : base = x := if_neg (Nat.lt_asymm h)
      have hown : own = inc.region.getD y := if_pos h
      rw [measure, if_neg (Nat.lt_asymm h), if_pos h, regions.2, fulls.1, ← result, hbase, hown]
      simp [h, Nat.lt_asymm h]
  · have hstep := quarterStep_bounds (lo := 0) (hi := 2047) (x := k.g) (y := m.g) (by have := hk.gain; omega) (by have := hm.gain; omega)
    show ((quarterStep k.g m.g).toNat : Int) = quarterStep k.g m.g
    omega
  · intro out inc selected
    refine ⟨rfl, rfl, rfl, rfl, rfl, rfl, fun o i x y hx hy => ?_, fun f hf => ?_, fun f e x y he hx hy => ?_⟩
    · show (out, s.smoothIncoming o i) = _
      rw [State.smoothIncoming, State.selectedSlot_of hx, State.selectedSlot_of hy]
    · show (s.measureAgainstRecord f, Corr.identity) = _
      rw [State.measureAgainstRecord, hf]
    · show (s.measureAgainstRecord f, Corr.identity) = _
      have hentry : s.entrySlot e = some x := hx
      rw [State.measureAgainstRecord, he]
      dsimp only
      rw [hentry, State.selectedSlot_of hy]

end Sys2Proof.Machine
end

section
/-!
PROOF. The Camera Port's handling of frames (chapter 01, sections 1.5 and 1.6; chapter 02): frame starts, rows, frame ends,
write completions, the pattern generator and expiries.
-/

namespace Sys2Proof.Machine

/-! ### Packets from the camera module (R9, Table 7) -/

section Packets

variable {s : State} {c : Cam}

theorem exec_frameStart_live (h : (s.port c).startMode = .live) : exec (.frameStart c) s = .next (s.frameStart c) :=
  congrArg Host.Outcome.next (if_pos (by simp [State.live, h]))

theorem exec_linePacket_live (h : (s.port c).startMode = .live) (luma u v : List Byte) :
    exec (.linePacket c luma u v) s = .next (s.linePacket c luma u v) :=
  congrArg Host.Outcome.next (if_pos (by simp [State.live, h]))

theorem exec_frameEnd_live (h : (s.port c).startMode = .live) : exec (.frameEnd c) s = .next (s.frameEnd c) :=
  congrArg Host.Outcome.next (if_pos (by simp [State.live, h]))

/-- In PATTERN mode the module's packets change nothing. -/
theorem exec_packets_pattern (h : (s.port c).startMode = .pattern) (luma u v : List Byte) :
    exec (.frameStart c) s = .next s ∧ exec (.linePacket c luma u v) s = .next s ∧ exec (.frameEnd c) s = .next s := by
  have hlive : ¬ s.live c = true := by simp [State.live, h]
  exact ⟨congrArg Host.Outcome.next (if_neg hlive), congrArg Host.Outcome.next (if_neg hlive),
    congrArg Host.Outcome.next (if_neg hlive)⟩

theorem State.frameStart_taken {k : Cal} (ht : (s.port c).state.takes = true) (hk : (s.port c).cal = some k) :
    s.frameStart c = (s.setPort c ((s.port c).beginFrame s.timebase (s.regionNow c))).setMonitor c
      { s.monitor c with countdown := some k.arrival } := by
  have hcal : ((s.port c).beginFrame s.timebase (s.regionNow c)).cal = some k := by
    rw [(Port.Move.beginFrame _ _ _).frame.2.2, hk]
  rw [State.frameStart, if_pos ht, State.arm_eq (k := k) (by simp [hcal])]
  simp

theorem State.packets_ignored (h : (s.port c).state.takes = false) (luma u v : List Byte) :
    s.frameStart c = s ∧ s.linePacket c luma u v = s ∧ s.frameEnd c = s := by
  refine ⟨if_neg (by simp [h]), ?_, ?_⟩
  · simp only [State.linePacket, h]
  · simp only [State.frameEnd, h]

theorem State.packets_unfilled (h : (s.port c).slotIn .filling = none) (luma u v : List Byte) :
    s.linePacket c luma u v = s ∧ s.frameEnd c = s := by
  constructor
  · simp only [State.linePacket, h]
    cases (s.port c).state.takes <;> rfl
  · simp only [State.frameEnd, h]
    cases (s.port c).state.takes <;> rfl

end Packets

/-! ### Frame starts (R15, R16) -/

/-- A slot picked from a list by comparing each with the one picked from those after it: one that goes before all others is
picked. -/
theorem picked_unique {r : Slot × Nat → Slot × Nat → Bool} {pick : List (Slot × Nat) → Option (Slot × Nat)}
    (hnil : pick [] = none) (hcons : ∀ x rest, pick (x :: rest) = match pick rest with
      | none => some x
      | some y => if r x y then some x else some y)
    {l : List (Slot × Nat)} {a : Slot × Nat} (ha : a ∈ l) (h : ∀ b ∈ l, b ≠ a → r a b = true ∧ r b a = false) :
    pick l = some a := by
  have mem : ∀ {l : List (Slot × Nat)} {y}, pick l = some y → y ∈ l := by
    intro l
    induction l with
    | nil => simp [hnil]
    | cons b rest ih =>
      intro y hy
      rw [hcons] at hy
      split at hy
      · cases hy
        exact List.mem_cons_self
      next z hz =>
        split at hy <;> cases hy
        · exact List.mem_cons_self
        · exact List.mem_cons_of_mem _ (ih hz)
  induction l with
  | nil => cases ha
  | cons b rest ih =>
    rw [hcons]
    by_cases hrest : a ∈ rest
    · rw [ih hrest fun x hx => h x (List.mem_cons_of_mem _ hx)]
      dsimp only
      by_cases hb : b = a
      · subst hb
        exact ite_self _
      · rw [if_neg (by simp [(h b List.mem_cons_self hb).2])]
    · obtain rfl : a = b := (List.mem_cons.mp ha).resolve_right hrest
      cases ho : pick rest with
      | none => rfl
      | some y =>
        have hy := mem ho
        have hne : y ≠ a := fun he => hrest (he ▸ hy)
        dsimp only
        rw [if_pos (h y (List.mem_cons_of_mem _ hy) hne).1]

/-- The one slot that is older than all others is the oldest. -/
theorem oldestOf_unique {l : List (Slot × Nat)} {a : Slot × Nat} (ha : a ∈ l)
    (h : ∀ b ∈ l, b ≠ a → a.1.olderOrSame b.1 = true ∧ b.1.olderOrSame a.1 = false) : oldestOf l = some a :=
  picked_unique (r := fun x y => x.1.olderOrSame y.1) rfl (fun _ _ => rfl) ha h

/-- The one slot that is newer than all others is the newest. -/
theorem newestOf_unique {l : List (Slot × Nat)} {a : Slot × Nat} (ha : a ∈ l)
    (h : ∀ b ∈ l, b ≠ a → b.1.olderOrSame a.1 = true ∧ a.1.olderOrSame b.1 = false) : newestOf l = some a :=
  picked_unique (r := fun x y => y.1.olderOrSame x.1) rfl (fun _ _ => rfl) ha h

section Starts

variable {p : Port} {now : Word} {region : Option Region}

theorem Port.truncate_none (h : ∀ y ∈ p.ring, y.state ≠ .filling) : p.truncate = p := by
  simp only [Port.truncate, Port.slotIn_none h]

theorem Port.chooseSlot_free {k : Nat} {x : Slot} (hx : p.ring[k]? = some x) (hs : x.state = .free)
    (hb : ∀ j y, j < k → p.ring[j]? = some y → y.state ≠ .free) : p.chooseSlot = some k := by
  simp only [Port.chooseSlot, Port.slotIn_eq hx hs hb]

/-- With no FREE slot, the READY slot without a pin that is older than all others (R16). -/
theorem Port.chooseSlot_oldest {k : Nat} {x : Slot} (hfree : ∀ y ∈ p.ring, y.state ≠ .free) (hx : p.ring[k]? = some x)
    (hs : x.state = .ready) (hp : x.pin = .none)
    (h : ∀ j y, j ≠ k → p.ring[j]? = some y → y.state = .ready → y.pin = .none →
      x.olderOrSame y = true ∧ y.olderOrSame x = false) : p.chooseSlot = some k := by
  have hold : oldestOf (p.ring.zipIdx.filter fun x => x.1.idleReady) = some (x, k) := by
    refine oldestOf_unique (List.mem_filter.mpr ⟨List.mem_zipIdx_iff_getElem?.mpr hx, ?_⟩) ?_
    · simp [Slot.idleReady, hs, hp]
    · rintro ⟨y, j⟩ hy hne
      obtain ⟨hin, hidle⟩ := List.mem_filter.mp hy
      simp only [Slot.idleReady, Bool.and_eq_true, beq_iff_eq] at hidle
      have hyj : p.ring[j]? = some y := List.mem_zipIdx_iff_getElem?.mp hin
      refine h j y (fun hj => hne ?_) hyj hidle.1 hidle.2
      subst hj
      rw [hx] at hyj
      cases hyj
      rfl
  simp only [Port.chooseSlot, Port.slotIn_none hfree, hold, Option.map_some]

/-- The frame starts in the chosen slot of the port that truncation leaves. -/
theorem Port.beginFrame_filled {k : Nat} {x : Slot} (hc : p.truncate.chooseSlot = some k) (hx : p.truncate.ring[k]? = some x) :
    p.beginFrame now region = { p.truncate with
      seq := p.truncate.seq + 1, sums := .zero, region := region
      ring := p.truncate.ring.set k (x.fill (p.truncate.seq + 1) now) } := by
  simp only [Port.beginFrame, hc, Port.modSlot, modify_of_get hx]

/-- A FILLING slot is truncated: freed, its lines withdrawn, counted. -/
theorem Port.truncate_filling {j : Nat} {y : Slot} (hy : p.ring[j]? = some y) (hs : y.state = .filling)
    (hb : ∀ i z, i < j → p.ring[i]? = some z → z.state ≠ .filling) : p.truncate = { p with
      ring := p.ring.set j y.freed
      buffer := if p.inFlight then p.buffer.take 1 ++ (p.buffer.drop 1).filter fun l => !(l.slot == j && l.seq == y.seq)
        else p.buffer.filter fun l => !(l.slot == j && l.seq == y.seq)
      counters := { p.counters with truncated := min 4294967295 (p.counters.truncated + 1) } } := by
  simp only [Port.truncate, Port.slotIn_eq hy hs hb, Port.discardSlot_eq hy]
  rfl

end Starts

/-- Settles O21: the slot chosen, after a truncation or without one; packets outside the states that take them. -/
theorem frameStartFillsSlot : Obligations.FrameStartFillsSlot := by
  unfold Obligations.FrameStartFillsSlot
  refine ⟨?_, fun s c luma u v => ⟨fun h => ?_, fun h => ?_⟩⟩
  · intro s c cal hlive htakes hcal p filled freed started
    have taken : exec (.frameStart c) s = .next ((s.setPort c (p.beginFrame s.timebase (s.regionNow c))).setMonitor c
        { s.monitor c with countdown := some cal.arrival }) := by
      rw [exec_frameStart_live hlive, State.frameStart_taken htakes hcal]
    have plain : ∀ {k x}, (∀ y ∈ p.ring, y.state ≠ .filling) → p.chooseSlot = some k → p.ring[k]? = some x →
        exec (.frameStart c) s = .next (started (p.ring.set k (filled x)) p.buffer p.counters) := by
      intro k x hfill hchosen hx
      have htr := Port.truncate_none hfill
      rw [taken, Port.beginFrame_filled (x := x) (by rw [htr]; exact hchosen) (by rw [htr]; exact hx), htr]
      rfl
    refine ⟨fun k x hfill hx hs hb => plain hfill (Port.chooseSlot_free hx hs hb) hx,
      fun k x hno hx hs hp hold => plain (fun y hy => (hno y hy).1) ?_ hx, fun j y hy hs hb => ?_⟩
    · refine Port.chooseSlot_oldest (fun y hy => (hno y hy).2) hx hs hp fun j y hjk hy hsy hpy => ?_
      unfold Slot.olderOrSame
      rcases hold j y hjk hy hsy hpy with ⟨hne, h1, h2⟩ | ⟨heq, h1, h2⟩
      · rw [if_neg hne, if_neg (Ne.symm hne)]
        exact ⟨h1, h2⟩
      · rw [if_pos heq, if_pos heq.symm]
        exact ⟨h1, h2⟩
    · intro keep truncated
      have htr := Port.truncate_filling hy hs hb
      have hring : p.truncate.ring = p.ring.set j y.freed := by rw [htr]
      have cut : ∀ {k x}, p.truncate.chooseSlot = some k → (p.ring.set j y.freed)[k]? = some x →
          truncated ((p.ring.set j y.freed).set k (filled x)) := by
        intro k x hchosen hx
        show exec _ s = _
        rw [taken, Port.beginFrame_filled (x := x) hchosen (by rw [hring]; exact hx), htr]
        rfl
      have before : ∀ {i z}, i < j → (p.ring.set j y.freed)[i]? = some z → p.ring[i]? = some z := by
        intro i z hij hz
        rwa [List.getElem?_set_ne (Nat.ne_of_gt hij)] at hz
      refine ⟨fun hno => ?_, fun k x hkj hx hsx hbx => ?_⟩
      · have hj := get_set_of_get hy y.freed
        have hthere := cut (Port.chooseSlot_free (by rw [hring]; exact hj) rfl fun i z hij hz =>
          hno i z hij (before hij (by rw [hring] at hz; exact hz))) hj
        rw [List.set_set] at hthere
        exact hthere
      · have hk : (p.ring.set j y.freed)[k]? = some x := by rw [List.getElem?_set_ne (Nat.ne_of_gt hkj)]; exact hx
        exact cut (Port.chooseSlot_free (by rw [hring]; exact hk) hsx fun i z hik hz =>
          hbx i z hik (before (Nat.lt_trans hik hkj) (by rw [hring] at hz; exact hz))) hk
  · by_cases hlive : (s.port c).startMode = .live
    · have hno : (s.port c).state.takes = false := h.resolve_left (by simp [hlive])
      obtain ⟨h1, h2, h3⟩ := State.packets_ignored hno luma u v
      exact ⟨by rw [exec_frameStart_live hlive, h1], by rw [exec_linePacket_live hlive, h2], by rw [exec_frameEnd_live hlive, h3]⟩
    · exact exec_packets_pattern (by cases hmode : (s.port c).startMode <;> simp_all) luma u v
  · by_cases hlive : (s.port c).startMode = .live
    · obtain ⟨h1, h2⟩ := State.packets_unfilled (Port.slotIn_none h) luma u v
      exact ⟨by rw [exec_linePacket_live hlive, h1], by rw [exec_frameEnd_live hlive, h2]⟩
    · exact (exec_packets_pattern (by cases hmode : (s.port c).startMode <;> simp_all) luma u v).2

/-! ### Rows (R17, R18) -/

theorem State.linePacket_taken {s : State} {c : Cam} {f : Format} {k : Nat} (ht : (s.port c).state.takes = true)
    (hf : (s.port c).format = some f) (hk : (s.port c).slotIn .filling = some k) (luma u v : List Byte) :
    s.linePacket c luma u v = s.setPort c ((s.port c).takeLine f k luma u v) := by
  simp only [State.linePacket, ht, hf, hk]

/-- A row part has the length asked for, and every place the sample there, the last one, or the fill value. -/
theorem fitRow_fits (n : Nat) (fill : Byte) (xs : List Byte) : (fitRow n fill xs).length = n ∧ ∀ j, j < n →
    (fitRow n fill xs)[j]? = some (if h : j < xs.length then xs[j] else if h : xs ≠ [] then xs.getLast h else fill) := by
  unfold fitRow
  by_cases hne : xs = []
  · subst hne
    exact ⟨List.length_replicate, fun j hj => by simp [hj]⟩
  · rw [List.getLast?_eq_some_getLast hne]
    dsimp only
    refine ⟨?_, fun j hj => ?_⟩
    · rw [List.length_append, List.length_take, List.length_replicate]
      omega
    · by_cases hjx : j < xs.length
      · rw [dif_pos hjx, List.getElem?_append_left (by rw [List.length_take]; omega), List.getElem?_take_of_lt hj,
          List.getElem?_eq_getElem hjx]
      · rw [dif_neg hjx, dif_pos hne, List.getElem?_append_right (by rw [List.length_take]; omega), List.length_take,
          List.getElem?_replicate_of_lt (by omega)]

/-- Settles O22: a row is an excess one, held or dropped, and is brought to its width. -/
theorem linePacketOffersRow : Obligations.LinePacketOffersRow := by
  unfold Obligations.LinePacketOffersRow
  refine ⟨?_, ?_⟩
  · intro s c luma u v f k x hlive htakes hf hx hs hb p d narrow
    have taken : exec (.linePacket c luma u v) s = .next (s.setPort c (p.takeLine f k luma u v)) := by
      rw [exec_linePacket_live hlive, State.linePacket_taken htakes hf (Port.slotIn_eq hx hs hb)]
    have hnarrow : (x.narrow || rowIsNarrow f.ws x.lines luma u v) = narrow := by
      rw [Bool.eq_iff_iff]
      simp [rowIsNarrow, narrow, or_assoc]
    refine ⟨fun hl => ?_, fun hl hfull => ?_, fun hl hfull => ?_⟩
    · rw [taken, Port.takeLine_excess hx hl, Port.modSlot_of_get hx]
    · rw [taken, Port.takeLine_held hx hl hfull, Port.modSlot_of_get hx, hnarrow]
    · rw [taken, Port.takeLine_full hx hl hfull, Port.modSlot_of_get hx, hnarrow]
  · intro ws r luma u v d fits
    have even : r % 2 = 0 → d = ⟨fitRow ws 16 luma, fitRow (ws / 2) 128 u, fitRow (ws / 2) 128 v⟩ := fun h => if_pos h
    have odd : r % 2 = 1 → d = ⟨fitRow ws 16 luma, [], []⟩ := fun h => if_neg (by omega)
    have luma_eq : d.luma = fitRow ws 16 luma := by
      rcases Nat.mod_two_eq_zero_or_one r with h | h
      · rw [even h]
      · rw [odd h]
    refine ⟨luma_eq ▸ fitRow_fits ws 16 luma, fun h => ?_, fun h => ?_⟩
    · rw [even h]
      exact ⟨fitRow_fits _ _ u, fitRow_fits _ _ v⟩
    · rw [odd h]
      exact ⟨rfl, rfl⟩

/-! ### Frame ends (R20, R21) -/

section Ends

variable {s : State} {c : Cam} {f : Format} {k : Nat} {x : Slot}

/-- A frame end of a frame that is there (R20). -/
theorem State.frameEnd_taken (ht : (s.port c).state.takes = true) (hf : (s.port c).format = some f)
    (hk : (s.port c).slotIn .filling = some k) (hx : (s.port c).ring[k]? = some x) :
    let q := (s.port c).modSlot k fun t => { t with stop := some s.timebase }
    (x.dropped = true → s.frameEnd c =
      s.setPort c (q.discardFrame k { (s.port c).counters with damaged := bump (s.port c).counters.damaged })) ∧
    (x.dropped = false → x.lines < f.hs → s.frameEnd c =
      s.setPort c (q.discardFrame k { (s.port c).counters with short := bump (s.port c).counters.short })) ∧
    (x.dropped = false → f.hs ≤ x.lines → x.outstanding = 0 → s.frameEnd c = (s.setPort c (q.formMeans k)).slotReady c k) ∧
    (x.dropped = false → f.hs ≤ x.lines → x.outstanding ≠ 0 →
      s.frameEnd c = s.setPort c ((q.formMeans k).modSlot k fun t => { t with state := .draining })) := by
  intro q
  have hend : s.frameEnd c =
      if x.dropped then
        s.setPort c (q.discardFrame k { (s.port c).counters with damaged := bump (s.port c).counters.damaged })
      else if x.lines < f.hs then
        s.setPort c (q.discardFrame k { (s.port c).counters with short := bump (s.port c).counters.short })
      else if x.outstanding = 0 then (s.setPort c (q.formMeans k)).slotReady c k
      else s.setPort c ((q.formMeans k).modSlot k fun t => { t with state := .draining }) := by
    simp only [State.frameEnd, ht, hf, hk, hx] <;> rfl
  refine ⟨fun hd => ?_, fun hd hl => ?_, fun hd hl ho => ?_, fun hd hl ho => ?_⟩
  · rw [hend, if_pos hd]
  · rw [hend, if_neg (by simp [hd]), if_pos hl]
  · rw [hend, if_neg (by simp [hd]), if_neg (Nat.not_lt.mpr hl), if_pos ho]
  · rw [hend, if_neg (by simp [hd]), if_neg (Nat.not_lt.mpr hl), if_neg ho]

/-- What the end of a frame makes of its port: stamped, discarded or with its means. -/
theorem Port.ended_eq {p : Port} {now : Word} (hx : p.ring[k]? = some x) :
    let q := p.modSlot k fun t => { t with stop := some now }
    (∀ counters, q.discardFrame k counters = { p with
      ring := p.ring.set k { x with
        state := .free, pin := .none, release := false, stop := some now, outstanding := 0, full := none, region := none }
      buffer := if p.inFlight then p.buffer.take 1 ++ (p.buffer.drop 1).filter fun l => !(l.slot == k && l.seq == x.seq)
        else p.buffer.filter fun l => !(l.slot == k && l.seq == x.seq)
      counters := counters, sums := .zero, region := none }) ∧
    q.formMeans k = { p with
      ring := p.ring.set k { x with
        stop := some now, full := some p.sums.full.means, region := p.region.map fun _ => p.sums.region.means }
      region := none } := by
  intro q
  have hq : q = { p with ring := p.ring.set k { x with stop := some now } } := Port.modSlot_of_get hx _
  have hget : q.ring[k]? = some { x with stop := some now } := by
    rw [hq]
    exact get_set_of_get hx _
  constructor
  · intro counters
    rw [Port.discardFrame, Port.discardSlot_eq hget, hq]
    dsimp only
    rw [List.set_set]
    rfl
  · rw [Port.formMeans_eq hget, hq]
    dsimp only
    rw [List.set_set]

/-- What a slot's becoming READY brings, on a port put in place. -/
theorem State.setPort_slotReady {q : Port} {y : Slot} (hy : q.ring[k]? = some y) :
    let p := { q with ring := q.ring.set k { y with state := .ready }, counters := q.counters.ready y.long }
    (q.state = .streaming ∨ (q.state = .stalled ∧ (s.monitor c).stalledNow = true) →
      (s.setPort c q).slotReady c k = s.setPort c p) ∧
    (q.state = .waiting → (s.setPort c q).slotReady c k =
      (s.setPort c { p with state := .streaming }).raise (.cameraState c .waiting .streaming .frame)) ∧
    (q.state = .stalled → (s.monitor c).stalledNow = false → (s.setPort c q).slotReady c k =
      ((s.setPort c { p with state := .streaming }).setMonitor c { s.monitor c with stallCount := 0 }).raise
        (.cameraState c .stalled .streaming .frame)) := by
  intro p
  have hport : (s.setPort c q).port c = q := by simp
  have hget : ((s.setPort c q).port c).ring[k]? = some y := by rw [hport]; exact hy
  refine ⟨?_, fun h => ?_, fun h hn => ?_⟩
  · rintro (h | ⟨h, hn⟩)
    · rw [State.slotReady_streaming hget (by rw [hport]; exact h), hport, State.setPort_setPort]
    · rw [State.slotReady_stalledNow hget (by rw [hport]; exact h) hn, hport, State.setPort_setPort]
  · rw [State.slotReady_waiting hget (by rw [hport]; exact h), hport, State.setPort_setPort]
  · rw [State.slotReady_stalled hget (by rw [hport]; exact h) hn, hport, State.setPort_setPort]
    rfl

end Ends

/-- Settles O23: the four outcomes of a frame end, the last with what a READY slot brings its camera. -/
theorem frameEndJudgesFrame : Obligations.FrameEndJudgesFrame := by
  unfold Obligations.FrameEndJudgesFrame
  intro s c f k x hlive htakes hf hx hs hb p freed keep discarded ended counted
  obtain ⟨hdamaged, hshort, hready, hdraining⟩ := State.frameEnd_taken htakes hf (Port.slotIn_eq hx hs hb) hx
  obtain ⟨hdiscard, hmeans⟩ := Port.ended_eq (now := s.timebase) hx
  have hget : (p.ring.set k { ended .filling with state := x.state })[k]? = some { ended .filling with state := x.state } :=
    get_set_of_get hx _
  refine ⟨fun hd => ?_, fun hd hl => ?_, fun hd hl ho => ?_, fun hd hl ho => ?_⟩
  · rw [exec_frameEnd_live hlive, hdamaged hd, hdiscard]
    rfl
  · rw [exec_frameEnd_live hlive, hshort hd hl, hdiscard]
    rfl
  · rw [exec_frameEnd_live hlive, hdraining hd hl (Nat.ne_of_gt ho), hmeans, Port.modSlot_of_get hget]
    dsimp only
    rw [List.set_set]
  · intro q
    rw [exec_frameEnd_live hlive, hready hd hl ho, hmeans]
    have hq : ({ p with
        ring := p.ring.set k { ended .filling with state := x.state }, region := none } : Port).ring[k]? = _ := hget
    obtain ⟨hstays, hwaiting, hstalled⟩ := State.setPort_slotReady (s := s) (c := c) hq
    dsimp only at hstays hwaiting hstalled
    rw [List.set_set] at hstays hwaiting hstalled
    exact ⟨fun h => congrArg Host.Outcome.next (hstays h), fun h => congrArg Host.Outcome.next (hwaiting h),
      fun h hn => congrArg Host.Outcome.next (hstalled h hn)⟩

/-! ### Expiries (Table 12) -/

/-- An expiry by the camera's state (Table 12). -/
theorem State.expire_zero {s : State} {c : Cam} (h : (s.monitor c).countdown = some 0) :
    ((s.port c).state = .waiting → s.expire c = (s.disarm c).enterFaulted c .noFirstFrame) ∧
    ((s.port c).state = .streaming → s.expire c = (((s.setPort c { s.port c with
        counters := { (s.port c).counters with stalls := bump (s.port c).counters.stalls } }).setMonitor c
          { s.monitor c with stallCount := 1, stalledNow := true }).arm c Cal.arrival).changeState c .stalled .stall) ∧
    ((s.port c).state = .stalled → s.expire c = if 3 ≤ (s.monitor c).stallCount + 1
      then ((s.setMonitor c { s.monitor c with stallCount := (s.monitor c).stallCount + 1 }).disarm c).enterFaulted c .stalledOut
      else (s.setMonitor c { s.monitor c with stallCount := (s.monitor c).stallCount + 1 }).arm c Cal.arrival) :=
  ⟨fun hs => by simp only [State.expire, h, hs], fun hs => by simp only [State.expire, h, hs, State.setPort_monitor],
    fun hs => by simp only [State.expire, h, hs]⟩

/-- Settles O25: an armed countdown at 0, state by state. -/
theorem expiryByState : Obligations.ExpiryByState := by
  unfold Obligations.ExpiryByState
  refine ⟨fun s c h => congrArg Host.Outcome.next ?_, ?_⟩
  · unfold State.expire
    split
    · rfl
    · rfl
    · exact absurd ‹_› h
  · intro s c k hzero hk p m faulted
    obtain ⟨hwaiting, hstreaming, hstalled⟩ := State.expire_zero hzero
    have faults : ∀ (n : Monitor) (reason : Reason) (old : CamState), p.state = old →
        ((s.setMonitor c n).disarm c).enterFaulted c reason = ((s.setPort c (faulted reason)).setMonitor c
          { n with countdown := none }).raise (.cameraState c old .faulted reason) := by
      intro n reason old ho
      rw [State.enterFaulted_from (s := (s.setMonitor c n).disarm c) ho, State.disarm_eq, State.setMonitor_setMonitor,
        State.monitor_setMonitor_same]
      rfl
    refine ⟨fun hs => ?_, fun hs => ?_, fun hs hm => ?_, fun hs hm => ?_⟩
    · have := faults m .noFirstFrame _ hs
      rw [State.setMonitor_self] at this
      exact congrArg Host.Outcome.next ((hwaiting hs).trans this)
    · refine congrArg Host.Outcome.next ((hstreaming hs).trans ?_)
      rw [State.arm_eq (k := k) (by simp [hk]), State.changeState_eq]
      simp only [State.setMonitor_setMonitor, State.monitor_setMonitor_same, State.setMonitor_port, State.port_setPort_same,
        State.setMonitor_setPort, State.setPort_setPort, show (s.port c).state = .streaming from hs]
      rfl
    · refine congrArg Host.Outcome.next ((hstalled hs).trans ?_)
      have few : (s.monitor c).stallCount ≤ 1 := hm
      rw [if_neg (by omega), State.arm_eq (k := k) (by simp [hk]), State.setMonitor_setMonitor, State.monitor_setMonitor_same]
    · refine congrArg Host.Outcome.next ((hstalled hs).trans ?_)
      have many : 2 ≤ (s.monitor c).stallCount := hm
      rw [if_pos (by omega), faults _ _ _ hs]

/-! ### Write completions (R19, R150) -/

/-- A sample is the one of the row carried, or a free value where none is stored. -/
theorem Slot.sample_of_findRow {x y : Slot} {p : Plane} {row : Nat} (h : findRow (p.sourceRow row) x.area =
    findRow (p.sourceRow row) y.area) (hs : x.seed = y.seed) (column : Nat) : x.sample p row column = y.sample p row column := by
  simp only [Slot.sample, h, hs]

/-- The row of a line whose slot's area is the one it was made for. -/
theorem Port.storeLine_of_get {p : Port} {l : BufferedLine} {x : Slot} (hx : p.ring[l.slot]? = some x)
    (hs : x.seed = l.seed) :
    p.storeLine l = { p with ring := p.ring.set l.slot { x with area := storeRow l.row l.data x.area } } := by
  rw [Port.storeLine, Port.modSlot_of_get hx, if_pos hs]

/-- The completion of a write, its row stored: what it counts for the slot of its tag. -/
theorem State.writeDone_stored {s : State} {c : Cam} {l : BufferedLine} {rest : List BufferedLine} {x : Slot}
    (hb : (s.port c).buffer = l :: rest) (hx : (s.port c).ring[l.slot]? = some x) (hseed : x.seed = l.seed) :
    let stored := fun y => { s.port c with buffer := rest, inFlight := false, ring := (s.port c).ring.set l.slot y }
    let y := { x with area := storeRow l.row l.data x.area }
    s.writeDone c = if x.counts l then
        let t := s.setPort c (stored { y with outstanding := x.outstanding - 1 })
        if x.state = .draining ∧ x.outstanding ≤ 1 then t.slotReady c l.slot else t
      else s.setPort c (stored y) := by
  intro stored y
  have hstore : ({ s.port c with buffer := rest, inFlight := false } : Port).storeLine l = stored y :=
    Port.storeLine_of_get (p := { s.port c with buffer := rest, inFlight := false }) hx hseed
  have hget : (stored y).ring[l.slot]? = some y := get_set_of_get hx _
  have hcount : (stored y).modSlot l.slot (fun z => { z with outstanding := x.outstanding - 1 }) =
      stored { y with outstanding := x.outstanding - 1 } :=
    (Port.modSlot_of_get hget _).trans (by dsimp only [stored]; rw [List.set_set])
  simp only [State.writeDone, hb, hx, hstore, hcount]

/-- The completion of a granted write. -/
theorem State.completeTransfer_write {s : State} {c : Cam} (h : s.arbiter.channel = .busy (.write c)) :
    s.completeTransfer = State.writeDone { s with arbiter := { s.arbiter with channel := .free } } c := by
  simp only [State.completeTransfer, h]

/-- Settles O26: what is stored reads back, and counts toward the slot of its tag. -/
theorem writeCompletionCounts : Obligations.WriteCompletionCounts := by
  unfold Obligations.WriteCompletionCounts
  refine ⟨?_, ?_⟩
  · intro x r d p row column y carried stored
    have hcarried : carried = p.sourceRow row := by cases p <;> rfl
    have hstored : stored = d.plane p := by cases p <;> rfl
    refine ⟨fun b hr hb => ?_, fun hr => ?_⟩
    · have hfind : findRow (p.sourceRow row) y.area = some d := by
        rw [← hcarried, hr]
        exact findRow_storeRow_same r d x.area
      rw [hstored] at hb
      simp only [Slot.sample, hfind, Option.bind_some, hb]
    · exact Slot.sample_of_findRow (x := y) (findRow_storeRow_ne d x.area (hcarried ▸ hr)) rfl column
  · intro s c l rest x hc hb hx hseed p area done last
    have hdone := State.writeDone_stored (s := { s with arbiter := { s.arbiter with channel := .free } }) hb hx hseed
    have completes : exec .transferCompletion s = .next (State.writeDone
        { s with arbiter := { s.arbiter with channel := .free } } c) :=
      congrArg Host.Outcome.next (State.completeTransfer_write hc)
    rw [completes, hdone]
    refine ⟨fun h => ?_, fun hq h => ?_, fun hq hd ho => ?_⟩
    · have hnot : x.counts l = false := by
        rcases h with h | h | h <;> simp [Slot.counts, h]
      rw [if_neg (by simp [hnot])]
      rfl
    · have hcounts : x.counts l = true := by
        rcases h with h | ⟨h, -⟩ <;> simp [Slot.counts, h, hq]
      have hmore : ¬ (x.state = .draining ∧ x.outstanding ≤ 1) := by
        rintro ⟨hd, ho⟩
        rcases h with h | ⟨-, h⟩
        · exact absurd (h.symm.trans hd) (by decide)
        · omega
      rw [if_pos hcounts]
      dsimp only
      rw [if_neg hmore]
      rfl
    · have hcounts : x.counts l = true := by simp [Slot.counts, hd, hq]
      rw [if_pos hcounts]
      dsimp only
      have hout : x.outstanding - 1 = 0 := by omega
      rw [if_pos ⟨hd, by omega⟩, hout]
      have hget : ({ s.port c with
          buffer := rest, inFlight := false
          ring := (s.port c).ring.set l.slot { x with area := area, outstanding := 0 } } : Port).ring[l.slot]? =
          some { x with area := area, outstanding := 0 } := get_set_of_get hx _
      obtain ⟨hstays, hwaiting, hstalled⟩ :=
        State.setPort_slotReady (s := { s with arbiter := { s.arbiter with channel := .free } }) (c := c) hget
      dsimp only at hstays hwaiting hstalled
      rw [List.set_set] at hstays hwaiting hstalled
      exact ⟨fun h => congrArg Host.Outcome.next (hstays h), fun h => congrArg Host.Outcome.next (hwaiting h),
        fun h hn => congrArg Host.Outcome.next (hstalled h hn)⟩

/-! ### The pattern generator (R9, R10) -/

section Pattern

variable {s : State} {c : Cam} {f : Format} {g : PatternGen} {k : Cal}

/-- The region rectangle is a matter of format and calibration parts alone (R106). -/
theorem State.regionNow_of_parts {t : State}
    (h : ∀ d, (t.port d).format = (s.port d).format ∧ (t.port d).cal = (s.port d).cal) : t.regionNow c = s.regionNow c := by
  have hconf : ∀ d, (t.port d).configured = (s.port d).configured := fun d => by
    rw [Port.configured, Port.configured, (h d).1, (h d).2]
  have hm : ∀ d, t.calM d = s.calM d := fun d => by rw [State.calM, State.calM, (h d).2]
  simp only [State.regionNow, State.nextNarrower, hconf, (h c).1, (h c).2, hm]

/-- A pattern start, whole (R7, R9, R30). -/
theorem State.startPattern_eq (hk : (s.port c).cal = some k) :
    let p := { s.port c with
      state := .waiting, startMode := .pattern, faultReason := .none, pattern := some ⟨k.interval, 0, 0⟩ }
    s.startPattern c = ((s.setPort c (p.beginFrame s.timebase (s.regionNow c))).setMonitor c
      { s.monitor c with countdown := some k.arrival, stallCount := 0 }).raise
        (.cameraState c (s.port c).state .waiting .request) := by
  intro p
  let entered := ((s.setPort c p).setMonitor c { s.monitor c with countdown := some k.first, stallCount := 0 }).raise
    (.cameraState c (s.port c).state .waiting .request)
  have hregion : entered.regionNow c = s.regionNow c := State.regionNow_of_parts fun d => by
    by_cases hd : d = c
    · subst hd
      simp [p, entered]
    · simp [entered, State.port_setPort_ne s p hd]
  have hentered : s.startPattern c = entered.frameStart c := by
    simp [State.startPattern, State.markStart, State.enterWaiting, State.changeState_eq, State.arm, State.patternStart,
      hk, entered, p]
  rw [hentered, State.frameStart_taken (s := entered) (k := k) (by simp [entered, p, CamState.takes])
    (by simp [entered, p, hk]), hregion]
  simp [entered]

/-- The rows of the pattern frame (R10). -/
theorem patternLuma_get (ws r : Nat) (seq : Word) {j : Nat} (h : j < ws) : (patternLuma ws r seq)[j]? = some
    (if r = 0 ∧ j < 8 then seq.setWidth 8 else
      match 6 * j / ws with | 0 => 16 | 1 => 64 | 2 => 112 | 3 => 160 | 4 => 208 | _ => 235) := by
  rw [patternLuma, List.getElem?_map, List.getElem?_range h, Option.map_some]
  rfl

/-- No packet is due while the generator is off. -/
theorem State.patternDue_off (h : (s.port c).pattern = none) : s.patternDue c = none := by
  simp [State.patternDue, h]

end Pattern

/-- Settles O24: the start with its first frame start, and each packet at its instant or not at all. -/
theorem patternGeneratorOffers : Obligations.PatternGeneratorOffers := by
  unfold Obligations.PatternGeneratorOffers
  refine ⟨?_, ?_, ?_⟩
  · intro s tag camera c k ha hm hc hf hk hoff p
    rw [exec_startCameraPattern ha hm, State.takeStart_ok (s := s.taken) hc _ (Port.configured_of_parts hf hk) hoff,
      State.taken_reply]
    refine congrArg Host.Outcome.next ((State.startPattern_eq (s := s.answered 0x0C tag .ok) hk).trans ?_)
    simp only [State.answered_port, hoff]
    rfl
  · intro s c f g k hg hf hk goesTo
    have due {i : Instr} := State.patternDue_iff (s := s) (c := c) (i := i)
    have only : ∀ {i : Instr}, s.patternDue c = some i →
        (g.nextRow < f.hs ∧ patternRowTime g.interval g.nextRow f.hs ≤ g.elapsed ∧ i = .patternRow c)
        ∨ (g.nextRow = f.hs ∧ patternEndTime g.interval ≤ g.elapsed ∧ i = .patternFrameEnd c)
        ∨ (f.hs < g.nextRow ∧ g.interval ≤ g.elapsed ∧ i = .patternFrameStart c) := by
      intro i h
      obtain ⟨g', f', hg', hf', h⟩ := State.patternDue_iff.mp h
      cases hg.symm.trans hg'
      cases hf.symm.trans hf'
      exact h
    refine ⟨fun hr ht => ?_, fun h => ?_, fun hr ht => ?_, fun h => ?_, fun hr ht => ?_, fun h => ?_⟩
    · refine congrArg Host.Outcome.next
        ((State.whenPattern_due (due.mpr ⟨g, f, hg, hf, .inr (.inr ⟨hr, ht, rfl⟩)⟩)).trans ?_)
      simp only [State.patternStart, hk]
    · refine congrArg Host.Outcome.next (State.whenPattern_early fun hd => ?_)
      rcases only hd with ⟨-, -, hi⟩ | ⟨-, -, hi⟩ | ⟨hr, ht, -⟩
      · cases hi
      · cases hi
      · omega
    · refine ⟨patternLuma f.ws g.nextRow (s.port c).seq, patternChroma f.ws g.nextRow, by simp [patternLuma],
        fun j hj => patternLuma_get _ _ _ hj, rfl, congrArg Host.Outcome.next
          ((State.whenPattern_due (due.mpr ⟨g, f, hg, hf, .inl ⟨hr, ht, rfl⟩⟩)).trans ?_)⟩
      simp only [State.patternRow, hg, hf, if_pos hr]
      rfl
    · refine congrArg Host.Outcome.next (State.whenPattern_early fun hd => ?_)
      rcases only hd with ⟨hr, ht, -⟩ | ⟨-, -, hi⟩ | ⟨-, -, hi⟩
      · unfold patternRowTime at ht
        omega
      · cases hi
      · cases hi
    · refine congrArg Host.Outcome.next
        ((State.whenPattern_due (due.mpr ⟨g, f, hg, hf, .inr (.inl ⟨hr, ht, rfl⟩)⟩)).trans ?_)
      simp only [State.patternEnd, hg, hf, if_pos hr]
      rfl
    · refine congrArg Host.Outcome.next (State.whenPattern_early fun hd => ?_)
      rcases only hd with ⟨-, -, hi⟩ | ⟨hr, ht, -⟩ | ⟨-, -, hi⟩
      · cases hi
      · unfold patternEndTime at ht
        omega
      · cases hi
  · intro s c luma u v
    refine ⟨fun h => ?_, fun h => ⟨exec_frameStart_live h, exec_linePacket_live h luma u v, exec_frameEnd_live h⟩⟩
    have early : ∀ i : Instr, s.patternDue c ≠ some i := fun i hd => by simp [State.patternDue_off h] at hd
    exact ⟨congrArg Host.Outcome.next (State.whenPattern_early (early _)),
      congrArg Host.Outcome.next (State.whenPattern_early (early _)),
      congrArg Host.Outcome.next (State.whenPattern_early (early _))⟩

end Sys2Proof.Machine
end

section
/-!
PROOF. The Output Timing Generator's events (chapter 08, section 8.2; chapter 10, section 10.6).
-/

namespace Sys2Proof.Machine

/-! ### The raster event that is due (Table 22) -/

section Raster

variable {o : Otg} {f : OutFormat} {b : Blanking} {i : Instr} {q r : Nat} {begun ended : Bool}

/-- With format and blanking known, due is the next event whose pixel has come. -/
theorem Otg.rasterDue_iff_of (hf : o.format = some f) (hb : o.blanking = some b) : o.rasterDue = some i ↔
    ∃ n, nextRaster f b o.raster = some (n, i) ∧ 1000 * n < o.phase := by
  rw [Otg.rasterDue_iff]
  constructor
  · rintro ⟨f', b', n, hf', hb', h⟩
    cases hf.symm.trans hf'
    cases hb.symm.trans hb'
    exact ⟨n, h⟩
  · rintro ⟨n, h⟩
    exact ⟨f, b, n, hf, hb, h⟩

/-- What is due in a blanking line. -/
theorem Otg.rasterDue_blanking (hf : o.format = some f) (hb : o.blanking = some b) (hr : o.raster = .blanking q begun) :
    o.rasterDue = some i ↔
      (begun = false ∧ q + 1 < b.vb ∧ i = .blankingLineStart ∧ 1000 * ((q + 1) * linePixels f b) < o.phase)
        ∨ (begun = false ∧ b.vb ≤ q + 1 ∧ i = .outputFrameStart ∧ 1000 * ((b.vb - 1) * linePixels f b) < o.phase)
        ∨ (begun = true ∧ i = .lineStart ∧ 1000 * (b.vb * linePixels f b) < o.phase) := by
  rw [Otg.rasterDue_iff_of hf hb, hr]
  constructor
  · rintro ⟨n, h, hp⟩
    rcases nextRaster_blanking.mp h with ⟨h1, h2, hi, rfl⟩ | ⟨h1, h2, hi, rfl⟩ | ⟨h1, hi, rfl⟩
    · exact .inl ⟨h1, h2, hi, hp⟩
    · exact .inr (.inl ⟨h1, h2, hi, hp⟩)
    · exact .inr (.inr ⟨h1, hi, hp⟩)
  · rintro (⟨h1, h2, hi, hp⟩ | ⟨h1, h2, hi, hp⟩ | ⟨h1, hi, hp⟩)
    · exact ⟨_, nextRaster_blanking.mpr (.inl ⟨h1, h2, hi, rfl⟩), hp⟩
    · exact ⟨_, nextRaster_blanking.mpr (.inr (.inl ⟨h1, h2, hi, rfl⟩)), hp⟩
    · exact ⟨_, nextRaster_blanking.mpr (.inr (.inr ⟨h1, hi, rfl⟩)), hp⟩

/-- What is due in an active line. -/
theorem Otg.rasterDue_active (hf : o.format = some f) (hb : o.blanking = some b) (hr : o.raster = .active r ended) :
    o.rasterDue = some i ↔
      (r + 1 < f.ho ∧ i = .lineStart ∧ 1000 * ((b.vb + r + 1) * linePixels f b) < o.phase)
        ∨ (f.ho ≤ r + 1 ∧ ended = false ∧ i = .outputFrameEnd
          ∧ 1000 * ((b.vb + f.ho - 1) * linePixels f b + f.wo) < o.phase)
        ∨ (f.ho ≤ r + 1 ∧ ended = true ∧ i = .boundary ∧ 1000 * ((b.vb + f.ho) * linePixels f b) < o.phase) := by
  rw [Otg.rasterDue_iff_of hf hb, hr]
  constructor
  · rintro ⟨n, h, hp⟩
    rcases nextRaster_active.mp h with ⟨h1, hi, rfl⟩ | ⟨h1, h2, hi, rfl⟩ | ⟨h1, h2, hi, rfl⟩
    · exact .inl ⟨h1, hi, hp⟩
    · exact .inr (.inl ⟨h1, h2, hi, hp⟩)
    · exact .inr (.inr ⟨h1, h2, hi, hp⟩)
  · rintro (⟨h1, hi, hp⟩ | ⟨h1, h2, hi, hp⟩ | ⟨h1, h2, hi, hp⟩)
    · exact ⟨_, nextRaster_active.mpr (.inl ⟨h1, hi, rfl⟩), hp⟩
    · exact ⟨_, nextRaster_active.mpr (.inr (.inl ⟨h1, h2, hi, rfl⟩)), hp⟩
    · exact ⟨_, nextRaster_active.mpr (.inr (.inr ⟨h1, h2, hi, rfl⟩)), hp⟩

end Raster

/-! ### Events that are not due -/

section Early

variable {s : State} {i : Instr}

/-- The raster's events. -/
def Instr.ofRaster (i : Instr) : Prop :=
  i ∈ [Instr.boundary, .blankingLineStart, .outputFrameStart, .lineStart, .outputFrameEnd]

/-- A raster event that is not due leaves the state as it is (entry 4). -/
theorem exec_raster_early (hi : Instr.ofRaster i) (h : s.otg.rasterDue ≠ some i) : exec i s = .next s := by
  simp only [Instr.ofRaster, List.mem_cons, List.not_mem_nil, or_false] at hi
  rcases hi with rfl | rfl | rfl | rfl | rfl
  · refine congrArg Host.Outcome.next ?_
    split
    · exact State.whenRaster_early h
    · rfl
  all_goals exact congrArg Host.Outcome.next (State.whenRaster_early h)

/-- The frame end of the output reports the lines that underran (R147). -/
theorem State.reportUnderrun_eq {rec : Record} (h : s.zoom.current = some rec) : s.reportUnderrun =
    if rec.underruns = 0 then s else { s with link := s.link.raise (.underrun rec.frame rec.underruns) } := by
  by_cases hz : rec.underruns = 0
  · simp [State.reportUnderrun, h, hz]
  · rw [if_neg hz]
    simp only [State.reportUnderrun, h, if_pos (Nat.pos_of_ne_zero hz)]
    rfl

end Early

/-- Settles O44: each event of the raster at its pixel, or none. -/
theorem rasterEventsInOrder : Obligations.RasterEventsInOrder := by
  unfold Obligations.RasterEventsInOrder
  refine ⟨fun s => ⟨fun hs i hi => ?_, fun hm => ?_⟩, ?_⟩
  · exact exec_raster_early hi (by simp [Otg.rasterDue_stopped hs])
  · exact congrArg Host.Outcome.next (if_neg hm)
  · intro s f b hf hb line come
    have early : ∀ {i : Instr}, Instr.ofRaster i → ¬ s.otg.rasterDue = some i → exec i s = .next s :=
      fun hi h => exec_raster_early hi h
    refine ⟨fun q begun hr => ?_, fun r ended hr => ?_⟩
    · have due {i : Instr} := Otg.rasterDue_blanking (i := i) hf hb hr
      refine ⟨fun hg hq hp => ?_, fun h => ?_, fun hq hg hp => ?_, fun h => ?_, fun h => ?_, ?_, ?_⟩
      · refine congrArg Host.Outcome.next ((State.whenRaster_due (due.mpr (.inl ⟨hg, hq, rfl, hp⟩))).trans ?_)
        simp [State.blankingLine, hb, hr, Raster.nextBlanking, hq, hg]
      · refine early (by simp [Instr.ofRaster]) fun hd => ?_
        rcases due.mp hd with ⟨hg, hq, -, hp⟩ | ⟨-, -, hi, -⟩ | ⟨-, hi, -⟩
        · rcases h with h | h | h
          · simp [hg] at h
          · omega
          · exact h hp
        · cases hi
        · cases hi
      · refine congrArg Host.Outcome.next
          ((State.whenRaster_due (due.mpr (.inr (.inl ⟨hg, Nat.le_of_eq hq.symm, rfl, hp⟩)))).trans ?_)
        have hlast : b.vb - 1 = q := by omega
        simp [State.outputFrameStart, hb, hr, Raster.frameStartDue, hq, hg, hlast]
      · by_cases hq : q + 1 = b.vb
        · refine early (by simp [Instr.ofRaster]) fun hd => ?_
          rcases due.mp hd with ⟨-, -, hi, -⟩ | ⟨hg, -, -, hp⟩ | ⟨-, hi, -⟩
          · cases hi
          · rcases h with h | h | h
            · exact h hq
            · simp [hg] at h
            · exact h hp
          · cases hi
        · have hstays : s.outputFrameStart = s := by simp [State.outputFrameStart, hb, hr, Raster.frameStartDue, hq]
          refine congrArg Host.Outcome.next ?_
          rw [hstays]
          exact ite_self _
      · refine early (by simp [Instr.ofRaster]) fun hd => ?_
        rcases due.mp hd with ⟨-, -, hi, -⟩ | ⟨-, -, hi, -⟩ | ⟨hg, -, hp⟩
        · cases hi
        · cases hi
        · rcases h with h | h
          · simp [hg] at h
          · exact h hp
      all_goals
        refine early (by simp [Instr.ofRaster]) fun hd => ?_
        rcases due.mp hd with ⟨-, -, hi, -⟩ | ⟨-, -, hi, -⟩ | ⟨-, hi, -⟩ <;> cases hi
    · have due {i : Instr} := Otg.rasterDue_active (i := i) hf hb hr
      refine ⟨?_, ?_, fun h => ?_, fun h => ?_, fun h => ?_, fun rec hq hg hp hrec => ?_⟩
      · refine early (by simp [Instr.ofRaster]) fun hd => ?_
        rcases due.mp hd with ⟨-, hi, -⟩ | ⟨-, -, hi, -⟩ | ⟨-, -, hi, -⟩ <;> cases hi
      · refine early (by simp [Instr.ofRaster]) fun hd => ?_
        rcases due.mp hd with ⟨-, hi, -⟩ | ⟨-, -, hi, -⟩ | ⟨-, -, hi, -⟩ <;> cases hi
      · refine early (by simp [Instr.ofRaster]) fun hd => ?_
        rcases due.mp hd with ⟨hq, -, hp⟩ | ⟨-, -, hi, -⟩ | ⟨-, -, hi, -⟩
        · rcases h with h | h
          · omega
          · exact h hp
        · cases hi
        · cases hi
      · by_cases hq : r + 1 = f.ho
        · refine early (by simp [Instr.ofRaster]) fun hd => ?_
          rcases due.mp hd with ⟨-, hi, -⟩ | ⟨-, hg, -, hp⟩ | ⟨-, -, hi, -⟩
          · cases hi
          · rcases h with h | h | h
            · exact h hq
            · simp [hg] at h
            · exact h hp
          · cases hi
        · have hstays : s.outputFrameEnd = s := by simp [State.outputFrameEnd, hf, hr, Raster.frameEndDue, hq]
          refine congrArg Host.Outcome.next ?_
          rw [hstays]
          exact ite_self _
      · refine early (by simp [Instr.ofRaster]) fun hd => ?_
        rcases due.mp hd with ⟨-, hi, -⟩ | ⟨-, -, hi, -⟩ | ⟨hq, hg, -, hp⟩
        · cases hi
        · cases hi
        · rcases h with h | h | h
          · omega
          · simp [hg] at h
          · exact h hp
      · have hlast : f.ho - 1 = r := by omega
        refine congrArg Host.Outcome.next
          ((State.whenRaster_due (due.mpr (.inr (.inl ⟨Nat.le_of_eq hq.symm, hg, rfl, hp⟩)))).trans ?_)
        simp only [State.outputFrameEnd, hf, hr, Raster.frameEndDue, hq, hg, hlast, beq_self_eq_true, Bool.not_false,
          Bool.and_self, if_true]
        exact State.reportUnderrun_eq hrec

/-! ### Frame sync (R175, R176, Table 29) -/

section FrameSync

variable {s : State} {o : Otg} {c : Cam} {p : Pulse} {b : FsyncBody} {tag camera : Byte}

/-- The fields of SET_FSYNC in range. -/
theorem fsyncOf_ok (hp : b.polarity.toNat ≤ 1) (hl : 1 ≤ b.width.toNat) (hh : b.width.toNat ≤ 1000) :
    fsyncOf b = some ⟨decide (b.enable ≠ 0), decide (b.polarity = 1), b.offset.toNat, b.width.toNat⟩ := by
  have henable : flagOf b.enable = decide (b.enable ≠ 0) := by
    rw [flagOf, bne, beq_eq_decide, decide_not]
  have hpolarity : (b.polarity == 1) = decide (b.polarity = 1) := beq_eq_decide _ _
  rw [fsyncOf, if_pos (by simp [inRange, hp, hl, hh]), henable, hpolarity]

/-- A field of SET_FSYNC out of range. -/
theorem fsyncOf_bad (h : 1 < b.polarity.toNat ∨ b.width = 0 ∨ 1000 < b.width.toNat) : fsyncOf b = none := by
  refine if_neg fun hok => ?_
  simp only [inRange, Bool.and_eq_true, decide_eq_true_eq] at hok
  rcases h with h | h | h
  · omega
  · rw [h] at hok
    exact absurd hok.2.1 (by decide)
  · omega

theorem exec_setFsync_bad (ha : s.canAccept) (hm : s.mode ≠ .booting) (tag : Byte)
    (h : camOf camera = none ∨ fsyncOf b = none) : exec (.setFsync tag camera b) s = .next (s.answered 0x09 tag .badField) := by
  refine congrArg Host.Outcome.next ((State.acceptLive_ok ha hm 0x09 tag _).trans ?_)
  rcases h with h | h
  · simp only [h]
    rfl
  · simp only [h]
    cases camOf camera <;> rfl

theorem exec_setFsync_ok {x : Fsync} (ha : s.canAccept) (hm : s.mode ≠ .booting) (tag : Byte) (hc : camera.toNat = c.idx)
    (hx : fsyncOf b = some x) :
    exec (.setFsync tag camera b) s = .next ((s.setFsync c x).answered 0x09 tag .ok [flagByte (s.fsyncFlag x)]) := by
  refine congrArg Host.Outcome.next ((State.acceptLive_ok ha hm 0x09 tag _).trans ?_)
  simp only [camOf_of_idx hc, hx, State.setFsync]
  by_cases hr : s.mode = .run
  · rw [if_pos (c := s.taken.mode = .run) hr, if_pos hr]
    rfl
  · rw [if_neg (c := s.taken.mode = .run) hr, if_neg hr]
    rfl

/-- The CLAMPED flag of SET_FSYNC as written out. -/
theorem State.fsyncFlag_eq {f : OutFormat} {k : Blanking} (hf : s.otg.format = some f) (hk : s.otg.blanking = some k)
    (x : Fsync) : s.fsyncFlag x = !decide (min x.width (frameMicros f k) = x.width ∧
      min x.offset (frameMicros f k - min x.width (frameMicros f k)) = x.offset) := by
  simp only [State.fsyncFlag, hf, hk, fsyncClamped, effectiveWidth, effectiveOffset, Bool.decide_and, Bool.not_and]
  rfl

/-! Pulses -/

theorem Otg.pulseStart_due (h : o.pulse.get c = some p) (hs : p.started = false) (he : p.offset ≤ p.elapsed) :
    o.pulseStart c = { o with
      pulse := o.pulse.set c (some { p with started := true }), lineActive := o.lineActive.set c true } := by
  simp only [Otg.pulseStart, h]
  exact if_pos (by simp [hs, he])

theorem Otg.pulseEnd_due (h : o.pulse.get c = some p) (hs : p.started = true) (he : p.ended = false)
    (hw : p.offset + p.width ≤ p.elapsed) : o.pulseEnd c = { o with
      pulse := o.pulse.set c (some { p with ended := true }), lineActive := o.lineActive.set c false } := by
  simp only [Otg.pulseEnd, h]
  exact if_pos (by simp [hs, he, hw])

/-- Without a pulse neither event has an occasion. -/
theorem Otg.pulse_none (h : o.pulse.get c = none) : o.pulseStart c = o ∧ o.pulseEnd c = o := by
  simp [Otg.pulseStart, Otg.pulseEnd, h]

/-- The two pulse events act on the timing generator alone. -/
theorem exec_pulses : exec (.fsyncPulseStart c) s = .next { s with otg := s.otg.pulseStart c } ∧
    exec (.fsyncPulseEnd c) s = .next { s with otg := s.otg.pulseEnd c } := ⟨rfl, rfl⟩

/-- A camera's level is a matter of its line and of its applied polarity. -/
theorem Otg.fsyncLevel_of {o q : Otg} (hl : q.lineActive.get c = o.lineActive.get c) (hf : q.fsync.get c = o.fsync.get c) :
    q.fsyncLevel c = o.fsyncLevel c := by
  rw [Otg.fsyncLevel, Otg.fsyncLevel, hl, hf]

end FrameSync

/-- Settles O46: the settings by mode, the pulse at its counts, and the level from line and polarity. -/
theorem frameSyncSetAndPulsed : Obligations.FrameSyncSetAndPulsed := by
  unfold Obligations.FrameSyncSetAndPulsed
  refine ⟨?requests, ?pulses, ?idle, ?levels, ?driven, ?polarity⟩
  case requests =>
    intro s tag camera b ha hm
    refine ⟨fun h => ?_, ?_, ?_⟩
    · rcases h with h | h
      · exact exec_setFsync_bad ha hm tag (.inl (camOf_of_gt h))
      · exact exec_setFsync_bad ha hm tag (.inr (fsyncOf_bad h))
    · intro c f k hc hp hl hh hf hk x pus width clamped
      have hflag : flagByte (s.fsyncFlag x) = clamped := by
        rw [State.fsyncFlag_eq hf hk]
        by_cases h : width = b.width.toNat ∧ min b.offset.toNat (pus - width) = b.offset.toNat
        · exact (congrArg flagByte (congrArg not (decide_eq_true h))).trans (if_pos h).symm
        · exact (congrArg flagByte (congrArg not (decide_eq_false h))).trans (if_neg h).symm
      rw [exec_setFsync_ok ha hm tag hc (fsyncOf_ok hp hl hh), hflag]
      refine ⟨fun hconf => ?_, fun hrun => ?_⟩
      · rw [State.setFsync, if_neg (by simp [hconf])]
      · rw [State.setFsync, if_pos hrun]
    · intro c hc hp hl hh hf hconf x
      rw [exec_setFsync_ok ha hm tag hc (fsyncOf_ok hp hl hh), State.setFsync, if_neg (by simp [hconf])]
      simp only [State.fsyncFlag, hf]
      rfl
  case pulses =>
    intro s c p h
    rw [exec_pulses.1, exec_pulses.2]
    refine ⟨fun hs he => ?_, fun hs he hw => ?_, fun hs => ?_, fun hs => ?_⟩
    · rw [Otg.pulseStart_due h hs he]
    · rw [Otg.pulseEnd_due h hs he hw]
    · rw [Otg.pulseStart_early h hs]
    · rw [Otg.pulseEnd_early h hs]
  case idle =>
    intro s c h
    rw [exec_pulses.1, exec_pulses.2, (Otg.pulse_none h).1, (Otg.pulse_none h).2]
    exact ⟨rfl, rfl⟩
  case levels =>
    intro o c levels
    refine ⟨fun h => ?_, fun h => ?_⟩ <;> simp only [levels, Otg.fsyncLevel, h] <;> cases o.lineActive.get c <;> rfl
  case driven =>
    intro s c p h drives high
    have other : ∀ {q : Otg} {d : Cam} {x : Bool}, d ≠ c → q.lineActive = s.otg.lineActive.set c x →
        q.fsync = s.otg.fsync → q.fsyncLevel d = s.otg.fsyncLevel d := fun hd hq hf =>
      Otg.fsyncLevel_of (by rw [hq, Quad.get_set_ne _ _ hd]) (by rw [hf])
    refine ⟨fun hs he => ⟨_, exec_pulses.1, ?_⟩, fun hs he hw => ⟨_, exec_pulses.2, ?_⟩⟩
    · rw [Otg.pulseStart_due h hs he]
      exact ⟨by simp [Otg.fsyncLevel, high], fun d hd => other hd rfl rfl⟩
    · rw [Otg.pulseEnd_due h hs he hw]
      exact ⟨by simp [Otg.fsyncLevel, high], fun d hd => other hd rfl rfl⟩
  case polarity =>
    intro s tag camera b c ha hc hp hl hh hline
    by_cases hm : s.mode = .booting
    · refine ⟨_, congrArg Host.Outcome.next (State.acceptLive_booting ha hm 0x09 tag _), ?_, ?_⟩ <;> simp [hm]
    · refine ⟨_, exec_setFsync_ok ha hm tag hc (fsyncOf_ok hp hl hh), fun hconf => ?_, fun hrun => ?_⟩
      · rw [State.setFsync, if_neg (by simp [hconf])]
        simp [State.answered, Otg.fsyncLevel, hline]
      · rw [State.setFsync, if_pos hrun]
        rfl

/-! ### The start of a line (R144, R145) -/

section Line

variable {s : State} {f : OutFormat} {b : Blanking} {rec : Record} {r : Nat} {e o i : SourceEntry} {g : Format}
  {d : ReadData}

/-- The line that starts next. -/
theorem exec_lineStart (hf : s.otg.format = some f) (hb : s.otg.blanking = some b) (hrec : s.zoom.current = some rec)
    (hr : r < f.ho) (hp : 1000 * ((b.vb + r) * linePixels f b) < s.otg.phase)
    (hraster : (∃ q, s.otg.raster = .blanking q true ∧ r = 0) ∨ ∃ e, s.otg.raster = .active (r - 1) e ∧ 0 < r) :
    exec .lineStart s = .next (s.startLine rec f.wo f.ho r) := by
  have hdue : s.otg.rasterDue = some .lineStart := by
    rcases hraster with ⟨q, hq, rfl⟩ | ⟨ended, hq, hpos⟩
    · exact (Otg.rasterDue_blanking hf hb hq).mpr (.inr (.inr ⟨rfl, rfl, hp⟩))
    · obtain ⟨p, rfl⟩ : ∃ p, r = p + 1 := ⟨r - 1, by omega⟩
      exact (Otg.rasterDue_active hf hb hq).mpr (.inl ⟨hr, rfl, hp⟩)
  have hnext : s.otg.raster.nextLine f.ho = some r := by
    rcases hraster with ⟨q, hq, rfl⟩ | ⟨ended, hq, hpos⟩
    · simp [hq, Raster.nextLine, hr]
    · obtain ⟨p, rfl⟩ : ∃ p, r = p + 1 := ⟨r - 1, by omega⟩
      simp [hq, Raster.nextLine, hr]
  refine congrArg Host.Outcome.next ((State.whenRaster_due hdue).trans ?_)
  simp only [State.lineStart, hf, hrec, hnext]

/-- The lines the primary source serves (R140). -/
theorem Record.primaryServes_iff (h : r < f.ho) : (rec.primaryServes f.ho).has r = true ↔
    rec.primary ≠ none ∧ ∀ a b split, rec.engine = .compare a b split → r < split := by
  unfold Record.primaryServes Served.has
  cases hp : rec.primary with
  | none => simp
  | some e => cases he : rec.engine <;> simp [h]

/-- The lines the secondary source serves (R140). -/
theorem Record.secondaryServes_iff (h : r < f.ho) : (rec.secondaryServes f.ho).has r = true ↔
    rec.secondary ≠ none ∧ ((∃ o i k n dir, rec.engine = .blend o i k n dir)
      ∨ ∃ a b split, rec.engine = .compare a b split ∧ split ≤ r) := by
  unfold Record.secondaryServes Served.has
  cases hp : rec.secondary with
  | none => simp
  | some e => cases he : rec.engine <;> simp [h]

/-- A source's share from the rows held for the line. -/
theorem State.share_some {w : Window} {wo : Nat} (hd : w.rowsOf r = some d) (hg : (s.port e.camera).format = some g) :
    s.share w e wo r = some (sourceLine d e.geometry e.corr g wo r) := by
  simp only [State.share, hd, hg]

theorem State.share_none {w : Window} {wo : Nat} (hd : w.rowsOf r = none) : s.share w e wo r = none := by
  simp only [State.share, hd]

/-- The samples of a line that is ready, by the sources that serve it (R100, R101, R144). -/
theorem State.readyLine_black {wo ho : Nat} (h1 : (rec.primaryServes ho).has r = false)
    (h2 : (rec.secondaryServes ho).has r = false) : s.readyLine rec wo ho r = some (blackLine wo r) := by
  simp [State.readyLine, h1, h2]

theorem State.readyLine_primary {wo ho : Nat} (h1 : (rec.primaryServes ho).has r = true)
    (h2 : (rec.secondaryServes ho).has r = false) (he : rec.primary = some e) :
    s.readyLine rec wo ho r = s.share s.composer.rp e wo r := by
  simp [State.readyLine, h1, h2, he]

theorem State.readyLine_secondary {wo ho : Nat} (h1 : (rec.primaryServes ho).has r = false)
    (h2 : (rec.secondaryServes ho).has r = true) (he : rec.secondary = some e) :
    s.readyLine rec wo ho r = s.share s.composer.rs e wo r := by
  simp [State.readyLine, h1, h2, he]

theorem State.readyLine_both {wo ho : Nat} (h1 : (rec.primaryServes ho).has r = true)
    (h2 : (rec.secondaryServes ho).has r = true) (hfirst : rec.primary = some o) (hsecond : rec.secondary = some i) :
    s.readyLine rec wo ho r = match s.share s.composer.rp o wo r, s.share s.composer.rs i wo r with
      | some x, some y => some (blendLine rec.weight x y)
      | _, _ => none := by
  simp only [State.readyLine, h1, h2, hfirst, hsecond, if_true] <;> rfl

/-- A line with a source whose rows are not there is not ready (R145). -/
theorem State.readyLine_missing (hr : r < f.ho)
    (h : ((rec.primaryServes f.ho).has r = true ∧ s.composer.rp.rowsOf r = none)
      ∨ ((rec.secondaryServes f.ho).has r = true ∧ s.composer.rs.rowsOf r = none)) :
    s.readyLine rec f.wo f.ho r = none := by
  have primary : (rec.primaryServes f.ho).has r = true → ∃ e, rec.primary = some e := fun h =>
    Option.ne_none_iff_exists'.mp ((Record.primaryServes_iff hr).mp h).1
  have secondary : (rec.secondaryServes f.ho).has r = true → ∃ e, rec.secondary = some e := fun h =>
    Option.ne_none_iff_exists'.mp ((Record.secondaryServes_iff hr).mp h).1
  rcases h with ⟨h1, hm⟩ | ⟨h2, hm⟩
  · obtain ⟨o, ho⟩ := primary h1
    cases h2 : (rec.secondaryServes f.ho).has r with
    | false => rw [State.readyLine_primary h1 h2 ho, State.share_none hm]
    | true =>
      obtain ⟨i, hi⟩ := secondary h2
      rw [State.readyLine_both h1 h2 ho hi, State.share_none hm]
  · obtain ⟨i, hi⟩ := secondary h2
    cases h1 : (rec.primaryServes f.ho).has r with
    | false => rw [State.readyLine_secondary h1 h2 hi, State.share_none hm]
    | true =>
      obtain ⟨o, ho⟩ := primary h1
      rw [State.readyLine_both h1 h2 ho hi, State.share_none hm]
      cases s.share s.composer.rp o f.wo r <;> rfl

end Line

/-- Settles O45: what each line sends, by the sources that serve it and the rows that are there. -/
theorem lineStartSendsLine : Obligations.LineStartSendsLine := by
  unfold Obligations.LineStartSendsLine
  intro s f b rec r hf hb hrec hr hp hraster refill sends bytes first second
  have starts := exec_lineStart hf hb hrec hr hp hraster
  have ready : ∀ x, s.readyLine rec f.wo f.ho r = some x → sends (bytes x.luma) (bytes x.u) (bytes x.v) rec.underruns := by
    intro x hx
    have hdecide : s.decideLine rec f.wo f.ho r = (⟨sampleBytes x.luma, sampleBytes x.u, sampleBytes x.v⟩, false) := by
      rw [State.decideLine, hx]
    show exec .lineStart s = _
    rw [starts, State.startLine, hdecide]
    rfl
  refine ⟨Record.primaryServes_iff hr, Record.secondaryServes_iff hr, ?_⟩
  intro chroma
  refine ⟨fun h1 h2 => ?_, fun e d g h1 h2 he hd hg => ?_, fun e d g h1 h2 he hd hg => ?_,
    fun o i d d' g g' h1 h2 ho hi hd hd' hg hg' => ?_, fun h => ?_⟩
  · have := ready _ (State.readyLine_black h1 h2)
    have hchroma : bytes (if r % 2 = 0 then List.replicate (f.wo / 2) 128 else []) = chroma 128 := by
      simp only [bytes, chroma]
      split
      · rw [List.map_replicate]
        rfl
      · rfl
    have hluma : bytes (List.replicate f.wo 16) = List.replicate f.wo 16 := by
      simp only [bytes]
      rw [List.map_replicate]
      rfl
    rw [← hchroma, ← hluma]
    exact this
  · exact ready _ ((State.readyLine_primary h1 h2 he).trans (State.share_some hd hg))
  · exact ready _ ((State.readyLine_secondary h1 h2 he).trans (State.share_some hd hg))
  · refine ready (blendLine rec.weight _ _) ?_
    rw [State.readyLine_both h1 h2 ho hi, State.share_some hd hg, State.share_some hd' hg']
  · have hdecide : s.decideLine rec f.wo f.ho r = (s.composer.copyLine f.wo r, true) := by
      rw [State.decideLine, State.readyLine_missing hr h]
    have hchroma : ∀ last : Option (List Byte), (if r % 2 = 0 then (if r = 0 then List.replicate (f.wo / 2) 128
          else last.getD (List.replicate (f.wo / 2) 128)) else []) =
        if r % 2 = 0 then (if r = 0 then chroma 128 else last.getD (chroma 128)) else [] := by
      intro last
      by_cases he : r % 2 = 0
      · simp only [chroma, if_pos he]
      · rw [if_neg he, if_neg he]
    show exec .lineStart s = _
    rw [starts, State.startLine, hdecide, ← hchroma, ← hchroma]
    rfl

/-! ### The stop of the output (R138, R139) -/

section Stop

variable {s : State} {f : OutFormat} {b : Blanking} {r : Record} {last : Nat} {tag : Byte}

/-- Without a name every pin is removed (R139). -/
theorem pinRing_none (ring : List Slot) : pinRing none ring = ring.map Slot.unpin := by
  refine List.ext_getElem? fun k => ?_
  rw [pinRing, List.getElem?_mapIdx, List.getElem?_map]

/-- The boundary at its pixel (Table 22). -/
theorem exec_boundary (hm : s.mode = .run) (hf : s.otg.format = some f) (hb : s.otg.blanking = some b)
    (hr : s.otg.raster = .active last true) (hl : f.ho ≤ last + 1)
    (hp : 1000 * ((f.wo + b.hb) * (f.ho + b.vb)) < s.otg.phase) : exec .boundary s = .next s.boundary := by
  rw [Nat.add_comm f.ho] at hp
  refine congrArg Host.Outcome.next ((if_pos hm).trans (State.whenRaster_due ?_))
  exact (Otg.rasterDue_active hf hb hr).mpr (.inr (.inr ⟨hl, rfl, rfl, by rwa [Nat.mul_comm (b.vb + f.ho)]⟩))

theorem exec_stopOutput (ha : s.canAccept) (hm : s.mode = .run) (tag : Byte) :
    exec (.stopOutput tag) s = .next (s.taken.takeStopOutput tag) :=
  congrArg Host.Outcome.next (State.acceptIn_ok ha hm 0x0F tag _)

/-- The shadow blanking and the pending settings in force (R134, R175). -/
theorem Otg.applyShadowed_eq (o : Otg) : o.applyShadow.applyFsync = { o with
    blanking := (match o.shadow with | some x => some x | none => o.blanking), shadow := none
    fsync := Quad.tab fun c => (o.fsyncPending.get c).getD (o.fsync.get c), fsyncPending := .const none } := by
  unfold Otg.applyShadow Otg.applyFsync
  cases h : o.shadow <;> simp [h]

/-- The pending arbitration table in force (R161). -/
theorem Arbiter.applyPending_eq (a : Arbiter) : a.applyPending = match a.pendingTable with
    | some table => { a with table := table, pendingTable := none, wheelPtr := 0, robinPtr := 0 }
    | none => a := by
  unfold Arbiter.applyPending
  cases a.pendingTable <;> rfl

/-- The raster with the settings of a boundary in force and the metadata line at its port (R131, R134, R136, R175). -/
def Otg.sent (o : Otg) (line : Packet) : Otg := { o with
  blanking := (match o.shadow with | some x => some x | none => o.blanking), shadow := none
  fsync := Quad.tab fun c => (o.fsyncPending.get c).getD (o.fsync.get c), fsyncPending := .const none, outPort := some line }

/-- A boundary before its composition (R131, R134, R136, R148, R161, R175). -/
def State.sent (s : State) (wo : Nat) : State := { s with
  link := (match s.zoom.current with
    | some x => s.link.raise (.frameDone x.frame s.timebase)
    | none => s.link)
  otg := s.otg.sent (metadataLine wo s.zoom.current)
  arbiter := (match s.arbiter.pendingTable with
    | some table => { s.arbiter with table := table, pendingTable := none, wheelPtr := 0, robinPtr := 0 }
    | none => s.arbiter) }

theorem State.sent_eq (hf : s.otg.format = some f) : s.applyShadowed.sendMetadata.frameDone = s.sent f.wo := by
  simp only [State.applyShadowed, State.sendMetadata, State.frameDone, State.send, Otg.applyShadowed_eq,
    Arbiter.applyPending_eq, hf]
  cases hrec : s.zoom.current <;> simp only [State.sent, Otg.sent, hrec, hf] <;> rfl

/-- A boundary before its composition or its stop: shadowed settings in force, the metadata line and FRAME_DONE of the frame
just sent (R131, R134, R136, R148, R161, R175). -/
theorem State.frameSent_eq (hf : s.otg.format = some f) (hrec : s.zoom.current = some r) :
    s.applyShadowed.sendMetadata.frameDone = { s with
      link := s.link.raise (.frameDone r.frame s.timebase)
      otg := { s.otg with
        blanking := (match s.otg.shadow with | some x => some x | none => s.otg.blanking), shadow := none
        fsync := Quad.tab fun c => (s.otg.fsyncPending.get c).getD (s.otg.fsync.get c), fsyncPending := .const none
        outPort := some (metadataLine f.wo (some r)) }
      arbiter := (match s.arbiter.pendingTable with
        | some table => { s.arbiter with table := table, pendingTable := none, wheelPtr := 0, robinPtr := 0 }
        | none => s.arbiter) } := by
  rw [State.sent_eq hf, State.sent, Otg.sent, hrec]

/-- What the stop of the output leaves, its request the first open one of its name (R139). -/
theorem State.endOutput_eq (hf : s.otg.format = some f) (hrec : s.zoom.current = some r) (id : Nat) :
    s.endOutput id = { s with
      mode := .config
      link := (s.link.raise (.frameDone r.frame s.timebase)).answer id .ok []
      ports := Quad.tab fun c => { s.port c with ring := (s.port c).ring.map Slot.unpin }
      zoom := s.zoom.stopped
      otg := { s.otg with
        blanking := (match s.otg.shadow with | some x => some x | none => s.otg.blanking), shadow := none
        raster := .stopped, phase := 0, stopPending := none
        fsync := Quad.tab fun c => (s.otg.fsyncPending.get c).getD (s.otg.fsync.get c), fsyncPending := .const none
        pulse := .const none, lineActive := .const false, outPort := some (metadataLine f.wo (some r)) }
      composer := .reset
      arbiter := (match s.arbiter.pendingTable with
        | some table => { s.arbiter with table := table, pendingTable := none, wheelPtr := 0, robinPtr := 0 }
        | none => s.arbiter) } := by
  rw [State.endOutput, State.frameSent_eq hf hrec]
  simp only [State.applyPins, pinRing_none]
  rfl

end Stop

/-- Settles O43: the request stays open until the boundary that stops the output answers it. -/
theorem stopOutputTakesEffect : Obligations.StopOutputTakesEffect := by
  unfold Obligations.StopOutputTakesEffect
  refine ⟨fun s tag ha hm => ⟨fun h => ?_, fun h => ?_⟩, ?_⟩
  · rw [exec_stopOutput ha hm, State.takeStopOutput, show s.taken.otg.stopPending = none from h]
    rfl
  · obtain ⟨id, hid⟩ := Option.ne_none_iff_exists'.mp h
    rw [exec_stopOutput ha hm, State.takeStopOutput, show s.taken.otg.stopPending = some id from hid]
    rfl
  · intro s f b r id last tag pre post hm hid hf hrec hb hr hl hp hopened hpre noticed
    obtain ⟨-, -, -, hkept, -⟩ := Link.raise_frame s.link (.frameDone r.frame s.timebase)
    have hanswer : noticed.answer id .ok [] = _ := Link.answer_of_open (hkept.trans hopened) hpre .ok []
    rw [exec_boundary hm hf hb hr hl hp, State.boundary, hid]
    refine congrArg Host.Outcome.next ((State.endOutput_eq hf hrec id).trans ?_)
    rw [hanswer]
    rfl

end Sys2Proof.Machine
end

section
/-!
PROOF. The requests of the zoom ramp (chapter 03, sections 3.2 and 3.3).
-/

namespace Sys2Proof.Machine

section ZoomTo

variable {s : State} {tag : Byte} {target frames : Half}

/-- A requested zoom, first into the field range and then to the bounds (R42). -/
theorem State.clampZoom_eq (s : State) (z : Nat) :
    let field := max 256 (min 40960 z)
    s.clampZoom z = if field < s.zoomBounds.1 then s.zoomBounds.1 else if s.zoomBounds.2 < field then s.zoomBounds.2
      else field := by
  have hfield : clampNat Config.zoomMin Config.zoomMax z = max 256 (min 40960 z) := clampNat_eq (by decide) z
  rw [State.clampZoom, hfield]
  rfl

/-- The CLAMPED flag of ZOOM_TO. -/
theorem State.targetClamped_eq (s : State) (z : Nat) : flagByte (s.targetClamped z) =
    if s.clampZoom z = z ∧ max 256 (min 40960 z) = z then 0 else 1 := by
  have hfield : clampNat Config.zoomMin Config.zoomMax z = max 256 (min 40960 z) := clampNat_eq (by decide) z
  rw [State.targetClamped, hfield]
  by_cases hf : max 256 (min 40960 z) = z
  · by_cases hg : s.clampZoom z = z <;> simp [hf, hg, flagByte]
  · simp [hf, flagByte]

/-- A queue with a segment more, or one in place of all, answered with what was taken (R42 to R44). -/
theorem State.zoomTo_eq (mode : RampMode) : s.taken.zoomTo tag target.toNat frames.toNat mode =
    let g : Segment := ⟨s.clampZoom target.toNat, max 1 frames.toNat, mode, none⟩
    let queue := joinQueue s.zoom.queue g mode
    ({ s with zoom := { s.zoom with queue := queue } }).answered 0x10 tag .ok
      (bytes16 (BitVec.ofNat 16 g.target) ++ bytes16 (BitVec.ofNat 16 g.frames)
        ++ [flagByte (s.targetClamped target.toNat), BitVec.ofNat 8 queue.length]) := by
  simp only [State.zoomTo]
  rw [List.append_assoc]
  rfl

theorem exec_zoomToAppend (ha : s.canAccept) (hm : s.mode = .run) (mode : Byte) :
    exec (.zoomToAppend tag target frames mode) s =
      .next (s.taken.takeZoomTo tag target.toNat frames.toNat (rampModeOf mode)) :=
  congrArg Host.Outcome.next (State.acceptIn_ok ha hm 0x10 tag _)

theorem exec_zoomToReplace (ha : s.canAccept) (hm : s.mode = .run) :
    exec (.zoomToReplace tag target frames) s = .next (s.taken.zoomTo tag target.toNat frames.toNat .replace) :=
  congrArg Host.Outcome.next (State.acceptIn_ok ha hm 0x10 tag _)

theorem exec_zoomCancel (ha : s.canAccept) (hm : s.mode = .run) : exec (.zoomCancel tag) s = .next (s.taken.zoomCancel tag) :=
  congrArg Host.Outcome.next (State.acceptIn_ok ha hm 0x11 tag _)

theorem rampModeOf_of_gt {mode : Byte} (h : 1 < mode.toNat) : rampModeOf mode = none := by
  unfold rampModeOf
  split
  · omega
  · omega
  · rfl

end ZoomTo

/-- Settles O47: a clamped segment behind the others or in place of them; none after ZOOM_CANCEL. -/
theorem zoomRampRequests : Obligations.ZoomRampRequests := by
  unfold Obligations.ZoomRampRequests
  intro s tag target frames ha hm field lo hi goal count body queued
  have hgoal : s.clampZoom target.toNat = goal := s.clampZoom_eq target.toNat
  have hflag : flagByte (s.targetClamped target.toNat) = if goal = target.toNat ∧ field = target.toNat then 0 else 1 := by
    rw [← hgoal]
    exact s.targetClamped_eq target.toNat
  have taken : ∀ mode, Host.Outcome.next (s.taken.zoomTo tag target.toNat frames.toNat mode) =
      queued (joinQueue s.zoom.queue ⟨goal, count, mode, none⟩ mode) := fun mode => by
    rw [State.zoomTo_eq, hgoal, hflag]
  refine ⟨fun hq => ?_, fun hq => ?_, ?_, fun mode h => ?_, fun r hr => ?_⟩
  · rw [exec_zoomToAppend ha hm, show rampModeOf 0 = some .append from rfl, State.takeZoomTo]
    rw [if_neg (c := Config.rampDepth ≤ s.taken.zoom.queue.length) (Nat.not_le.mpr hq)]
    exact taken .append
  · rw [exec_zoomToAppend ha hm, show rampModeOf 0 = some .append from rfl, State.takeZoomTo]
    rw [if_pos (c := Config.rampDepth ≤ s.taken.zoom.queue.length) hq]
    rfl
  · rw [exec_zoomToReplace ha hm]
    exact taken .replace
  · rw [exec_zoomToAppend ha hm, rampModeOf_of_gt h]
    rfl
  · rw [exec_zoomCancel ha hm]
    have hlast : s.taken.zoom.lastApplied = r.applied := by
      rw [Zoom.lastApplied, show s.taken.zoom.current = some r from hr]
    rw [State.zoomCancel, hlast]
    rfl

/-! ### The ramp of a segment (R47 to R49) -/

section Ramp

variable {bounds : Nat × Nat} {zs target frames rest : Nat} {frame : Word} {queue : List Segment} {i j d : Nat}

theorem clampNotice_eq (frame : Word) (old new : Nat) :
    clampNotice frame old new = if new = old then [] else [.zoomLimit .clamped new frame] := by
  simp only [clampNotice, eq_comm]

/-- How far a segment of `frames` steps over a distance `d` has come after step `i`. -/
def rampDone (d frames i : Nat) : Nat := (d * (i + 1) + frames / 2) / frames

theorem candidateOf_eq (zs target frames i : Nat) : candidateOf zs target frames i =
    if zs ≤ target then zs + rampDone (target - zs) frames i else zs - rampDone (zs - target) frames i := rfl

theorem rampDone_last (h : 1 ≤ frames) : rampDone d frames (frames - 1) = d := by
  have half : frames / 2 / frames = 0 := Nat.div_eq_of_lt (by omega)
  rw [rampDone, Nat.sub_add_cancel h, Nat.mul_comm, Nat.mul_add_div h, half, Nat.add_zero]

theorem rampDone_mono (h : i ≤ j) : rampDone d frames i ≤ rampDone d frames j :=
  Nat.div_le_div_right (Nat.add_le_add_right (Nat.mul_le_mul_left d (Nat.succ_le_succ h)) _)

/-- A segment does not pass its target. -/
theorem rampDone_le (h : j < frames) : rampDone d frames j ≤ d :=
  calc rampDone d frames j ≤ rampDone d frames (frames - 1) := rampDone_mono (by omega)
    _ = d := rampDone_last (by omega)

/-- The last candidate is the target, and the candidates move toward it without passing it. -/
theorem candidateOf_toward (hf : 1 ≤ frames) : candidateOf zs target frames (frames - 1) = target ∧
    ∀ i j, i ≤ j → j < frames →
      (zs ≤ target → zs ≤ candidateOf zs target frames i ∧ candidateOf zs target frames i ≤ candidateOf zs target frames j
        ∧ candidateOf zs target frames j ≤ target) ∧
      (target ≤ zs → candidateOf zs target frames i ≤ zs ∧ candidateOf zs target frames j ≤ candidateOf zs target frames i
        ∧ target ≤ candidateOf zs target frames j) := by
  refine ⟨?_, fun i j hij hj => ⟨fun h => ?_, fun h => ?_⟩⟩
  · rw [candidateOf_eq, rampDone_last hf, rampDone_last hf]
    split <;> omega
  · have mono : rampDone (target - zs) frames i ≤ rampDone (target - zs) frames j := rampDone_mono hij
    have le : rampDone (target - zs) frames j ≤ target - zs := rampDone_le hj
    rw [candidateOf_eq, candidateOf_eq, if_pos h, if_pos h]
    omega
  · have mono : rampDone (zs - target) frames i ≤ rampDone (zs - target) frames j := rampDone_mono hij
    have le : rampDone (zs - target) frames j ≤ zs - target := rampDone_le hj
    rw [candidateOf_eq, candidateOf_eq]
    by_cases he : zs ≤ target
    · have hz : target - zs = zs - target := by omega
      rw [if_pos he, if_pos he, hz]
      omega
    · rw [if_neg he, if_neg he]
      omega

/-- The applied zoom lies in the window. -/
theorem windowZoom_within {lo hi last zc : Nat} {forcing : Bool} (h : lo ≤ hi) :
    let w := windowZoom (some (lo, hi)) last zc forcing
    lo ≤ w.applied ∧ w.applied ≤ hi ∧ (lo ≤ zc → zc ≤ hi → w = ⟨zc, false, false⟩) ∧
      (zc < lo → w = ⟨lo, !forcing, forcing⟩) ∧ (hi < zc → w = ⟨hi, !forcing, forcing⟩) := by
  intro w
  by_cases hin : lo ≤ zc ∧ zc ≤ hi
  · have hw : w = ⟨zc, false, false⟩ := if_pos hin
    rw [hw]
    exact ⟨hin.1, hin.2, fun _ _ => rfl, fun hl => absurd hl (by omega), fun hh => absurd hh (by omega)⟩
  · have hw : w = ⟨if zc < lo then lo else hi, !forcing, forcing⟩ := if_neg hin
    rw [hw]
    by_cases hl : zc < lo
    · rw [if_pos hl]
      exact ⟨Nat.le_refl _, h, fun ha hb => absurd ⟨ha, hb⟩ hin, fun _ => rfl, fun hh => absurd hh (by omega)⟩
    · rw [if_neg hl]
      exact ⟨h, Nat.le_refl _, fun ha hb => absurd ⟨ha, hb⟩ hin, fun hh => absurd hh hl, fun _ => rfl⟩

end Ramp

/-! ### Bounds, thresholds and the fresh choice (R41, R56, R57) -/

section Service

variable {s : State} {c n w : Cam} {z : Nat}

theorem Port.eligible_iff {p : Port} : p.eligible = true ↔ p.format ≠ none ∧ p.cal ≠ none ∧ p.state ≠ .faulted := by
  rw [Port.eligible, Bool.and_eq_true, Port.configured_iff, and_assoc]
  simp

theorem State.zoomBounds_free (h : ∀ c, s.zoom.view ≠ .locked c) : s.zoomBounds =
    match s.widestEligible, s.narrowestEligible with
    | some w, some n => (s.mOf w, s.zmaxOf n)
    | _, _ => (Config.zoomMin, Config.zoomMax) := by
  unfold State.zoomBounds
  split
  next c hc => exact absurd hc (h c)
  next => rfl

theorem State.freshChoice_free (h : ∀ c, s.zoom.view ≠ .locked c) (z : Nat) : s.freshChoice z =
    match Cam.allDown.find? fun n => s.eligible n && decide (s.upOf n ≤ z) with
    | some n => some n
    | none => s.widestEligible := by
  unfold State.freshChoice
  split
  next c hc => exact absurd hc (h c)
  next => rfl

theorem State.widestEligible_of (hw : s.eligible w = true) (h : ∀ d, d.idx < w.idx → s.eligible d = false) :
    s.widestEligible = some w := Cam.find_first hw h

theorem State.narrowestEligible_of (hn : s.eligible n = true) (h : ∀ d, n.idx < d.idx → s.eligible d = false) :
    s.narrowestEligible = some n := Cam.find_last hn h

theorem State.nextWider_of (hc : s.eligible c = true) (hlt : c.idx < n.idx)
    (h : ∀ d, c.idx < d.idx → d.idx < n.idx → s.eligible d = false) : s.nextWider n = some c := by
  refine Cam.find_last (by simp [hc, hlt]) fun d hd => ?_
  by_cases hn : d.idx < n.idx
  · simp [h d hd hn]
  · simp [hn]

theorem State.nextWider_none (h : ∀ d, d.idx < n.idx → s.eligible d = false) : s.nextWider n = none := by
  refine (Cam.find_none fun d => ?_).2
  by_cases hn : d.idx < n.idx
  · simp [h d hn]
  · simp [hn]

/-- The fresh choice is the narrowest eligible camera whose up threshold the zoom has reached (R57). -/
theorem State.freshChoice_reached (hf : ∀ c, s.zoom.view ≠ .locked c) (hn : s.eligible n = true) (hz : s.upOf n ≤ z)
    (h : ∀ d, n.idx < d.idx → s.eligible d = true → z < s.upOf d) : s.freshChoice z = some n := by
  rw [State.freshChoice_free hf, Cam.find_last (n := n) (by simp [hn, hz]) fun d hd => ?_]
  by_cases he : s.eligible d = true
  · simp [h d hd he]
  · simp [he]

/-- With no threshold reached it is the widest eligible camera. -/
theorem State.freshChoice_below (hf : ∀ c, s.zoom.view ≠ .locked c) (h : ∀ d, s.eligible d = true → z < s.upOf d) :
    s.freshChoice z = s.widestEligible := by
  have hnone : (Cam.allDown.find? fun n => s.eligible n && decide (s.upOf n ≤ z)) = none := by
    refine (Cam.find_none fun d => ?_).2
    by_cases he : s.eligible d = true
    · simp [h d he]
    · simp [he]
  rw [State.freshChoice_free hf, hnone]

end Service

/-- Settles O50: the ramp step by step, and what the eligible cameras make of a zoom. -/
theorem rampReachesTarget : Obligations.RampReachesTarget := by
  unfold Obligations.RampReachesTarget
  refine ⟨?ramp, fun _ _ _ _ => rfl, fun zs target frames h => candidateOf_toward h,
    fun lo hi last zc forcing h => windowZoom_within h, ?service⟩
  case ramp =>
    intro bounds zs frame rest clamped note
    have hnote : ∀ v, clampNotice frame v (clampTo bounds v) = note v := fun v => clampNotice_eq frame v _
    refine ⟨?_, rfl, rfl, fun g tail => ?_, fun g p tail hp => ⟨?_, fun h => ?_, fun h => ?_⟩⟩
    · rw [rampStart, hnote]
      rfl
    · intro progress
      have hactive : { g.activate zs with target := clampTo bounds g.target } =
          ({ g with target := clamped g.target, progress := some progress } : Segment) := by
        unfold Segment.activate
        cases hg : g.progress <;> simp only [hg, progress] <;> rfl
      rw [rampStart, hnote, hnote, hactive]
      rfl
    · simp only [rampCandidate, hp]
    · simp only [rampAdvance, hp]
      exact if_neg (Nat.not_le.mpr h)
    · simp only [rampAdvance, hp]
      exact if_pos h
  case service =>
    intro s eligible widest narrowest free margins
    have helig : ∀ c, s.eligible c = true ↔ eligible c := fun c => Port.eligible_iff
    have hnot : ∀ {c}, ¬ eligible c → s.eligible c = false := fun h => Bool.eq_false_iff.mpr (mt (helig _).mp h)
    have hwidest : ∀ {w}, widest w → s.widestEligible = some w := fun h =>
      State.widestEligible_of ((helig _).mpr h.1) fun d hd => hnot (h.2 d hd)
    have hnarrowest : ∀ {n}, narrowest n → s.narrowestEligible = some n := fun h =>
      State.narrowestEligible_of ((helig _).mpr h.1) fun d hd => hnot (h.2 d hd)
    refine ⟨fun c k hk hp => ?_, fun c m hp => ?_, fun c z hz => ?_, fun c z hv => ?_, fun w n hf hw hn => ?_,
      fun z hf hno => ?_, fun n c hc hlt hb => ?_, fun n hb => ?_, fun n z hf hn hz hb => ?_, fun w z hf hw hb => ?_,
      fun _ => rfl, fun _ _ _ _ => rfl, fun _ _ _ _ _ => rfl, fun _ _ _ => rfl, rfl⟩
    · simp [State.mOf, State.calM, hp, hk]
    · simp [State.mOf, hp]
    · simp [State.zmaxOf, hz]
    · simp [State.zoomBounds, State.freshChoice, hv]
    · rw [State.zoomBounds_free hf, hwidest hw, hnarrowest hn]
    · have hnone := Cam.find_none fun d => hnot (hno d)
      have hw : s.widestEligible = none := hnone.1
      have hn : s.narrowestEligible = none := hnone.2
      refine ⟨?_, (State.freshChoice_below hf fun d hd => absurd ((helig d).mp hd) (hno d)).trans hw⟩
      rw [State.zoomBounds_free hf, hw, hn]
    · have hnext := State.nextWider_of ((helig c).mpr hc) hlt fun d h1 h2 => hnot (hb d h1 h2)
      have hthreshold : ∀ margin, s.threshold margin n = min ((s.mOf n * (1024 + margin) + 512) / 1024) (s.zmaxOf c) :=
        fun margin => by simp only [State.threshold, hnext]
      exact ⟨hthreshold _, hthreshold _⟩
    · have hnext := State.nextWider_none fun d hd => hnot (hb d hd)
      have hthreshold : ∀ margin, s.threshold margin n = s.mOf n := fun margin => by simp only [State.threshold, hnext]
      exact ⟨hthreshold _, hthreshold _⟩
    · exact State.freshChoice_reached hf ((helig n).mpr hn) hz fun d hd he => hb d hd ((helig d).mp he)
    · rw [State.freshChoice_below hf fun d hd => hb d ((helig d).mp hd), hwidest hw]

end Sys2Proof.Machine
end

section
/-!
PROOF. The service ranges of the configured cameras (chapter 04, section 4.1), and what START_OUTPUT and SET_CAMERA_CAL make of
them (chapter 08, section 8.3; chapter 01, section 1.1).
-/

namespace Sys2Proof.Machine

/-! ### Configured cameras in index order (R55) -/

theorem Cam.mem_all (c : Cam) : c ∈ Cam.all := by cases c <;> decide

theorem Cam.filter_sorted (p : Cam → Bool) : (Cam.all.filter p).Pairwise fun c d => c.idx < d.idx :=
  (by decide : Cam.all.Pairwise fun c d => c.idx < d.idx).filter p

theorem Cam.mem_filter {p : Cam → Bool} {c : Cam} : c ∈ Cam.all.filter p ↔ p c = true := by
  simp [Cam.mem_all]

/-- The coverage requirement links each camera of a rising list with the next one. -/
theorem coverageHolds_iff {cams : List Cam} (hs : cams.Pairwise fun c d => c.idx < d.idx) (lo hi : Cam → Nat) :
    coverageHolds (cams.map fun c => (lo c, hi c)) = true ↔ ∀ c ∈ cams, ∀ d ∈ cams, c.idx < d.idx →
      (∀ e ∈ cams, c.idx < e.idx → ¬ e.idx < d.idx) → lo d ≤ hi c := by
  induction cams with
  | nil => simp [coverageHolds]
  | cons a tail ih =>
    cases tail with
    | nil => simp [coverageHolds]
    | cons b rest =>
      obtain ⟨ha, hs'⟩ := List.pairwise_cons.mp hs
      obtain ⟨hb, -⟩ := List.pairwise_cons.mp hs'
      have hunfold : coverageHolds ((a :: b :: rest).map fun c => (lo c, hi c)) = true ↔
          lo b ≤ hi a ∧ coverageHolds ((b :: rest).map fun c => (lo c, hi c)) = true := by simp [coverageHolds]
      rw [hunfold, ih hs']
      constructor
      · rintro ⟨hab, htail⟩ c hc d hd hcd hno
        rcases List.mem_cons.mp hc with rfl | hc
        · rcases List.mem_cons.mp hd with rfl | hd
          · exact absurd hcd (Nat.lt_irrefl _)
          · rcases List.mem_cons.mp hd with rfl | hd
            · exact hab
            · exact absurd (hb d hd) (hno b (by simp) (ha b (by simp)))
        · rcases List.mem_cons.mp hd with hda | hd
          · exact absurd (hda ▸ hcd) (Nat.lt_asymm (ha c hc))
          · exact htail c hc d hd hcd fun e he => hno e (List.mem_cons_of_mem _ he)
      · intro h
        refine ⟨h a (by simp) b (by simp) (ha b (by simp)) fun e he hae heb => ?_, fun c hc d hd hcd hno =>
          h c (List.mem_cons_of_mem _ hc) d (List.mem_cons_of_mem _ hd) hcd fun e he hce => ?_⟩
        · rcases List.mem_cons.mp he with rfl | he
          · exact Nat.lt_irrefl _ hae
          · rcases List.mem_cons.mp he with rfl | he
            · exact Nat.lt_irrefl _ heb
            · exact Nat.lt_asymm (hb e he) heb
        · rcases List.mem_cons.mp he with rfl | he
          · exact absurd hce (Nat.lt_asymm (ha c hc))
          · exact hno e he hce

/-- The coverage requirement over the cameras that meet a test. -/
theorem coverageHolds_filter {p : Cam → Bool} {lo hi : Cam → Nat} :
    coverageHolds ((Cam.all.filter p).map fun c => (lo c, hi c)) = true ↔ ∀ c d, p c = true → p d = true → c.idx < d.idx →
      (∀ e, c.idx < e.idx → e.idx < d.idx → p e = false) → lo d ≤ hi c := by
  rw [coverageHolds_iff (Cam.filter_sorted p)]
  simp only [Cam.mem_filter]
  constructor
  · intro h c d hc hd hcd hno
    exact h c hc d hd hcd fun e he hce hed => by simp [hno e hce hed] at he
  · intro h c hc d hd hcd hno
    exact h c d hc hd hcd fun e hce hed => Bool.eq_false_iff.mpr fun he => hno e he hce hed

/-! ### START_OUTPUT (R137) -/

section Start

variable {s : State} {tag : Byte} {z0 : Half} {o : OutFormat}

theorem exec_startOutput (ha : s.canAccept) (hm : s.mode = .config) (tag : Byte) (z0 : Half) :
    exec (.startOutput tag z0) s = .next (s.taken.takeStartOutput tag z0.toNat) :=
  congrArg Host.Outcome.next (State.acceptIn_ok ha hm 0x0E tag _)

theorem State.anyConfigured_iff : s.anyConfigured = true ↔ ∃ c, s.configured c = true := by
  simp [State.anyConfigured, Cam.mem_all]

/-- The maxima of START_OUTPUT are held for the configured cameras (R54). -/
theorem State.withMaxima_zmaxOf {wo : Nat} {zmax : Cam → Nat} {c : Cam} (hc : s.configured c = true)
    (h : ∀ k f, (s.port c).cal = some k → (s.port c).format = some f → zmax c = effectiveMax k f wo) :
    (s.withMaxima wo).zmaxOf c = zmax c := by
  obtain ⟨hf, hk⟩ := Port.configured_iff.mp hc
  obtain ⟨f, hf⟩ := Option.ne_none_iff_exists'.mp hf
  obtain ⟨k, hk⟩ := Option.ne_none_iff_exists'.mp hk
  simp [State.withMaxima, State.zmaxOf, State.maxima, hf, hk, h k f hk hf]

/-- The maxima held from START_OUTPUT on, for every camera. -/
theorem State.maxima_eq {wo : Nat} {zmax : Cam → Nat}
    (h : ∀ c k f, (s.port c).cal = some k → (s.port c).format = some f → zmax c = effectiveMax k f wo) :
    s.maxima wo = Quad.tab fun c => if s.configured c = true then some (zmax c) else none := by
  refine congrArg Quad.tab (funext fun c => ?_)
  cases hk : (s.port c).cal with
  | none => simp [State.configured, Port.configured, hk]
  | some k =>
    cases hf : (s.port c).format with
    | none => simp [State.configured, Port.configured, hf]
    | some f => simp [State.configured, Port.configured, hk, hf, h c k f hk hf]

/-- The checks of START_OUTPUT on the service ranges (R137, steps 3 and 4). -/
theorem State.rangesOk_iff {zmax : Cam → Nat} (h : ∀ c, s.configured c = true → s.zmaxOf c = zmax c) :
    s.rangesOk = true ↔ (∀ c, s.configured c = true → s.mOf c ≤ zmax c) ∧
      ∀ c d, s.configured c = true → s.configured d = true → c.idx < d.idx →
        (∀ e, c.idx < e.idx → e.idx < d.idx → s.configured e = false) → s.mOf d ≤ zmax c := by
  rw [State.rangesOk, Bool.and_eq_true, State.serviceRanges, coverageHolds_filter]
  refine and_congr ?_ ?_
  · simp only [List.all_eq_true, List.mem_map, Cam.mem_filter, forall_exists_index, and_imp, decide_eq_true_eq]
    constructor
    · intro hall c hc
      exact h c hc ▸ hall _ c hc rfl
    · rintro hall r c hc rfl
      exact (h c hc).symm ▸ hall c hc
  · constructor
    · intro hall c d hc hd hcd hno
      exact h c hc ▸ hall c d hc hd hcd hno
    · intro hall c d hc hd hcd hno
      exact (h c hc).symm ▸ hall c d hc hd hcd hno

end Start

/-- Settles O41: the refusals in order, and the rest value the first boundary begins with. -/
theorem startOutputBegins : Obligations.StartOutputBegins := by
  unfold Obligations.StartOutputBegins
  intro s tag z0 ha hm refused
  have gives : ∀ {t : State}, s.taken.takeStartOutput tag z0.toNat = t → exec (.startOutput tag z0) s = .next t :=
    fun h => (exec_startOutput ha hm tag z0).trans (congrArg Host.Outcome.next h)
  refine ⟨fun hf => gives ?_, fun o hf hno => gives ?_, ?_⟩
  · rw [State.takeStartOutput, show s.taken.otg.format = none from hf]
    rfl
  · have hnone : ¬ s.taken.anyConfigured = true := fun h => by
      obtain ⟨c, hc⟩ := State.anyConfigured_iff.mp h
      exact absurd (hc.symm.trans (hno c)) (by decide)
    rw [State.takeStartOutput, show s.taken.otg.format = some o from hf]
    simp only [hnone, Bool.not_false, if_true]
    rfl
  · intro o zmax hf hz someConfigured rangesOk covered
    have hzmax : ∀ c, s.configured c = true → (s.taken.withMaxima o.wo).zmaxOf c = zmax c := fun c hc =>
      State.withMaxima_zmaxOf (s := s.taken) hc (hz c)
    have hok : (s.taken.withMaxima o.wo).rangesOk = true ↔ rangesOk ∧ covered := State.rangesOk_iff hzmax
    have some_of : someConfigured → s.taken.anyConfigured = true := State.anyConfigured_iff.mpr
    have refuses : someConfigured → ¬ (rangesOk ∧ covered) → refused .badField := fun hc hno => gives (by
      rw [State.takeStartOutput, show s.taken.otg.format = some o from hf]
      simp only [some_of hc, Bool.eq_false_iff.mpr (mt hok.mp hno), Bool.not_true, Bool.not_false, Bool.false_eq_true,
        if_false, if_true]
      rfl)
    refine ⟨fun hc hno => refuses hc fun h => hno h.1, fun hr hno => refuses ?_ fun h => hno h.2, ?_⟩
    · by_contra hnone
      exact hno fun c d hc => absurd ⟨c, hc⟩ hnone
    · intro field begins hc hr hcov hfree
      have starts : ∀ rest, (s.taken.withMaxima o.wo).clampZoom z0.toNat = rest → begins rest := by
        intro rest hrest
        refine gives ?_
        have hflag := State.targetClamped_eq (s.taken.withMaxima o.wo) z0.toNat
        rw [hrest] at hflag
        have hmaxima : s.taken.maxima o.wo = _ := State.maxima_eq (s := s.taken) hz
        rw [State.takeStartOutput, show s.taken.otg.format = some o from hf]
        simp only [some_of hc, hok.mpr ⟨hr, hcov⟩, Bool.not_true, Bool.false_eq_true, if_false]
        rw [hrest, ← hflag, State.beginOutput, State.targetClamped, hrest, State.withMaxima, hmaxima]
        rfl
      refine ⟨fun wide narrow hw hwide hn hnarrow => starts _ ?_, fun hno => starts _ ?_⟩
      · have hbounds : (s.taken.withMaxima o.wo).zoomBounds = (s.mOf wide, zmax narrow) := by
          rw [State.zoomBounds_free (s := s.taken.withMaxima o.wo) hfree, State.widestEligible_of (s := s.taken.withMaxima o.wo) hw hwide,
            State.narrowestEligible_of (s := s.taken.withMaxima o.wo) hn hnarrow, ← hzmax narrow (Bool.and_eq_true_iff.mp hn).1]
          rfl
        rw [State.clampZoom_eq, hbounds]
      · have hbounds : (s.taken.withMaxima o.wo).zoomBounds = (256, 40960) := by
          have hnone := Cam.find_none hno
          have hw : (s.taken.withMaxima o.wo).widestEligible = none := hnone.1
          rw [State.zoomBounds_free (s := s.taken.withMaxima o.wo) hfree, hw]
        rw [State.clampZoom_eq, hbounds]
        dsimp only
        rw [if_neg (by omega), if_neg (by omega)]

/-! ### What a boundary leaves of the calibration parts -/

section Cals

variable {s t : State}

theorem State.Frames.cal (h : s.Frames t) (d : Cam) : (t.port d).cal = (s.port d).cal := by
  induction h with
  | refl s => rfl
  | trans _ _ ih1 ih2 => exact ih2.trans ih1
  | raise s n => rfl
  | port s c p hp =>
    obtain ⟨-, -, hcal⟩ := hp.frame
    exact State.setPort_cal hcal d
  | status s c x m _ _ _ => exact State.setPort_cal (p := { s.port c with state := x }) rfl d

/-- Work in the blocks replaces no calibration part. -/
theorem State.Work.cal (h : s.Work t) (d : Cam) : (t.port d).cal = (s.port d).cal := by
  induction h with
  | frames h => exact h.cal d
  | trans _ _ ih1 ih2 => exact ih2.trans ih1
  | state s c x => exact State.setPort_cal (p := { s.port c with state := x }) rfl d
  | monitor s c m => rfl
  | buses h => rw [State.port, h.sameBasis.ports]; rfl

theorem State.compose_cal (s : State) (d : Cam) : (s.compose.port d).cal = (s.port d).cal := by
  have asked : ∀ (u : State) (o : Option Cam), ((u.askStart o).port d).cal = (u.port d).cal := by
    intro u o
    cases o with
    | none => rfl
    | some c => exact (State.Work.autoStart u c).cal d
  have hchosen : s.chosen.ports = s.ports := s.ramped_ports
  rw [State.compose_port]
  show (s.unpublished.port d).cal = _
  rw [State.port, s.unpublished_ports]
  show (s.settled.port d).cal = _
  rw [State.settled, State.settle, asked, State.port, State.raiseAll_ports]
  show (s.chosen.port d).cal = _
  rw [State.port, hchosen]
  rfl

/-- A boundary brings every calibration part's M into use (R4). -/
theorem State.mOf_of_noPrior {k : Cal} {d : Cam} (h : s.zoom.priorM = .const none) (hk : (s.port d).cal = some k) :
    s.mOf d = k.m := by
  simp [State.mOf, State.calM, h, hk]

theorem State.beginFrame_mOf {k : Cal} {d : Cam} (hk : (s.port d).cal = some k) (phase : Nat) :
    (s.beginFrame phase).mOf d = k.m := by
  let t := s.applyShadowed.sendMetadata.frameDone
  have hports : t.ports = s.ports := s.beforeBoundary_basis.ports
  have opened : ∀ u : State, u.openWindows.zoom = u.zoom ∧ u.openWindows.ports = u.ports := by
    intro u
    unfold State.openWindows
    split <;> exact ⟨rfl, rfl⟩
  refine State.mOf_of_noPrior (s := s.beginFrame phase) ?_ ?_
  · show t.compose.openWindows.zoom.priorM = _
    rw [(opened _).1]
    exact noPrior_keptByStages.compose (s := t) rfl
  · show (Quad.get t.compose.openWindows.ports d).cal = _
    rw [(opened _).2]
    refine (t.compose_cal d).trans ?_
    rw [State.port, hports]
    exact hk

theorem State.endOutput_mOf {k : Cal} {d : Cam} (hk : (s.port d).cal = some k) (id : Nat) :
    (s.endOutput id).mOf d = k.m := by
  let t := s.applyShadowed.sendMetadata.frameDone
  have hports : t.ports = s.ports := s.beforeBoundary_basis.ports
  refine State.mOf_of_noPrior (s := s.endOutput id) rfl ?_
  show ((t.applyPins fun _ => none).port d).cal = _
  rw [State.applyPins_port]
  show (t.port d).cal = _
  rw [State.port, hports]
  exact hk

end Cals

/-! ### SET_CAMERA_CAL (R4, R5, R54) -/

section SetCal

variable {s : State} {c : Cam} {tag camera : Byte} {b : CalBody} {k : Cal} {f : Format}

theorem exec_setCameraCal (ha : s.canAccept) (hm : s.mode ≠ .booting) (tag camera : Byte) (b : CalBody) :
    exec (.setCameraCal tag camera b) s = .next (s.taken.takeCal tag camera (calOf b)) :=
  congrArg Host.Outcome.next (State.acceptLive_ok ha hm 0x06 tag _)

/-- The camera is named by the engine state, in FROZEN by the repeated record. -/
theorem State.names_iff : s.names c = true ↔ c ∈ s.zoom.engine.cams ∨ (s.zoom.engine = .frozen ∧
    ∃ r e, s.zoom.current = some r ∧ (r.primary = some e ∨ r.secondary = some e) ∧ e.camera = c) := by
  unfold State.names
  split
  next he =>
    split
    next r hr =>
      have hcams : r.cams.contains c = true ↔ ∃ e, (r.primary = some e ∨ r.secondary = some e) ∧ e.camera = c := by
        simp [Record.cams, or_and_right, exists_or]
      rw [hcams]
      constructor
      · rintro ⟨e, h, hc⟩
        exact .inr ⟨he, r, e, hr, h, hc⟩
      · rintro (h | ⟨-, r', e, hr', h, hc⟩)
        · simp [he, Engine.cams] at h
        · cases hr.symm.trans hr'
          exact ⟨e, h, hc⟩
    next hr => simp [he, hr, Engine.cams]
  next hne =>
    have hnot : s.zoom.engine ≠ .frozen := hne
    simp [hnot]

/-- M rises and the ranges cover, over the configured cameras in index order (R5). -/
theorem State.calChecks_iff {zmax : Cam → Cal → Nat} (h : ∀ c k, (s.port c).cal = some k → s.coverMax c = zmax c k) :
    (s.orderOk && s.coverOk) = true ↔ ∀ i j x y, s.configured i = true → s.configured j = true → i.idx < j.idx →
      (s.port i).cal = some x → (s.port j).cal = some y → x.m < y.m ∧
        ((∀ d, i.idx < d.idx → d.idx < j.idx → s.configured d = false) → y.m ≤ zmax i x) := by
  have hm : ∀ {c k}, (s.port c).cal = some k → s.calM c = k.m := fun hk => by simp [State.calM, hk]
  have hcal : ∀ {c}, s.configured c = true → ∃ k, (s.port c).cal = some k := fun hc =>
    Option.ne_none_iff_exists'.mp (Port.configured_iff.mp hc).2
  have horder : s.orderOk = true ↔ ∀ i j, s.configured i = true → s.configured j = true → i.idx < j.idx →
      s.calM i < s.calM j := by
    simp only [State.orderOk, List.all_eq_true, Cam.mem_all, forall_const]
    refine forall_congr' fun i => forall_congr' fun j => ?_
    simp only [Bool.or_eq_true, Bool.not_eq_true', decide_eq_true_eq, ← imp_iff_not_or, Bool.eq_false_iff, ne_eq,
      Bool.and_eq_true, and_imp]
  rw [Bool.and_eq_true, horder, State.coverOk, coverageHolds_filter]
  constructor
  · rintro ⟨ho, hc⟩ i j x y hi hj hij hx hy
    exact ⟨hm hx ▸ hm hy ▸ ho i j hi hj hij, fun hno => h i x hx ▸ hm hy ▸ hc i j hi hj hij hno⟩
  · intro hall
    refine ⟨fun i j hi hj hij => ?_, fun i j hi hj hij hno => ?_⟩
    · obtain ⟨x, hx⟩ := hcal hi
      obtain ⟨y, hy⟩ := hcal hj
      rw [hm hx, hm hy]
      exact (hall i j x y hi hj hij hx hy).1
    · obtain ⟨x, hx⟩ := hcal hi
      obtain ⟨y, hy⟩ := hcal hj
      rw [hm hy, h i x hx]
      exact (hall i j x y hi hj hij hx hy).2 hno

/-- The calibration put in place by mode (R4). -/
theorem State.withCal_config (h : s.mode ≠ .run) : s.withCal c k f = s.setPort c { s.port c with cal := some k } := if_neg h

theorem State.withCal_run (h : s.mode = .run) : s.withCal c k f = { s.setPort c { s.port c with cal := some k } with
    zoom := { s.zoom with zmax := s.zoom.zmax.set c (some (s.maxWith k f)), priorM := s.keepM c } } := if_pos h

theorem State.taken_withCal : s.taken.withCal c k f = (s.withCal c k f).taken := by
  by_cases h : s.mode = .run
  · rw [State.withCal_run h, State.withCal_run (s := s.taken) h]
    rfl
  · rw [State.withCal_config h, State.withCal_config (s := s.taken) h]
    rfl

/-- The checks of SET_CAMERA_CAL of a camera with a format part, in order (R4). -/
theorem State.takeCal_eq (hc : camera.toNat = c.idx) (hf : (s.port c).format = some f) (k : Cal) :
    s.taken.takeCal tag camera k =
      if !calOk k then s.answered 0x06 tag .badField
      else if s.mode = .run ∧ s.names c then s.answered 0x06 tag .busy
      else if s.mode = .run ∧ s.maxWith k f < k.m then s.answered 0x06 tag .badField
      else if !((s.withCal c k f).orderOk && (s.withCal c k f).coverOk) then s.answered 0x06 tag .badField
      else (s.withCal c k f).answered 0x06 tag .ok := by
  rw [State.takeCal, camOf_of_idx hc]
  simp only [show (s.taken.port c).format = some f from hf, State.taken_withCal]
  rfl

/-- The M in use stays while a replaced calibration waits for a boundary (R4). -/
theorem State.keepM_get (hk : (s.port c).cal ≠ none) : (s.keepM c).get c = some (s.mOf c) := by
  obtain ⟨x, hx⟩ := Option.ne_none_iff_exists'.mp hk
  simp [State.keepM, hx]

theorem State.keepM_eq : s.keepM c = match (s.port c).cal with
    | some x => s.zoom.priorM.set c (some ((s.zoom.priorM.get c).getD x.m))
    | none => s.zoom.priorM := by
  cases hx : (s.port c).cal <;> simp only [State.keepM, State.mOf, State.calM, hx]

/-- The fields of a calibration in their ranges; the two-byte parallax fields always are (R4, step 3). -/
theorem calOk_calOf : calOk (calOf b) = true ↔ 256 ≤ b.m.toNat ∧ b.m.toNat ≤ b.zmax.toNat ∧ b.zmax.toNat ≤ 40960
    ∧ (-4096 ≤ b.cx.toInt ∧ b.cx.toInt ≤ 4096) ∧ (-4096 ≤ b.cy.toInt ∧ b.cy.toInt ≤ 4096)
    ∧ (8000 ≤ b.interval.toNat ∧ b.interval.toNat ≤ 200000) ∧ (1000 ≤ b.arrival.toNat ∧ b.arrival.toNat ≤ 1000000)
    ∧ (10000 ≤ b.first.toNat ∧ b.first.toNat ≤ 4000000) ∧ b.address.toNat ≤ 0x7F := by
  have hpx : -32768 ≤ b.px.toInt ∧ b.px.toInt ≤ 32767 := by have := b.px.toInt_lt; have := b.px.le_toInt; omega
  have hpy : -32768 ≤ b.py.toInt ∧ b.py.toInt ≤ 32767 := by have := b.py.toInt_lt; have := b.py.le_toInt; omega
  simp only [calOk, inRange, Bool.and_eq_true, decide_eq_true_eq]
  simp only [calOf, Config.zoomMin, Config.zoomMax]
  omega

end SetCal

/-- Settles O16: the checks in order, and what a taken calibration leaves until and at a boundary. -/
theorem setCameraCalReplaces : Obligations.SetCameraCalReplaces := by
  unfold Obligations.SetCameraCalReplaces
  intro s tag camera b ha hm fields k fits refusedWith taken
  have gives : ∀ {t : State}, s.taken.takeCal tag camera (calOf b) = t → exec (.setCameraCal tag camera b) s = .next t :=
    fun h => (exec_setCameraCal ha hm tag camera b).trans (congrArg Host.Outcome.next h)
  have hok : calOk k = true ↔ fields := calOk_calOf
  refine ⟨fun hc => gives ?_, fun c hc => ⟨fun hf => gives ?_, fun f hf => ?_⟩⟩
  · rw [State.takeCal, camOf_of_gt hc]
    rfl
  · rw [State.takeCal, camOf_of_idx hc]
    simp only [show (s.taken.port c).format = none from hf]
    rfl
  have htake := State.takeCal_eq (tag := tag) hc hf k
  refine ⟨fun hbad => gives ?_, fun hfields => ?_⟩
  · exact htake.trans (if_pos (by simpa using mt hok.mp hbad))
  · intro v named
    have hnamed : s.names c = true ↔ named := State.names_iff
    rw [if_neg (by simpa using hok.mpr hfields)] at htake
    refine ⟨fun hconf => ?_, fun hrun hn => gives ?_, fun o hrun hn ho => ?_⟩
    · have hnot : s.mode ≠ .run := by simp [hconf]
      rw [if_neg (fun h => hnot h.1), if_neg (fun h => hnot h.1), State.withCal_config hnot] at htake
      have hchecks : (v.orderOk && v.coverOk) = true ↔ fits v (fun _ x => x.zmax) :=
        State.calChecks_iff fun d x hx => by
          rw [State.coverMax, if_neg (c := v.mode = .run) hnot, hx]
      refine ⟨fun h => gives ?_, fun h => gives ?_⟩
      · exact htake.trans (if_neg (by simpa using hchecks.mpr h))
      · exact htake.trans (if_pos ((Bool.not_eq_true' _).mpr (Bool.eq_false_iff.mpr (mt hchecks.mp h))))
    · exact htake.trans (if_pos ⟨hrun, hnamed.mpr hn⟩)
    · intro z prior u
      have hz : s.maxWith k f = z := by
        rw [State.maxWith, ho]
        rfl
      have hu : s.withCal c k f = u := by
        rw [State.withCal_run hrun, hz, State.keepM_eq]
        rfl
      have hprior : u.zoom.priorM = s.keepM c := State.keepM_eq.symm
      rw [if_neg (fun h => hn (hnamed.mp h.2)), hz, hu] at htake
      have hchecks : (u.orderOk && u.coverOk) = true ↔ fits u (fun i _ => u.zmaxOf i) :=
        State.calChecks_iff fun d x hx => by rw [State.coverMax, if_pos (c := u.mode = .run) hrun]
      refine ⟨fun h => gives ?_, fun h => ?_, fun h hp => ?_, fun phase id d x hx => ?_, fun h hf => gives ?_,
        fun h hf => gives ?_⟩
      · exact htake.trans (if_pos ⟨hrun, h⟩)
      · rw [State.mOf, hprior, State.keepM_get h]
        rfl
      · have hnew : (u.port c).cal = some k := by
          show ((s.setPort c _).port c).cal = _
          rw [State.port_setPort_same]
        rw [State.mOf, hprior, State.keepM_eq, h]
        simp only [hp, State.calM, hnew, Option.getD_none]
      · exact ⟨State.beginFrame_mOf (s := u.answered 0x06 tag .ok) hx phase,
          State.endOutput_mOf (s := u.answered 0x06 tag .ok) hx id⟩
      · exact htake.trans ((if_neg fun hl => Nat.not_lt.mpr h hl.2).trans (if_neg (by simpa using hchecks.mpr hf)))
      · exact htake.trans ((if_neg fun hl => Nat.not_lt.mpr h hl.2).trans (if_pos ((Bool.not_eq_true' _).mpr (Bool.eq_false_iff.mpr (mt hchecks.mp hf)))))

end Sys2Proof.Machine
end

section
/-!
PROOF. The requests that report (chapter 11, section 11.6; Tables 31 and 35 to 37): where each field of what the part says of
itself stands.
-/

namespace Sys2Proof.Machine

/-! ### Bytes within a message (R187) -/

/-- The bytes `ys` stand in the message from offset `k` on. -/
def Holds (xs : List Byte) (k : Nat) (ys : List Byte) : Prop := ∀ j b, ys[j]? = some b → xs[k + j]? = some b

section Holds

variable {xs ys zs : List Byte} {k n : Nat} {x : Byte}

theorem Holds.self (xs : List Byte) : Holds xs 0 xs := fun j b h => by rwa [Nat.zero_add]

@[simp] theorem Holds.nil_iff : Holds xs k [] ↔ True := by simp [Holds]

@[simp] theorem Holds.append_iff : Holds xs k (ys ++ zs) ↔ Holds xs k ys ∧ Holds xs (k + ys.length) zs := by
  constructor
  · intro h
    refine ⟨fun j b hj => h j b (List.getElem?_append_left (List.getElem?_eq_some_iff.mp hj).1 ▸ hj), fun j b hj => ?_⟩
    rw [Nat.add_assoc]
    exact h _ b (by rwa [List.getElem?_append_right (Nat.le_add_right _ _), Nat.add_sub_cancel_left])
  · rintro ⟨hl, hr⟩ j b hj
    by_cases hlt : j < ys.length
    · exact hl j b (by rwa [List.getElem?_append_left hlt] at hj)
    · rw [List.getElem?_append_right (Nat.not_lt.mp hlt)] at hj
      have := hr _ b hj
      rwa [Nat.add_assoc, Nat.add_sub_cancel' (Nat.not_lt.mp hlt)] at this

@[simp] theorem Holds.cons_iff : Holds xs k (x :: ys) ↔ xs[k]? = some x ∧ Holds xs (k + 1) ys := by
  rw [← List.singleton_append, Holds.append_iff]
  refine and_congr_left fun _ => ⟨fun h => h 0 x rfl, fun h j b hj => ?_⟩
  obtain ⟨rfl, rfl⟩ : j = 0 ∧ x = b := by cases j <;> simp_all
  exact h

/-- What a request reports. -/
theorem Holds.reported {Q P : List Byte → Prop} (body : List Byte) (hq : Q body)
    (h : ∀ xs, xs.length = body.length → Holds xs 0 body → P xs) : ∃ xs, Q xs ∧ P xs :=
  ⟨body, hq, h _ rfl (Holds.self _)⟩

/-- A piece that is repeated stands at each of its places. -/
theorem Holds.replicate_iff : Holds xs k (List.replicate n x) ↔ ∀ j, j < n → xs[k + j]? = some x := by
  constructor
  · exact fun h j hj => h j x (by simp [hj])
  · intro h j b hj
    obtain ⟨hlt, rfl⟩ := List.getElem?_eq_some_iff.mp hj
    rw [h j (by simpa using hlt), List.getElem_replicate]

theorem field8_of_byte (h : xs[k]? = some x) : field8 xs k x.toNat := by
  rw [field8, h, BitVec.ofNat_toNat, BitVec.setWidth_eq]

@[simp] theorem byteOf_iff : xs[k]? = some (byteOf n) ↔ field8 xs k n := Iff.rfl

@[simp] theorem Holds.num16_iff : Holds xs k (num16 n) ↔ field16 xs k n := by
  have low : (BitVec.ofNat 16 n).extractLsb' 0 8 = BitVec.ofNat 8 n := by
    apply BitVec.eq_of_toNat_eq
    simp [BitVec.extractLsb'_toNat]
  have high : (BitVec.ofNat 16 n).extractLsb' 8 8 = BitVec.ofNat 8 (n / 256) := by
    apply BitVec.eq_of_toNat_eq
    simp [BitVec.extractLsb'_toNat, Nat.shiftRight_eq_div_pow]
    omega
  simp [num16, bytes16, low, high, field16, field8]

@[simp] theorem Holds.num32_iff : Holds xs k (num32 n) ↔ field32 xs k n := by
  have part : ∀ i, i < 4 → (BitVec.ofNat 32 n).extractLsb' (8 * i) 8 = BitVec.ofNat 8 (n / 256 ^ i) := by
    intro i hi
    apply BitVec.eq_of_toNat_eq
    have hpow : (2 : Nat) ^ (8 * i) = 256 ^ i := by rw [Nat.pow_mul]
    rw [BitVec.extractLsb'_toNat, Nat.shiftRight_eq_div_pow, hpow, BitVec.toNat_ofNat, BitVec.toNat_ofNat]
    rcases (by omega : i = 0 ∨ i = 1 ∨ i = 2 ∨ i = 3) with rfl | rfl | rfl | rfl <;> omega
  have p0 := part 0 (by decide)
  have p1 := part 1 (by decide)
  have p2 := part 2 (by decide)
  have p3 := part 3 (by decide)
  simp only [Nat.reduceMul, Nat.reducePow, Nat.div_one] at p0 p1 p2 p3
  simp [num32, bytes32, p0, p1, p2, p3, field32, field16, field8, Nat.div_div_eq_div_mul, and_assoc]

@[simp] theorem Holds.bytes32_iff {w : Word} : Holds xs k (bytes32 w) ↔ field32 xs k w.toNat := by
  rw [← Holds.num32_iff, num32, BitVec.ofNat_toNat, BitVec.setWidth_eq]

@[simp] theorem Holds.int16_iff {i : Int} : Holds xs k (int16 i) ↔ field16 xs k (BitVec.ofInt 16 i).toNat := by
  rw [← Holds.num16_iff, num16, BitVec.ofNat_toNat, BitVec.setWidth_eq, int16]

@[simp] theorem Holds.half_iff {o : Option Nat} : Holds xs k (half? o) ↔ field16 xs k (o.getD 65535) := by
  rw [← Holds.num16_iff]
  cases o <;> exact Iff.rfl

theorem Holds.absent16_iff : Holds xs k absent16 ↔ field16 xs k 65535 := Holds.half_iff (o := none)

@[simp] theorem num16_length (n : Nat) : (num16 n).length = 2 := rfl
@[simp] theorem num32_length (n : Nat) : (num32 n).length = 4 := rfl
@[simp] theorem bytes32_length (w : Word) : (bytes32 w).length = 4 := rfl
@[simp] theorem int16_length (i : Int) : (int16 i).length = 2 := rfl
@[simp] theorem half_length (o : Option Nat) : (half? o).length = 2 := by cases o <;> rfl
@[simp] theorem word_length (f : Nat) (now : Word) (o : Option Nat) : (word? f now o).length = 4 := by cases o <;> rfl
@[simp] theorem absent16_length : absent16.length = 2 := rfl

@[simp] theorem word_iff {f : Nat} {now : Word} {v : Nat} : Holds xs k (word? f now (some v)) ↔ field32 xs k v :=
  Holds.num32_iff

@[simp] theorem int8_iff {i : Int} : xs[k]? = some (int8 i) ↔ field8 xs k (BitVec.ofInt 8 i).toNat := by
  rw [field8, BitVec.ofNat_toNat, BitVec.setWidth_eq, int8]

/-- A flag as a number. -/
def flagNum (b : Bool) : Nat := if b then 1 else 0

@[simp] theorem flagByte_iff {b : Bool} : xs[k]? = some (flagByte b) ↔ field8 xs k (flagNum b) := by
  cases b <;> exact Iff.rfl

theorem flagBits_eq (a b c d : Bool) :
    flagBits a b c d = byteOf (flagNum a + 2 * flagNum b + 4 * flagNum c + 8 * flagNum d) := by
  cases a <;> cases b <;> cases c <;> cases d <;> decide

theorem flagBits_two (a b : Bool) : flagBits a b false false = byteOf (flagNum a + 2 * flagNum b) := flagBits_eq a b _ _

/-- A piece brought to a length: itself, and the filling byte behind it. -/
theorem Holds.padTo_iff : Holds xs k (padTo n x ys) ↔
    Holds xs k ys ∧ ∀ j, ys.length ≤ j → j < n → xs[k + j]? = some x := by
  rw [padTo, Holds.append_iff, Holds.replicate_iff]
  refine and_congr_right fun _ => ⟨fun h j hl hn => ?_, fun h j hj => ?_⟩
  · have := h (j - ys.length) (by omega)
    rwa [Nat.add_assoc, Nat.add_sub_cancel' hl] at this
  · rw [Nat.add_assoc]
    exact h _ (Nat.le_add_right _ _) (by omega)

theorem padTo_length (h : ys.length ≤ n) : (padTo n x ys).length = n := by
  simp [padTo, h]

/-- Pieces of one size, one behind the other. -/
theorem Holds.flatMap {α : Type} {f : α → List Byte} {size : Nat} {l : List α} (hf : ∀ a, (f a).length = size)
    (h : Holds xs k (l.flatMap f)) {j : Nat} {a : α} (ha : l[j]? = some a) : Holds xs (k + size * j) (f a) := by
  induction l generalizing k j with
  | nil => simp at ha
  | cons b rest ih =>
    rw [List.flatMap_cons, Holds.append_iff, hf] at h
    cases j with
    | zero =>
      cases ha
      exact h.1
    | succ j =>
      have := ih h.2 ha
      rwa [Nat.add_assoc, Nat.add_comm size, ← Nat.mul_succ] at this

theorem flatMap_length {α : Type} {f : α → List Byte} {size : Nat} (hf : ∀ a, (f a).length = size) (l : List α) :
    (l.flatMap f).length = size * l.length := by
  induction l with
  | nil => simp
  | cons b rest ih =>
    rw [List.flatMap_cons, List.length_append, ih, hf, List.length_cons, Nat.mul_succ, Nat.add_comm]

end Holds

/-! ### Pieces of the reports (Tables 35 to 37) -/

section Pieces

variable {now : Word}

@[simp] theorem entryBytes_length (o : Option SourceEntry) : (entryBytes o).length = 32 := by cases o <;> rfl
@[simp] theorem recordFields_length (e : Engine) : e.recordFields.length = 4 := by cases e <;> rfl
@[simp] theorem statusFields_length (e : Engine) : e.statusFields.length = 6 := by cases e <;> rfl
@[simp] theorem View.bytes_length (v : View) : v.bytes.length = 5 := by cases v <;> rfl
@[simp] theorem HandoffSettings.bytes_length (h : HandoffSettings) : h.bytes.length = 9 := rfl
@[simp] theorem pendingSettingsBytes_length (o : Option HandoffSettings) : (pendingSettingsBytes now o).length = 10 := by
  cases o <;> rfl
@[simp] theorem runningBytes_length (o : Option Running) : (runningBytes o).length = 4 := by cases o <;> rfl
@[simp] theorem formatBytes_length (o : Option Format) : (formatBytes o).length = 5 := by cases o <;> rfl
@[simp] theorem calBytes_length (o : Option Cal) : (calBytes now o).length = 26 := by cases o <;> rfl
@[simp] theorem Slot.bytes_length (x : Slot × Nat) : (x.1.bytes now x.2).length = 19 := by
  cases x.1.stop <;> simp [Slot.bytes]
@[simp] theorem meansBytes_length (o : Option Means) : (meansBytes o).length = 3 := by cases o <;> rfl
@[simp] theorem Counters.bytes_length (n : Counters) : n.bytes.length = 24 := rfl
@[simp] theorem statsSlotBytes_length (o : Option Slot) : (statsSlotBytes now o).length = 13 := by
  cases o <;> simp [statsSlotBytes]
@[simp] theorem Segment.bytes_length (g : Segment) : g.bytes.length = 10 := by simp [Segment.bytes]
@[simp] theorem recordBytes_length (o : Option Record) : (recordBytes o).length = 96 := by
  cases o <;> simp [recordBytes, Record.bytes]

theorem ArbTable.bytes_length {t : ArbTable} (h : t.Law) : t.bytes.length = 47 := by
  simp [ArbTable.bytes, padTo_length, h.wheel, h.priority, h.robin]

theorem BusState.bytes_length {b : BusState} (h : b.waiting.length ≤ 4) : b.bytes.length = 16 := by
  have hruns : (b.waiting.flatMap fun r => [camByte r.camera, r.selector.code]).length ≤ 8 := by
    rw [flatMap_length (size := 2) (fun _ => rfl)]
    omega
  simp [BusState.bytes, padTo_length hruns]

end Pieces

/-- An arbitration entry as a number: its client, and 16 more for URGENT. -/
theorem ArbEntry.code_eq (e : ArbEntry) : e.code = byteOf ((match e.client with | .w c => c.idx | .rp => 4 | .rs => 5) +
    (match e.qualifier with | .any => 0 | .urgent => 16)) := by
  obtain ⟨client, qualifier⟩ := e
  cases qualifier <;> cases client with
  | w c => cases c <;> decide
  | rp => decide
  | rs => decide

section Requests

variable {s : State} {tag part camera clear selector : Byte} {c : Cam}

theorem exec_getStatus (ha : s.canAccept) (hm : s.mode ≠ .booting) {body : List Byte}
    (h : s.taken.statusBody part = some body) : exec (.getStatus tag part) s = .next (s.answered 0x16 tag .ok body) := by
  refine congrArg Host.Outcome.next ((State.acceptLive_ok ha hm 0x16 tag _).trans ?_)
  rw [h]
  rfl

theorem exec_getStatus_bad (ha : s.canAccept) (hm : s.mode ≠ .booting) (h : 3 < part.toNat) :
    exec (.getStatus tag part) s = .next (s.answered 0x16 tag .badField) := by
  have hnone : s.taken.statusBody part = none := by
    unfold State.statusBody
    split
    any_goals omega
    rfl
  refine congrArg Host.Outcome.next ((State.acceptLive_ok ha hm 0x16 tag _).trans ?_)
  rw [hnone]
  rfl

theorem exec_getCamera (ha : s.canAccept) (hm : s.mode ≠ .booting) : exec (.getCamera tag camera) s =
    .next (match camOf camera with
      | some c => s.answered 0x17 tag .ok (s.cameraBody c)
      | none => s.answered 0x17 tag .badField) := by
  refine congrArg Host.Outcome.next ((State.acceptLive_ok ha hm 0x17 tag _).trans ?_)
  cases camOf camera <;> rfl

theorem exec_getStats (ha : s.canAccept) (hm : s.mode ≠ .booting) : exec (.getStats tag camera clear) s =
    .next (match camOf camera with
      | some c => (if flagOf clear then s.clearCounters c else s).answered 0x18 tag .ok (s.statsBody c)
      | none => s.answered 0x18 tag .badField) := by
  refine congrArg Host.Outcome.next ((State.acceptLive_ok ha hm 0x18 tag _).trans ?_)
  cases camOf camera with
  | none => rfl
  | some c => cases flagOf clear <;> rfl

theorem exec_getComposition (ha : s.canAccept) (hm : s.mode ≠ .booting) : exec (.getComposition tag selector) s =
    .next (match s.recordOf selector with
      | some r => s.answered 0x19 tag .ok (recordBytes r)
      | none => s.answered 0x19 tag .badField) := by
  refine congrArg Host.Outcome.next ((State.acceptLive_ok ha hm 0x19 tag _).trans ?_)
  rw [show s.taken.recordOf selector = s.recordOf selector from rfl]
  cases s.recordOf selector <;> rfl

theorem State.recordOf_bad (h : 1 < selector.toNat) : s.recordOf selector = none := by
  unfold State.recordOf
  split
  any_goals omega
  rfl

/-- The READY slot that is newer than all others (R26). -/
theorem Port.newestReady_of {p : Port} {j : Nat} {x : Slot} (hx : p.ring[j]? = some x) (hs : x.state = .ready)
    (h : ∀ i y, i ≠ j → p.ring[i]? = some y → y.state = .ready → y.olderOrSame x = true ∧ x.olderOrSame y = false) :
    p.newestReady = some x := by
  have hnew : newestOf (p.ring.zipIdx.filter fun x => x.1.state == .ready) = some (x, j) := by
    refine newestOf_unique (List.mem_filter.mpr ⟨List.mem_zipIdx_iff_getElem?.mpr hx, by simp [hs]⟩) ?_
    rintro ⟨y, i⟩ hy hne
    obtain ⟨hin, hready⟩ := List.mem_filter.mp hy
    have hyi : p.ring[i]? = some y := List.mem_zipIdx_iff_getElem?.mp hin
    refine h i y (fun hi => hne ?_) hyi (by simpa using hready)
    subst hi
    rw [hx] at hyi
    cases hyi
    rfl
  simp only [Port.newestReady, hnew, Option.map_some]

theorem Port.newestReady_none {p : Port} (h : ∀ y ∈ p.ring, y.state ≠ .ready) : p.newestReady = none := by
  have hnone : p.ring.zipIdx.filter (fun x => x.1.state == .ready) = [] := by
    refine List.filter_eq_nil_iff.mpr fun x hx => ?_
    simp [h x.1 (List.fst_mem_of_mem_zipIdx hx)]
  simp only [Port.newestReady, hnone]
  rfl

theorem Slot.olderOrSame_of {x y : Slot}
    (h : (x.start ≠ y.start ∧ notLater y.start x.start = true ∧ notLater x.start y.start = false) ∨
      (x.start = y.start ∧ notLater y.seq x.seq = true ∧ notLater x.seq y.seq = false)) :
    y.olderOrSame x = true ∧ x.olderOrSame y = false := by
  unfold Slot.olderOrSame
  rcases h with ⟨hne, h1, h2⟩ | ⟨he, h1, h2⟩
  · rw [if_neg (Ne.symm hne), if_neg hne]
    exact ⟨h1, h2⟩
  · rw [if_pos he.symm, if_pos he]
    exact ⟨h1, h2⟩

end Requests

/-- Settles O12: what each request reports, field by field, and the metadata line. -/
theorem queriesChangeNothingElse : Obligations.QueriesChangeNothingElse := by
  unfold Obligations.QueriesChangeNothingElse
  intro flag opt signed entryAt engineNum viewAt blendAt recordAt handoffAt entriesAt tableAt selCode busAt meansAt
  have hentry : ∀ xs k o, Holds xs k (entryBytes o) → entryAt xs k o := by
    intro xs k o h
    cases o with
    | none => exact Holds.replicate_iff.mp h
    | some e =>
      simp [entryBytes, SourceEntry.bytes, camByte, SourceEntry.flags, flagBits_eq] at h
      exact h
  have hengine : ∀ e : Engine, e.code = byteOf (engineNum e) := fun e => by cases e <;> rfl
  have hdirection : ∀ d : Direction, d.code = byteOf (match d with | .forward => 1 | .back => 2) := fun d => by cases d <;> rfl
  have hview : ∀ xs k v, Holds xs k (View.bytes v) → viewAt xs k v := by
    intro xs k v h
    cases v <;> simp [View.bytes, camByte, absent16] at h <;> exact h
  have hrecord : ∀ xs o, xs.length = 96 → Holds xs 0 (recordBytes o) → recordAt xs o := by
    intro xs o hl h
    refine ⟨hl, ?_⟩
    cases o with
    | none =>
      intro j hj
      have := Holds.replicate_iff.mp h j hj
      rwa [Nat.zero_add] at this
    | some r =>
      simp [recordBytes, Record.bytes, hengine, Record.flags, flagBits_eq] at h
      obtain ⟨h0, h1, h5, h9, h13, h15, h17, hfields, h22, hv, h29, h30, h32, h64⟩ := h
      have hincoming : field8 xs 18 (match r.engine with | .prepare _ i _ _ => i.idx | _ => 255) ∧
          blendAt xs 20 21 19 r.engine := by
        cases he : r.engine
        all_goals
          rw [he] at hfields
          simp [Engine.recordFields, camByte, hdirection] at hfields
          obtain ⟨h18, h19, h20, h21⟩ := hfields
          exact ⟨h18, h20, h21, h19⟩
      exact ⟨h0, h1, h5, h9, h13, h15, h17, hincoming.1, hincoming.2, h22, hview _ _ _ hv, h29, h30, hentry _ _ _ h32,
        hentry _ _ _ h64⟩
  have hsettings : ∀ xs k h, Holds xs k (HandoffSettings.bytes h) → handoffAt xs k h := by
    intro xs k h hh
    simp [HandoffSettings.bytes] at hh
    obtain ⟨h0, h2, h3, h4, h5⟩ := hh
    exact ⟨h0, h2, h3, h4, h5⟩
  have hentries : ∀ xs k n es, Holds xs k (padTo n absent8 (es.map ArbEntry.code)) → entriesAt xs k n es := by
    intro xs k n es h
    rw [Holds.padTo_iff, List.length_map] at h
    refine ⟨fun j e he => ?_, h.2⟩
    exact (h.1 j e.code (by simp [he])).trans (congrArg some e.code_eq)
  have htable : ∀ xs k t, ArbTable.Law t → Holds xs k t.bytes → tableAt xs k t := by
    intro xs k t ht h
    simp [ArbTable.bytes, padTo_length, ht.wheel, ht.priority] at h
    obtain ⟨h0, h1, h2, hw, hp, hr⟩ := h
    exact ⟨h0, h1, h2, hentries _ _ _ _ hw, hentries _ _ _ _ hp, hentries _ _ _ _ hr⟩
  have hselector : ∀ x : Selector, x.code = byteOf (selCode x) := fun x => by cases x <;> rfl
  have hmode : ∀ x : Mode, x.code = byteOf (match x with | .booting => 0 | .config => 1 | .run => 2) := fun x => by
    cases x <;> rfl
  have hramp : ∀ x : RampMode, x.code = byteOf (match x with | .append => 0 | .replace => 1) := fun x => by cases x <;> rfl
  have hstate : ∀ x : CamState, x.code = byteOf (match x with
      | .off => 0 | .loading => 1 | .waiting => 2 | .streaming => 3 | .stalled => 4 | .faulted => 5 | .stopping => 6) :=
    fun x => by cases x <;> rfl
  have hstart : ∀ x : StartMode, x.code = byteOf (match x with | .live => 0 | .pattern => 1) := fun x => by cases x <;> rfl
  have hreason : ∀ x : Reason, x.code = byteOf (match x with
      | .none => 0 | .request => 1 | .autoStart => 2 | .started => 3 | .script => 4 | .frame => 5 | .noFirstFrame => 6
      | .stall => 7 | .stalledOut => 8 | .stopped => 9) := fun x => by cases x <;> rfl
  have hslotState : ∀ x : SlotState, x.code = byteOf (match x with | .free => 0 | .filling => 1 | .draining => 2 | .ready => 3) :=
    fun x => by cases x <;> rfl
  have hpin : ∀ x : Pin, x.code = byteOf (match x with | .none => 0 | .primary => 1 | .secondary => 2) := fun x => by
    cases x <;> rfl
  have hbusNum : ∀ x : Bus, flagNum (x == .b) = (match x with | .a => 0 | .b => 1) := fun x => by cases x <;> rfl
  have hphase : ∀ x : Phase, x.code = byteOf (match x with | .ready => 0 | .onBus => 1 | .waiting _ => 2 | .retry _ => 3) :=
    fun x => by cases x <;> rfl
  have hbus : ∀ (xs : List Byte) (k : Nat) (b : BusState), Holds xs k b.bytes → busAt xs k b := by
    intro xs k b h
    simp [BusState.bytes] at h
    obtain ⟨h0, h1, h2, hrun, h7, hwait⟩ := h
    obtain ⟨hruns, hrest⟩ := Holds.padTo_iff.mp hwait
    rw [flatMap_length (size := 2) (fun _ => rfl)] at hrest
    refine ⟨?_, h2, ?_, h7, fun j r hr => ?_, hrest⟩
    · cases he : b.engine with
      | none =>
        rw [he] at h0 h1
        exact ⟨h0, h1⟩
      | some e =>
        obtain ⟨owner, rest⟩ := e
        rw [he] at h0 h1
        cases owner <;> exact ⟨h0, h1⟩
    · cases hr : b.running with
      | none =>
        rw [hr] at hrun
        exact Holds.replicate_iff.mp hrun
      | some r =>
        rw [hr] at hrun
        simp [runningBytes, camByte, hselector, hphase] at hrun
        exact hrun
    · have := Holds.flatMap (size := 2) (fun _ => rfl) hruns hr
      simp [camByte, hselector] at this
      rw [show k + 8 + 2 * j = k + 1 + 1 + 1 + 4 + 1 + 2 * j by omega,
        show k + 9 + 2 * j = k + 1 + 1 + 1 + 4 + 1 + 2 * j + 1 by omega]
      exact this
  have hmeans : ∀ xs k o, Holds xs k (meansBytes o) → meansAt xs k o := by
    intro xs k o h
    cases o <;> simp [meansBytes] at h <;> exact h
  refine ⟨fun wo o hwo => ?line, fun s tag b clear ha hm => ?_⟩
  case line =>
    have h := Holds.padTo_iff.mp (Holds.self (padTo wo 0 (recordBytes o)))
    have hlen : (padTo wo 0 (recordBytes o)).length = wo := padTo_length (by rw [recordBytes_length]; omega)
    refine ⟨_, rfl, hlen, hrecord _ _ (by rw [List.length_take, hlen]; omega) fun j b hj => ?_, fun j hl hj => ?_⟩
    · have hlt : j < 96 := by
        obtain ⟨hlt, -⟩ := List.getElem?_eq_some_iff.mp hj
        rwa [recordBytes_length] at hlt
      rw [Nat.zero_add, List.getElem?_take_of_lt hlt]
      have := h.1 j b hj
      rwa [Nat.zero_add] at this
    · have := h.2 j (by rwa [recordBytes_length]) hj
      rwa [Nat.zero_add] at this
  intro o status
  have hstatus : ∀ (fields : List Byte → Prop) (body : List Byte), s.taken.statusBody b = some (b :: body) →
      (∀ xs, xs.length = body.length + 1 → Holds xs 1 body → fields xs) → status fields := by
    intro fields body hbody h
    exact ⟨_, exec_getStatus ha hm hbody, field8_of_byte rfl, h _ rfl (Holds.cons_iff.mp (Holds.self _)).2⟩
  refine ⟨?part, ?ramp, ?arbiter, ?relay, exec_getStatus_bad ha hm, ?camera, ?absent, ?current, ?previous, ?selector⟩
  case part =>
    rintro rfl
    refine hstatus _ _ rfl fun xs hl h => ?_
    have hlen : s.taken.partBytes.length = 62 := by simp [State.partBytes]
    simp [State.partBytes, hmode] at h
    obtain ⟨h1, h2, h3, h9, h14, h23, h33, h35, h36, h38, h40, h44, h46, h48, h49, h51, h53, h54, h55, h56, h57, h58, h59⟩ := h
    rw [noticeCount, List.countP_eq_length_filter] at h56
    have hengine : field8 xs 3 (engineNum s.zoom.engine) ∧ field8 xs 4 (opt 255 (s.zoom.engine.cams.head?.map Cam.idx)) ∧
        field8 xs 5 (opt 255 (s.zoom.engine.cams[1]?.map Cam.idx)) ∧ blendAt xs 6 7 8 s.zoom.engine := by
      rw [State.taken] at h3
      cases he : s.zoom.engine
      all_goals
        rw [he] at h3
        simp [Engine.statusFields, camByte, hdirection, hengine] at h3
        obtain ⟨h3, h4, h5, h6, h7, h8⟩ := h3
        exact ⟨h3, h4, h5, h6, h7, h8⟩
    obtain ⟨he3, he4, he5, he6⟩ := hengine
    have hpending : (match s.zoom.pendingSettings with
        | some h => field8 xs 23 1 ∧ handoffAt xs 24 h
        | none => field8 xs 23 0 ∧ field16 xs 24 65535 ∧ field8 xs 26 255 ∧ field8 xs 27 255 ∧ field8 xs 28 255) := by
      rw [State.taken] at h23
      cases hp : s.zoom.pendingSettings with
      | some g =>
        rw [hp] at h23
        obtain ⟨h23, h24⟩ := Holds.cons_iff.mp h23
        exact ⟨h23, hsettings _ _ _ h24⟩
      | none =>
        rw [hp] at h23
        simp [pendingSettingsBytes, absent16] at h23
        obtain ⟨h23, h24, h25, h26, h27, h28, -⟩ := h23
        exact ⟨h23, ⟨h24, h25⟩, h26, h27, h28⟩
    refine ⟨by rw [hl, hlen], h1, h2, he3, he4, he5, he6, hview _ _ _ h9, hsettings _ _ _ h14, hpending, h33, h35, h36, h38,
      fun f hf => ?_, h44, h46, h48, h49, h51, field8_of_byte h53, h54, h55, h56, h57, h58, h59⟩
    rw [show s.otg.format = some f from hf] at h40
    exact word_iff.mp h40
  case ramp =>
    rintro rfl
    refine hstatus _ _ rfl fun xs hl h => ?_
    simp [Zoom.rampBytes] at h
    obtain ⟨h1, h2, hqueue⟩ := h
    refine ⟨h1, h2, fun j g hg => ?_⟩
    intro k
    have hsegment := Holds.flatMap (size := 10) Segment.bytes_length hqueue hg
    simp [Segment.bytes, hramp] at hsegment
    obtain ⟨g0, g2, g4, g5, g6, g8⟩ := hsegment
    exact ⟨g0, g2, g4, g5, g6, g8⟩
  case arbiter =>
    rintro rfl hlaw
    refine hstatus _ _ rfl fun xs hl h => ?_
    have hlen : s.taken.arbiter.table.bytes.length = 47 := ArbTable.bytes_length hlaw.table
    simp [Arbiter.bytes, hlen] at h
    obtain ⟨h1, h48, h49, h50⟩ := h
    have hpending : (match s.arbiter.pendingTable with
        | some t => field8 xs 50 1 ∧ tableAt xs 51 t
        | none => field8 xs 50 0 ∧ ∀ j, j < 47 → field8 xs (51 + j) 255) ∧
        (pendingTableBytes s.arbiter.pendingTable).length = 48 := by
      rw [State.taken] at h50
      cases hp : s.arbiter.pendingTable with
      | some t =>
        have ht : t.Law := hlaw.pending t hp
        rw [hp] at h50
        obtain ⟨h50, h51⟩ := Holds.cons_iff.mp h50
        exact ⟨⟨h50, htable _ _ _ ht h51⟩, by simp [pendingTableBytes, ArbTable.bytes_length ht]⟩
      | none =>
        rw [hp] at h50
        obtain ⟨h50, h51⟩ := Holds.cons_iff.mp h50
        exact ⟨⟨h50, Holds.replicate_iff.mp h51⟩, rfl⟩
    refine ⟨?_, htable _ _ _ hlaw.table h1, h48, h49, hpending.1⟩
    rw [hl, Arbiter.bytes, List.length_append, List.length_append, hlen,
      show (pendingTableBytes s.taken.arbiter.pendingTable).length = 48 from hpending.2]
    rfl
  case relay =>
    rintro rfl hwait
    refine hstatus _ _ rfl fun xs hl h => ?_
    have hlen : ∀ x, (s.bus x).bytes.length = 16 := fun x => BusState.bytes_length (hwait x)
    obtain ⟨ha, hb⟩ := Holds.append_iff.mp h
    rw [show s.taken.relay.buses.a.bytes.length = 16 from hlen .a] at hb
    refine ⟨hl.trans ?_, hbus _ _ _ ha, hbus _ _ _ hb⟩
    rw [Relay.bytes, List.length_append, show s.taken.relay.buses.a.bytes.length = 16 from hlen .a,
      show s.taken.relay.buses.b.bytes.length = 16 from hlen .b]
  case camera =>
    intro c hc p
    rw [exec_getCamera ha hm, hc]
    refine ⟨Holds.reported (s.cameraBody c) rfl fun xs hl h => ?report, ?stats⟩
    case report =>
      have hlen : (s.cameraBody c).length = 42 + 19 * p.ring.length := by
        simp [State.cameraBody, flatMap_length Slot.bytes_length, p]
        omega
      simp [State.cameraBody, flagBits_two, hstate, hstart, hreason] at h
      obtain ⟨h0, hformat, hcal, h32, h33, h34, h35, h39, h40, h41, hring⟩ := h
      have hformat : field16 xs 1 (opt 65535 (p.format.map Format.ws)) ∧ field16 xs 3 (opt 65535 (p.format.map Format.hs)) ∧
          field8 xs 5 (opt 255 (p.format.map Format.slots)) := by
        cases hf : p.format with
        | none =>
          rw [hf] at hformat
          simp [formatBytes, Holds.absent16_iff] at hformat
          exact hformat
        | some f =>
          rw [hf] at hformat
          simp [formatBytes] at hformat
          exact hformat
      have hcal : (match p.cal with
          | some k => field16 xs 6 k.m ∧ field16 xs 8 k.zmax ∧ field16 xs 10 (signed 16 k.cx) ∧ field16 xs 12 (signed 16 k.cy)
            ∧ field16 xs 14 (signed 16 k.px) ∧ field16 xs 16 (signed 16 k.py) ∧ field32 xs 18 k.interval
            ∧ field32 xs 22 k.arrival ∧ field32 xs 26 k.first
            ∧ field8 xs 30 (flag k.autoStart + 2 * (match k.bus with | .a => 0 | .b => 1)) ∧ field8 xs 31 k.address
          | none => (∀ j, j < 6 → field16 xs (6 + 2 * j) 65535) ∧ field8 xs 30 255 ∧ field8 xs 31 255) := by
        cases hk : p.cal with
        | none =>
          rw [hk] at hcal
          simp [calBytes, Holds.absent16_iff] at hcal
          obtain ⟨c0, c1, c2, c3, c4, c5, -, -, -, h30, h31⟩ := hcal
          refine ⟨fun j hj => ?_, h30, h31⟩
          rcases (by omega : j = 0 ∨ j = 1 ∨ j = 2 ∨ j = 3 ∨ j = 4 ∨ j = 5) with rfl | rfl | rfl | rfl | rfl | rfl
          exacts [c0, c1, c2, c3, c4, c5]
        | some k =>
          rw [hk] at hcal
          simp [calBytes, flagBits_two, hbusNum] at hcal
          exact hcal
      refine ⟨hl.trans hlen, h0, hformat.1, hformat.2.1, hformat.2.2, hcal, h32, h33, h34, h35, h39, h40, h41, fun j x hx => ?_⟩
      intro k
      have hslot := Holds.flatMap (j := j) (a := (x, j)) Slot.bytes_length hring (by simpa using hx)
      simp [Slot.bytes, Slot.flags, flagBits_two, hslotState, hpin] at hslot
      obtain ⟨s0, s1, s2, s3, s7, s11, s12, s16, s18⟩ := hslot
      refine ⟨s0, s1, s2, s3, s7, s11, fun y hy => ?_, s16, s18⟩
      rw [hy] at s12
      exact word_iff.mp s12
    case stats =>
      have hstats : ∀ flagged, exec (.getStats tag b flagged) s = .next
          ((if flagOf flagged then s.clearCounters c else s).answered 0x18 tag .ok (s.statsBody c)) := fun flagged => by
        rw [exec_getStats ha hm, hc]
      have hcleared : clear ≠ 0 → exec (.getStats tag b clear) s = .next
          ((s.setPort c { p with counters := ⟨0, 0, 0, 0, 0, 0⟩ }).answered 0x18 tag .ok (s.statsBody c)) := fun hclear => by
        rw [hstats clear, if_pos (c := flagOf clear = true) (bne_iff_ne.mpr hclear)]
        rfl
      refine Exists.imp (fun xs h => and_assoc.mp h) (Holds.reported (s.statsBody c) ⟨hstats 0, hcleared⟩ fun xs hl h => ?_)
      have hlen : (s.statsBody c).length = 37 := by simp [State.statsBody]
      obtain ⟨hcounters, hslot⟩ := Holds.append_iff.mp h
      rw [Counters.bytes_length] at hslot
      simp [Counters.bytes] at hcounters
      obtain ⟨c0, c4, c8, c12, c16, c20⟩ := hcounters
      refine ⟨hl.trans hlen, c0, c4, c8, c12, c16, c20, fun hno => ?_, fun j x hx hready hnew => ?_⟩
      · rw [Port.newestReady_none hno] at hslot
        simp [statsSlotBytes] at hslot
        obtain ⟨h24, -, h29, h32, h33, h36⟩ := hslot
        exact ⟨h24, hmeans _ _ _ h29, h32, hmeans _ _ _ h33, h36⟩
      · rw [Port.newestReady_of hx hready fun i y hi hy hs => Slot.olderOrSame_of (hnew i y hi hy hs)] at hslot
        simp [statsSlotBytes, Slot.flags, flagBits_two] at hslot
        obtain ⟨h24, h25, h29, h32, h33, h36⟩ := hslot
        exact ⟨h24, h25, hmeans _ _ _ h29, h32, hmeans _ _ _ h33, h36⟩
  case absent =>
    intro hb
    rw [exec_getCamera ha hm, exec_getStats ha hm, camOf_of_gt hb]
    exact ⟨rfl, rfl⟩
  case current =>
    refine ⟨_, exec_getComposition ha hm, hrecord _ _ (recordBytes_length _) (Holds.self _)⟩
  case previous =>
    refine ⟨_, exec_getComposition ha hm, hrecord _ _ (recordBytes_length _) (Holds.self _)⟩
  case selector =>
    intro hb
    rw [exec_getComposition ha hm, State.recordOf_bad hb]

end Sys2Proof.Machine
end

section
/-!
PROOF. The hand-off engine (chapter 04, sections 4.4 to 4.8 and 4.12): what each step settles.
-/

namespace Sys2Proof.Machine

/-! ### The tests the stage asks (R59, R62, R64, R65) -/

section Tests

variable {s : State} {c f p t i : Cam} {zc : Nat}

theorem State.streaming_iff : s.streaming c = true ↔ (s.port c).state = .streaming := beq_iff_eq

theorem State.streaming_false : s.streaming c = false ↔ (s.port c).state ≠ .streaming := by
  rw [← Bool.not_eq_true, State.streaming_iff]

theorem State.canServe_iff :
    s.canServe c = true ↔ (s.port c).state = .streaming ∧ (s.zoom.selection.get c).isSome = true := by
  rw [State.canServe, Bool.and_eq_true, State.streaming_iff, State.selectable]

theorem State.canServe_false :
    s.canServe c = false ↔ ¬ ((s.port c).state = .streaming ∧ (s.zoom.selection.get c).isSome = true) := by
  rw [← Bool.not_eq_true, State.canServe_iff]

theorem State.overlap_iff : s.overlap c f = true ↔ max (s.mOf c) (s.mOf f) ≤ min (s.zmaxOf c) (s.zmaxOf f) :=
  decide_eq_true_iff

theorem CamState.preparable_iff {x : CamState} :
    x.preparable = true ↔ x = .off ∨ x = .loading ∨ x = .waiting ∨ x = .streaming := by
  cases x <;> simp [CamState.preparable]

/-- The incoming camera of PREPARE is lost (R65). -/
theorem State.incomingLost_iff {started : Bool} : s.incomingLost i started = true ↔ (s.port i).state = .stalled ∨
    (s.port i).state = .faulted ∨ (s.port i).state = .stopping ∨ ((s.port i).state = .off ∧ started = true) := by
  rw [State.incomingLost, State.camState]
  cases (s.port i).state <;> simp

/-- What is asked for a camera that is needed and OFF (R63, R64). -/
theorem State.needs_eq (s : State) (i : Cam) : s.needs i =
    (if (s.port i).state = .off then [.prepareNeeded i] else [],
      if (s.port i).state = .off ∧ (s.port i).cal.any Cal.autoStart = true then some i else none) := by
  have hauto : s.autoStarts i = (s.port i).cal.any Cal.autoStart := by
    unfold State.autoStarts
    cases (s.port i).cal <;> rfl
  rw [State.needs, State.camState, hauto]
  by_cases h : (s.port i).state = .off <;> simp [h]

/-- The fallback choice: the narrowest camera that can serve with M up to the candidate, or else the widest (R73). -/
theorem State.fallbackChoice_of (hf : s.canServe f = true)
    (h : (s.mOf f ≤ zc ∧ ∀ d, f.idx < d.idx → s.canServe d = true → zc < s.mOf d) ∨
      ((∀ d, s.canServe d = true → zc < s.mOf d) ∧ ∀ d, d.idx < f.idx → ¬ s.canServe d = true)) :
    s.fallbackChoice zc = some f := by
  unfold State.fallbackChoice
  rcases h with ⟨hm, hn⟩ | ⟨hn, hw⟩
  · rw [Cam.find_last (n := f) (by simp [hf, hm]) fun d hd => ?_]
    by_cases hs : s.canServe d = true
    · simp [hn d hd hs]
    · simp [hs]
  · have hnone : Cam.allDown.find? (fun f => s.canServe f && decide (s.mOf f ≤ zc)) = none := by
      refine (Cam.find_none fun d => ?_).2
      by_cases hs : s.canServe d = true
      · simp [hn d hs]
      · simp [hs]
    rw [hnone]
    exact Cam.find_first hf fun d hd => Bool.eq_false_iff.mpr (hw d hd)

theorem State.fallbackChoice_none (h : ∀ c, ¬ s.canServe c = true) : s.fallbackChoice zc = none := by
  have hnone : ∀ c, s.canServe c = false := fun c => Bool.eq_false_iff.mpr (h c)
  unfold State.fallbackChoice
  rw [(Cam.find_none fun d => by simp [hnone d]).2]
  exact (Cam.find_none hnone).1

/-- The target from a camera (R61). -/
theorem State.target_eq (s : State) (p : Cam) (zc : Nat) : s.target p zc = match s.zoom.view, s.freshChoice zc with
    | .locked c, _ => c
    | _, some f => if p.idx < f.idx ∨ zc < s.downOf p then f else p
    | _, none => p := by
  have hif : ∀ f : Cam, (if p.idx < f.idx then f else if zc < s.downOf p then f else p) =
      if p.idx < f.idx ∨ zc < s.downOf p then f else p := fun f => by
    by_cases h : p.idx < f.idx <;> simp [h]
  unfold State.target
  cases s.zoom.view with
  | locked c => rfl
  | normal => cases s.freshChoice zc <;> simp [hif]
  | compare a b split => cases s.freshChoice zc <;> simp [hif]

/-- Camera `c` stands between `p` and the target `t`, `t` included (R62). -/
def onWay (p t c : Cam) : Prop := (p.idx < c.idx ∧ c.idx ≤ t.idx) ∨ (t.idx ≤ c.idx ∧ c.idx < p.idx)

/-- Camera `c` is nearer to `p` than `d`, on one side of it. -/
def nearerTo (p c d : Cam) : Prop := (p.idx < c.idx ∧ c.idx < d.idx) ∨ (d.idx < c.idx ∧ c.idx < p.idx)

theorem cameraPath_find (p t : Cam) (q : Cam → Bool) : (cameraPath p t).find? q =
    if p.idx < t.idx then Cam.all.find? fun c => decide (p.idx < c.idx ∧ c.idx ≤ t.idx) && q c
    else Cam.allDown.find? fun c => decide (t.idx ≤ c.idx ∧ c.idx < p.idx) && q c := by
  unfold cameraPath
  split <;> simp [List.find?_filter]

/-- The first camera of a path that meets a test. -/
theorem cameraPath_first {q : Cam → Bool} (hi : onWay p t i) (hq : q i = true)
    (h : ∀ d, onWay p t d → nearerTo p d i → ¬ q d = true) : (cameraPath p t).find? q = some i := by
  rw [cameraPath_find]
  by_cases hpt : p.idx < t.idx
  · have hin : p.idx < i.idx ∧ i.idx ≤ t.idx := by
      unfold onWay at hi
      omega
    rw [if_pos hpt]
    refine Cam.find_first (by simp [hin, hq]) fun d hd => ?_
    by_cases hdw : p.idx < d.idx ∧ d.idx ≤ t.idx
    · simp [h d (.inl hdw) (.inl ⟨hdw.1, hd⟩)]
    · rw [decide_eq_false hdw, Bool.false_and]
  · have hin : t.idx ≤ i.idx ∧ i.idx < p.idx := by
      unfold onWay at hi
      omega
    rw [if_neg hpt]
    refine Cam.find_last (by simp [hin, hq]) fun d hd => ?_
    by_cases hdw : t.idx ≤ d.idx ∧ d.idx < p.idx
    · simp [h d (.inr hdw) (.inr ⟨hd, hdw.2⟩)]
    · rw [decide_eq_false hdw, Bool.false_and]

theorem cameraPath_none {q : Cam → Bool} (h : ∀ d, onWay p t d → ¬ q d = true) : (cameraPath p t).find? q = none := by
  rw [cameraPath_find]
  split
  · refine (Cam.find_none fun d => ?_).1
    by_cases hdw : p.idx < d.idx ∧ d.idx ≤ t.idx
    · simp [h d (.inl hdw)]
    · rw [decide_eq_false hdw, Bool.false_and]
  · refine (Cam.find_none fun d => ?_).2
    by_cases hdw : t.idx ≤ d.idx ∧ d.idx < p.idx
    · simp [h d (.inr hdw)]
    · rw [decide_eq_false hdw, Bool.false_and]

/-- The step camera is the target when their ranges overlap, or else the nearest on the way that can be stepped to (R62). -/
theorem State.stepCamera_of (h : (s.overlap t p = true ∧ i = t) ∨ (¬ s.overlap t p = true ∧ onWay p t i ∧
      s.eligible i = true ∧ s.overlap i p = true ∧
      ∀ d, onWay p t d → nearerTo p d i → ¬ (s.eligible d = true ∧ s.overlap d p = true))) :
    s.stepCamera p t = some i := by
  unfold State.stepCamera
  rcases h with ⟨ho, rfl⟩ | ⟨ho, hw, he, hi, hn⟩
  · rw [if_pos ho]
  · rw [if_neg ho]
    exact cameraPath_first hw (by simp [he, hi]) fun d hd hdi => by simpa using hn d hd hdi

theorem State.stepCamera_none (ho : ¬ s.overlap t p = true)
    (h : ∀ d, onWay p t d → ¬ (s.eligible d = true ∧ s.overlap d p = true)) : s.stepCamera p t = none := by
  rw [State.stepCamera, if_neg ho]
  exact cameraPath_none fun d hd => by simpa using h d hd

end Tests

/-! ### The stage outside view COMPARE (R60) -/

section Stage

variable {s : State} {x : HandoffIn}

/-- Outside view COMPARE the view step finds the view as it is. -/
theorem State.withViewNow_plain (h : ∀ a b split, s.zoom.view ≠ .compare a b split) : s.withViewNow = s := by
  have hview : s.viewNow = s.zoom.view := by
    unfold State.viewNow
    split
    next a b split hv => exact absurd hv (h a b split)
    next => rfl
  unfold State.withViewNow
  rw [hview]
  dsimp only
  split
  next a b split _ _ _ hv _ => exact absurd hv (h a b split)
  next => rfl

/-- Outside view and engine COMPARE: the loss step, and without a loss the state step. -/
theorem State.handoff_plain (hv : ∀ a b split, s.zoom.view ≠ .compare a b split) (hs : s.zoom.engine ≠ .stopped)
    (hc : ∀ a b split, s.zoom.engine ≠ .compare a b split) :
    s.handoff x = (s.lossStep x).getD (s.stateStep x) := by
  have hnone : s.viewStep x = none := by
    unfold State.viewStep
    split
    next a b split _ _ _ hview _ => exact absurd hview (hv a b split)
    next a b split hview _ => exact absurd hview (hv a b split)
    next he _ => exact absurd he (hc _ _ _)
    next => rfl
  unfold State.handoff
  rw [State.withViewNow_plain hv]
  split
  next he => exact absurd he hs
  next =>
    dsimp only
    rw [hnone]
    cases s.lossStep x <;> rfl

theorem State.handoff_lost {v : Verdict} (hv : ∀ a b split, s.zoom.view ≠ .compare a b split)
    (hs : s.zoom.engine ≠ .stopped) (hc : ∀ a b split, s.zoom.engine ≠ .compare a b split) (h : s.lossStep x = some v) :
    s.handoff x = v := by
  rw [State.handoff_plain hv hs hc, h, Option.getD_some]

theorem State.handoff_kept (hv : ∀ a b split, s.zoom.view ≠ .compare a b split) (hs : s.zoom.engine ≠ .stopped)
    (hc : ∀ a b split, s.zoom.engine ≠ .compare a b split) (h : s.lossStep x = none) : s.handoff x = s.stateStep x := by
  rw [State.handoff_plain hv hs hc, h, Option.getD_none]

/-- The first boundary (R83). -/
theorem State.handoff_stopped (hv : ∀ a b split, s.zoom.view ≠ .compare a b split) (he : s.zoom.engine = .stopped) :
    s.handoff x = s.firstStep x := by
  unfold State.handoff
  rw [State.withViewNow_plain hv]
  simp only [he]

/-- A source is lost and another serves, or none does (R73, R74). -/
theorem State.fallback_of {lost : Option Cam} {f : Cam} (h : s.fallbackChoice x.zc = some f) : s.fallback x lost =
    ⟨.steady f, none, s.zoom.view, .measure f, [.handoff .fallback lost (some f) x.frame], none, true⟩ := by
  simp only [State.fallback, h]

theorem State.fallback_none {lost : Option Cam} (h : s.fallbackChoice x.zc = none) : s.fallback x lost =
    ⟨.frozen, none, s.zoom.view, .keep, [.handoff .frozen lost none x.frame], none, false⟩ := by
  simp only [State.fallback, h]

/-- The direction of a blend goes back (R69): by the lock, or else by the zoom. -/
def State.turnsBack (s : State) (zc : Nat) (o i : Cam) (dir : Direction) : Bool :=
  if s.zoom.view = .locked i then false else if s.zoom.view = .locked o then true
  else if o.idx < i.idx then
    (match dir with | .forward => decide (zc < s.downOf i) | .back => decide (zc < s.upOf i))
  else (match dir with | .forward => decide (s.upOf o ≤ zc) | .back => decide (s.downOf o ≤ zc))

theorem State.blendDirection_eq (s : State) (zc : Nat) (o i : Cam) (dir : Direction) :
    s.blendDirection zc o i dir = if s.turnsBack zc o i dir = true then .back else .forward := by
  have byZoom : (if o.idx < i.idx then
        (match dir with
          | .forward => if zc < s.downOf i then Direction.back else .forward
          | .back => if s.upOf i ≤ zc then .forward else .back)
      else
        (match dir with
          | .forward => if s.upOf o ≤ zc then .back else .forward
          | .back => if zc < s.downOf o then .forward else .back)) =
      if (if o.idx < i.idx then
          (match dir with | .forward => decide (zc < s.downOf i) | .back => decide (zc < s.upOf i))
        else (match dir with | .forward => decide (s.upOf o ≤ zc) | .back => decide (s.downOf o ≤ zc))) = true
      then .back else .forward := by
    have swap : ∀ a b : Nat, (if a ≤ b then Direction.forward else .back) = if b < a then .back else .forward := fun a b => by
      by_cases h : a ≤ b
      · rw [if_pos h, if_neg (Nat.not_lt.mpr h)]
      · rw [if_neg h, if_pos (Nat.not_le.mp h)]
    have swap' : ∀ a b : Nat, (if b < a then Direction.forward else .back) = if a ≤ b then .back else .forward := fun a b => by
      by_cases h : a ≤ b
      · rw [if_neg (Nat.not_lt.mpr h), if_pos h]
      · rw [if_pos (Nat.not_le.mp h), if_neg h]
    cases dir <;> split <;> simp only [decide_eq_true_eq, swap, swap']
  unfold State.blendDirection State.turnsBack
  cases hv : s.zoom.view with
  | locked c =>
    by_cases hi : c = i
    · simp [hi]
    · by_cases ho : c = o
      · simp [ho]
      · simp only [View.locked.injEq, hi, ho, if_false]
        exact byZoom
  | normal =>
    simp only [reduceCtorEq, if_false]
    exact byZoom
  | compare a b split =>
    simp only [reduceCtorEq, if_false]
    exact byZoom

/-- The notice of a change of direction as written out (R69). -/
theorem directionNotice_eq (dir : Direction) (back : Bool) (o i : Cam) (frame : Word) :
    directionNotice dir (if back = true then .back else .forward) o i frame = match dir, back with
      | .forward, true => [.handoff .reverse (some o) (some i) frame]
      | .back, false => [.handoff .resume (some o) (some i) frame]
      | _, _ => [] := by
  cases dir <;> cases back <;> rfl

/-! The steps, by what each finds -/

variable {o i p : Cam} {started : Bool} {count k n : Nat} {dir : Direction}

/-- The entry into PREPARE, with what is asked for an incoming camera that is OFF (R64). -/
theorem State.enterPrepare_eq : s.enterPrepare x o i = ⟨.prepare o i 0 (decide ((s.port i).state ≠ .off)), none,
    s.zoom.view, .dropIncoming,
    .handoff .prepare (some o) (some i) x.frame :: (if (s.port i).state = .off then [.prepareNeeded i] else []),
    (if (s.port i).state = .off ∧ (s.port i).cal.any Cal.autoStart = true then some i else none), false⟩ := by
  have hbne : (s.camState i != .off) = decide ((s.port i).state ≠ .off) := by
    rw [State.camState, bne, beq_eq_decide, decide_not]
  rw [State.enterPrepare, State.needs_eq, hbne]

theorem State.steadyStep_settled (he : s.zoom.engine = .steady p) (ht : s.target p x.zc = p) :
    s.steadyStep x p = ⟨.steady p, none, s.zoom.view, .relax, [], none, false⟩ := by
  simp only [State.steadyStep, ht, if_true, State.stays, he]

theorem State.steadyStep_step (he : s.zoom.engine = .steady p) (ht : s.target p x.zc ≠ p)
    (hi : s.stepCamera p (s.target p x.zc) = some i) : s.steadyStep x p =
      if (s.port i).state.preparable then s.enterPrepare x p i
      else ⟨.steady p, none, s.zoom.view, .relax, [], none, false⟩ := by
  simp only [State.steadyStep, if_neg ht, hi, State.stays, he]
  rfl

theorem State.steadyStep_stuck (ht : s.target p x.zc ≠ p) (hi : s.stepCamera p (s.target p x.zc) = none) :
    s.steadyStep x p = s.waitForCut x p (s.target p x.zc) := by
  simp only [State.steadyStep, if_neg ht, hi]

/-- The wait for a cut, its first notice once (R63). -/
theorem State.waitForCut_waits {t : Cam} (h : s.canServe t = false) : s.waitForCut x p t =
    ⟨.steady p, some t, s.zoom.view, .relax,
      if s.zoom.pendingCut = some t then [] else (if (s.port t).state = .off then [.prepareNeeded t] else []),
      if s.zoom.pendingCut = some t then none
        else (if (s.port t).state = .off ∧ (s.port t).cal.any Cal.autoStart = true then some t else none), false⟩ := by
  rw [State.waitForCut, if_neg (by simp [h]), State.needs_eq]
  by_cases hp : s.zoom.pendingCut = some t <;> simp only [hp, if_true, if_false]

theorem State.prepareStep_settled (ht : s.target o x.zc = o) : s.prepareStep x o i count started = s.returnTo x o i := by
  simp only [State.prepareStep, ht, if_true]

theorem State.prepareStep_stuck (ht : s.target o x.zc ≠ o) (hi : s.stepCamera o (s.target o x.zc) = none) :
    s.prepareStep x o i count started = s.returnTo x o i := by
  simp only [State.prepareStep, if_neg ht, hi]

theorem State.prepareStep_same (ht : s.target o x.zc ≠ o) (hi : s.stepCamera o (s.target o x.zc) = some i) :
    s.prepareStep x o i count started = s.prepareOn x o i count started := by
  simp only [State.prepareStep, if_neg ht, hi, if_true]

theorem State.prepareStep_other {r : Cam} (ht : s.target o x.zc ≠ o) (hi : s.stepCamera o (s.target o x.zc) = some r)
    (hr : r ≠ i) : s.prepareStep x o i count started =
      if (s.port r).state.preparable then s.enterPrepare x o r else s.returnTo x o i := by
  simp only [State.prepareStep, if_neg ht, hi, if_neg hr]
  rfl

/-- The hand-off goes on with an incoming camera that streams (R67). -/
theorem State.prepareOn_streaming (h : s.streaming i = true) : s.prepareOn x o i count started =
    let isNew := x.fresh.get i = true
    let count' := if isNew then count + 1 else count
    let corr : CorrStep := if isNew then .smooth o i else .keep
    if s.zoom.settings.prepare ≤ count' then
      ⟨.blend o i 0 s.zoom.settings.blend .forward, none, s.zoom.view, corr,
        [.handoff .begin (some o) (some i) x.frame], none, false⟩
    else ⟨.prepare o i count' true, none, s.zoom.view, corr, [], none, false⟩ := by
  have hstarted : (started || s.camState i != .off) = true := by
    simp [State.camState, State.streaming_iff.mp h]
  simp only [State.prepareOn, h, hstarted, if_true]

theorem State.prepareOn_waiting (h : s.streaming i = false) : s.prepareOn x o i count started =
    ⟨.prepare o i count (started || decide ((s.port i).state ≠ .off)), none, s.zoom.view, .keep, [], none, false⟩ := by
  have hbne : (s.camState i != .off) = decide ((s.port i).state ≠ .off) := by
    rw [State.camState, bne, beq_eq_decide, decide_not]
  rw [State.prepareOn, if_neg (by simp [h]), hbne]

theorem State.blendStep_forward (h : s.turnsBack x.zc o i dir = false) : s.blendStep x o i k n dir =
    let turn := directionNotice dir .forward o i x.frame
    if n ≤ k + 1 then
      ⟨.steady i, none, s.zoom.view, .takeAndRelax, turn ++ [.handoff .complete (some o) (some i) x.frame], none, false⟩
    else ⟨.blend o i (k + 1) n .forward, none, s.zoom.view, .keep, turn, none, false⟩ := by
  simp only [State.blendStep, State.blendDirection_eq, h, Bool.false_eq_true, if_false]

theorem State.blendStep_back (h : s.turnsBack x.zc o i dir = true) : s.blendStep x o i k n dir =
    let turn := directionNotice dir .back o i x.frame
    if k ≤ 1 then
      ⟨.steady o, none, s.zoom.view, .relax, turn ++ [.handoff .returned (some i) (some o) x.frame], none, false⟩
    else ⟨.blend o i (k - 1) n .back, none, s.zoom.view, .keep, turn, none, false⟩ := by
  simp only [State.blendStep, State.blendDirection_eq, h, if_true, State.returnTo]

end Stage

/-- Settles O51: each engine state outside view COMPARE, its loss step first. -/
theorem handoffInBlendAndLoss : Obligations.HandoffInBlendAndLoss := by
  unfold Obligations.HandoffInBlendAndLoss
  intro s x hview up serves settles note chosen falls target eligible overlap way nearer steps stuck ready asks starts prepares
    returns
  have upTrue : ∀ {c}, up c → s.streaming c = true := State.streaming_iff.mpr
  have upFalse : ∀ {c}, ¬ up c → s.streaming c = false := State.streaming_false.mpr
  have hserves : ∀ {c}, s.canServe c = true ↔ serves c := State.canServe_iff
  have hchosen : ∀ {f}, chosen f → s.fallbackChoice x.zc = some f := fun ⟨hf, h⟩ =>
    State.fallbackChoice_of (hserves.mpr hf) (h.imp (fun h => ⟨h.1, fun d hd hs => h.2 d hd (hserves.mp hs)⟩)
      fun h => ⟨fun d hs => h.1 d (hserves.mp hs), fun d hd hs => h.2 d hd (hserves.mp hs)⟩)
  have hnone : (∀ c, ¬ serves c) → s.fallbackChoice x.zc = none := fun h =>
    State.fallbackChoice_none fun c hs => h c (hserves.mp hs)
  have hfalls : ∀ {lost}, s.handoff x = s.fallback x (some lost) → falls lost := fun h =>
    ⟨fun f hf => h.trans (State.fallback_of (hchosen hf)), fun hno => h.trans (State.fallback_none (hnone hno))⟩
  have htarget : ∀ p, s.target p x.zc = target p := fun p => s.target_eq p x.zc
  have heligible : ∀ {c}, s.eligible c = true ↔ eligible c := Port.eligible_iff
  have hoverlap : ∀ {c d}, s.overlap c d = true ↔ overlap c d := State.overlap_iff
  have hsteps : ∀ {p i}, steps p i → s.target p x.zc ≠ p ∧ s.stepCamera p (s.target p x.zc) = some i := by
    intro p i h
    rw [htarget]
    refine ⟨h.1, State.stepCamera_of ?_⟩
    simp only [hoverlap, heligible]
    exact h.2
  have hstuck : ∀ {p}, stuck p → s.target p x.zc ≠ p ∧ s.stepCamera p (s.target p x.zc) = none := by
    intro p h
    rw [htarget]
    refine ⟨h.1, State.stepCamera_none (mt hoverlap.mp h.2.1) ?_⟩
    simp only [hoverlap, heligible]
    exact h.2.2
  have hready : ∀ {c}, (s.port c).state.preparable = true ↔ ready c := CamState.preparable_iff
  refine ⟨?steady, ?prepare, ?blend, ?frozen, ?stopped⟩
  case steady =>
    intro p he
    have lost {v} := State.handoff_lost (s := s) (x := x) (v := v) hview (by simp [he]) (by simp [he])
    have kept := State.handoff_kept (s := s) (x := x) hview (by simp [he]) (by simp [he])
    have hloss : s.lossStep x = if s.streaming p then none else some (s.fallback x (some p)) := by
      simp only [State.lossStep, he]
    have hstate : s.stateStep x = s.steadyStep x p := by simp only [State.stateStep, he]
    refine ⟨fun hu => hfalls (lost (by simp [hloss, upFalse hu])), fun hu => ?_, fun hu i hi => ?_, fun hu hst => ?_⟩
    all_goals have hrun := (kept (by simp [hloss, upTrue hu])).trans hstate
    · exact fun ht => hrun.trans (State.steadyStep_settled he ((htarget p).trans ht))
    · obtain ⟨hne, hstep⟩ := hsteps hi
      rw [State.steadyStep_step he hne hstep] at hrun
      refine ⟨fun hr => hrun.trans ?_, fun hr => hrun.trans (if_neg (mt hready.mp hr))⟩
      exact (if_pos (hready.mpr hr)).trans State.enterPrepare_eq
    · obtain ⟨hne, hstep⟩ := hstuck hst
      rw [State.steadyStep_stuck hne hstep, htarget] at hrun
      refine ⟨fun hs => hrun.trans ?_, fun hs => hrun.trans ?_⟩
      · exact if_pos (hserves.mpr hs)
      · exact State.waitForCut_waits (State.canServe_false.mpr hs)
  case prepare =>
    intro o i count started he
    have lost {v} := State.handoff_lost (s := s) (x := x) (v := v) hview (by simp [he]) (by simp [he])
    have kept := State.handoff_kept (s := s) (x := x) hview (by simp [he]) (by simp [he])
    have hloss : s.lossStep x = if !s.streaming o then
          some (if s.canServe i then s.cutTo x o i .take else s.fallback x (some o))
        else if s.incomingLost i started then some (s.returnTo x o i) else none := by
      simp only [State.lossStep, he]
    have hstate : s.stateStep x = s.prepareStep x o i count started := by simp only [State.stateStep, he]
    intro gone isNew count' corr
    have hgone : s.incomingLost i started = true ↔ gone := State.incomingLost_iff
    refine ⟨fun hu hs => lost ?_, fun hu hs => hfalls (lost ?_), fun hu hl => lost ?_, fun hu hl => ?_, fun hu hl r hne hr => ?_,
      fun hu hl hst => ?_⟩
    · rw [hloss, if_pos (by simp [upFalse hu]), if_pos (hserves.mpr hs)]
      rfl
    · rw [hloss, if_pos (by simp [upFalse hu]), if_neg (mt hserves.mp hs)]
    · rw [hloss, if_neg (by simp [upTrue hu]), if_pos (hgone.mpr hl)]
      rfl
    all_goals
      have hnoloss : s.lossStep x = none := by
        rw [hloss, if_neg (by simp [upTrue hu]), if_neg (mt hgone.mp hl)]
      have hrun := (kept hnoloss).trans hstate
    · rintro (ht | hst)
      · exact hrun.trans (State.prepareStep_settled ((htarget o).trans ht))
      · obtain ⟨hne, hstep⟩ := hstuck hst
        exact hrun.trans (State.prepareStep_stuck hne hstep)
    · obtain ⟨ht, hstep⟩ := hsteps hr
      rw [State.prepareStep_other ht hstep hne] at hrun
      exact ⟨fun hr => hrun.trans ((if_pos (hready.mpr hr)).trans State.enterPrepare_eq),
        fun hr => hrun.trans (if_neg (mt hready.mp hr))⟩
    · obtain ⟨ht, hstep⟩ := hsteps hst
      rw [State.prepareStep_same ht hstep] at hrun
      refine ⟨fun hi => hrun.trans (State.prepareOn_waiting (upFalse hi)), fun hi hc => hrun.trans ?_,
        fun hi hc => hrun.trans ?_⟩
      · exact (State.prepareOn_streaming (upTrue hi)).trans (if_neg (Nat.not_le.mpr hc))
      · exact (State.prepareOn_streaming (upTrue hi)).trans (if_pos hc)
  case blend =>
    intro o i k n dir he
    have lost {v} := State.handoff_lost (s := s) (x := x) (v := v) hview (by simp [he]) (by simp [he])
    have kept := State.handoff_kept (s := s) (x := x) hview (by simp [he]) (by simp [he])
    have hstate : s.stateStep x = s.blendStep x o i k n dir := by simp only [State.stateStep, he]
    intro back turn
    have hback : s.turnsBack x.zc o i dir = back := rfl
    refine ⟨fun ho hi => lost ?_, fun ho hi => lost ?_, fun ho hi => hfalls (lost ?_), fun ho hi => ?_⟩
    · simp only [State.lossStep, he, upFalse ho, upTrue hi]
      rfl
    · simp only [State.lossStep, he, upTrue ho, upFalse hi]
      rfl
    · simp only [State.lossStep, he, upFalse ho, upFalse hi]
    · have hrun := (kept (by simp only [State.lossStep, he, upTrue ho, upTrue hi])).trans hstate
      have hturn : ∀ b, back = b → directionNotice dir (if b = true then .back else .forward) o i x.frame = turn := by
        intro b hb
        rw [← hb]
        exact directionNotice_eq dir back o i x.frame
      refine ⟨fun hb hn => hrun.trans ?_, fun hb hn => hrun.trans ?_, fun hb hk => hrun.trans ?_, fun hb hk => hrun.trans ?_⟩
      · rw [State.blendStep_forward (hback.trans hb), ← hturn _ hb]
        exact if_pos hn
      · rw [State.blendStep_forward (hback.trans hb), ← hturn _ hb]
        exact if_neg (Nat.not_le.mpr hn)
      · rw [State.blendStep_back (hback.trans hb), ← hturn _ hb]
        exact if_neg (Nat.not_le.mpr hk)
      · rw [State.blendStep_back (hback.trans hb), ← hturn _ hb]
        exact if_pos hk
  case frozen =>
    intro he
    have hrun : s.handoff x = s.frozenStep x :=
      (State.handoff_kept hview (by simp [he]) (by simp [he]) (by simp only [State.lossStep, he])).trans
        (by simp only [State.stateStep, he])
    refine ⟨fun f hf => hrun.trans ?_, fun hno => hrun.trans ?_⟩
    · simp only [State.frozenStep, hchosen hf]
      rfl
    · simp only [State.frozenStep, hnone hno]
  case stopped =>
    intro he
    have hrun : s.handoff x = s.firstStep x := State.handoff_stopped hview he
    refine ⟨fun f hf hs => hrun.trans ?_, fun hno => ?_⟩
    · simp only [State.firstStep, hf, hserves.mpr hs, if_true]
    · have hfirst : s.firstStep x = { s.fallback x none with corr := .identity } := by
        unfold State.firstStep
        split
        next f hf => exact if_neg (mt hserves.mp (hno f hf))
        next => rfl
      rw [hfirst] at hrun
      refine ⟨fun f hf => hrun.trans ?_, fun hnone' => hrun.trans ?_⟩
      · rw [State.fallback_of (hchosen hf)]
      · rw [State.fallback_none (hnone hnone')]

end Sys2Proof.Machine
end

section
/-!
PROOF. SET_HANDOFF and SET_VIEW, and the view step of the hand-off engine (chapter 04, sections 4.8 and 4.11).
-/

namespace Sys2Proof.Machine

/-! ### SET_HANDOFF (R82) -/

section SetHandoff

variable {s : State} {tag : Byte} {b : HandoffBody}

theorem exec_setHandoff (ha : s.canAccept) (hm : s.mode ≠ .booting) (tag : Byte) (b : HandoffBody) :
    exec (.setHandoff tag b) s = .next (s.taken.takeHandoff tag b) :=
  congrArg Host.Outcome.next (State.acceptLive_ok ha hm 0x07 tag _)

theorem marginsOk_iff : marginsOk b = true ↔ b.up.toNat ≤ 256 ∧ b.down.toNat < b.up.toNat := decide_eq_true_iff

/-- The values SET_HANDOFF stores (R82, steps 3 to 5). -/
theorem handoffTaken_eq (b : HandoffBody) : handoffTaken b = ⟨b.up.toNat, b.down.toNat, max 1 (min 32 b.blend.toNat),
    max 1 (min 16 b.prepare.toNat), min 100000 b.latency.toNat⟩ := by
  rw [handoffTaken, clampNat_eq (by decide), clampNat_eq (by decide)]

theorem handoffClamped_eq (b : HandoffBody) : flagByte (handoffClamped b) =
    if max 1 (min 32 b.blend.toNat) = b.blend.toNat ∧ max 1 (min 16 b.prepare.toNat) = b.prepare.toNat ∧
      min 100000 b.latency.toNat = b.latency.toNat then 0 else 1 := by
  rw [handoffClamped, handoffTaken_eq]
  by_cases h1 : max 1 (min 32 b.blend.toNat) = b.blend.toNat
  · by_cases h2 : max 1 (min 16 b.prepare.toNat) = b.prepare.toNat
    · by_cases h3 : min 100000 b.latency.toNat = b.latency.toNat <;> simp [h1, h2, h3, flagByte]
    · simp [h2, flagByte]
  · simp [h1, flagByte]

/-- The values as the reply carries them. -/
theorem handoffTaken_bytes (b : HandoffBody) : (handoffTaken b).bytes = bytes16 b.up ++
    [b.down, BitVec.ofNat 8 (max 1 (min 32 b.blend.toNat)), BitVec.ofNat 8 (max 1 (min 16 b.prepare.toNat))]
    ++ bytes32 (BitVec.ofNat 32 (min 100000 b.latency.toNat)) := by
  have hup : num16 b.up.toNat = bytes16 b.up := by rw [num16, BitVec.ofNat_toNat, BitVec.setWidth_eq]
  have hdown : byteOf b.down.toNat = b.down := by rw [byteOf, BitVec.ofNat_toNat, BitVec.setWidth_eq]
  rw [handoffTaken_eq, HandoffSettings.bytes, hup, hdown]
  rfl

end SetHandoff

/-! ### SET_VIEW (R76) -/

section SetView

variable {s : State} {tag mode first second : Byte} {split : Half} {a b : Cam}

theorem exec_setView (ha : s.canAccept) (hm : s.mode = .run) (tag mode first second : Byte) (split : Half) :
    exec (.setView tag mode first second split) s = .next (match s.viewOf mode first second split.toNat with
      | some v => ({ s with zoom := { s.zoom with view := v } }).answered 0x13 tag .ok
      | none => s.answered 0x13 tag .badField) := by
  refine congrArg Host.Outcome.next ((State.acceptIn_ok ha hm 0x13 tag _).trans ?_)
  rw [show s.taken.viewOf mode first second split.toNat = s.viewOf mode first second split.toNat from rfl]
  cases s.viewOf mode first second split.toNat <;> rfl

theorem State.viewOf_other {n : Nat} (h : 2 < mode.toNat) : s.viewOf mode first second n = none := by
  unfold State.viewOf
  split
  any_goals omega
  rfl

theorem State.viewOf_locked (n : Nat) : s.viewOf 1 first second n = (s.eligibleOf first).map View.locked := rfl

theorem State.viewOf_compare (n : Nat) : s.viewOf 2 first second n = match s.eligibleOf first, s.eligibleOf second with
    | some a, some b => if a ≠ b ∧ s.splitOk n ∧ s.overlap a b then some (.compare a b n) else none
    | _, _ => none := rfl

theorem State.eligibleOf_absent {x : Byte} (h : 3 < x.toNat) : s.eligibleOf x = none := by
  rw [State.eligibleOf, camOf_of_gt h]
  rfl

theorem State.eligibleOf_idx {x : Byte} (h : x.toNat = a.idx) : s.eligibleOf x = if s.eligible a = true then some a else none := by
  rw [State.eligibleOf, camOf_of_idx h, Option.filter_some]

end SetView

/-! ### The view step (R78, R79) -/

section ViewStep

variable {s : State} {x : HandoffIn} {a b c d : Cam} {split n : Nat}

/-- The state with another view mode. -/
def State.viewed (s : State) (v : View) : State := { s with zoom := { s.zoom with view := v } }

/-- The engine is in COMPARE with the pair that the view names. -/
def State.comparesNow (s : State) (a b : Cam) : Prop := ∃ n, s.zoom.engine = .compare a b n

/-- The view COMPARE stays while the engine is in COMPARE with its pair or the ranges of eligible cameras overlap (R78). -/
theorem State.viewNow_kept (hv : s.zoom.view = .compare a b split)
    (h : s.comparesNow a b ∨ (s.eligible a = true → s.eligible b = true → s.overlap a b = true)) :
    s.viewNow = .compare a b split := by
  unfold State.viewNow
  rw [hv]
  dsimp only
  rw [if_neg]
  rcases h with ⟨n, hn⟩ | h
  · simp [hn]
  · intro hand
    simp only [Bool.and_eq_true, Bool.not_eq_true'] at hand
    obtain ⟨⟨⟨-, ha⟩, hb⟩, ho⟩ := hand
    exact absurd (ho.symm.trans (h ha hb)) (by decide)

theorem State.viewNow_lost (hv : s.zoom.view = .compare a b split) (h : ¬ s.comparesNow a b) (ha : s.eligible a = true)
    (hb : s.eligible b = true) (ho : s.overlap a b = false) : s.viewNow = .normal := by
  unfold State.viewNow
  rw [hv]
  dsimp only
  refine if_pos ?_
  cases he : s.zoom.engine with
  | compare a' b' n =>
    have hne : ¬ (a = a' ∧ b = b') := fun ⟨h1, h2⟩ => h ⟨n, by rw [he, h1, h2]⟩
    have hthere : (a == a' && b == b') = false := by simpa using hne
    simp [ha, hb, ho, hthere]
  | _ => simp [ha, hb, ho]

/-- The view mode stays COMPARE: the engine, where it is in COMPARE, takes the split row of the view (R79). -/
theorem State.withViewNow_compare (hn : s.viewNow = .compare a b split) (he : s.zoom.engine = .compare c d n) :
    s.withViewNow = { s with zoom := { s.zoom with view := .compare a b split, engine := .compare c d split } } := by
  simp only [State.withViewNow, hn, he]

theorem State.withViewNow_kept (hv : s.zoom.view = .compare a b split) (hn : s.viewNow = .compare a b split)
    (he : ∀ c d n, s.zoom.engine ≠ .compare c d n) : s.withViewNow = s := by
  unfold State.withViewNow
  rw [hn]
  dsimp only
  split
  next he' => exact absurd he' (he _ _ _)
  next =>
    rw [← hv]

/-- The view mode is NORMAL again: the stage goes on as under NORMAL (R78; entry 20). -/
theorem State.handoff_lostView (hn : s.viewNow = .normal) : s.handoff x = (s.viewed .normal).handoff x := by
  have hleft : s.withViewNow = s.viewed .normal := by
    unfold State.withViewNow
    rw [hn]
    rfl
  have hright : (s.viewed .normal).withViewNow = s.viewed .normal :=
    State.withViewNow_plain fun a b split h => by simp [State.viewed] at h
  unfold State.handoff
  rw [hleft, hright]
  rfl

/-- With another view the engine leaves COMPARE (R79). -/
theorem State.handoff_leaves (hv : ∀ a b split, s.zoom.view ≠ .compare a b split) (he : s.zoom.engine = .compare c d n) :
    s.handoff x = s.leaveCompare x c := by
  have hview : s.viewStep x = some (s.leaveCompare x c) := by
    unfold State.viewStep
    split
    next a b split _ _ _ hview _ => exact absurd hview (hv a b split)
    next a b split hview _ => exact absurd hview (hv a b split)
    next he' _ => cases he.symm.trans he'; rfl
    next hno _ => exact absurd he (hno _ _ _)
  unfold State.handoff
  rw [State.withViewNow_plain hv]
  split
  next hstopped => simp [he] at hstopped
  next =>
    dsimp only
    rw [hview]

/-- COMPARE is entered when both cameras of the view serve and their ranges overlap (R78). -/
theorem State.viewStep_enters {t : State} (hv : t.zoom.view = .compare a b split) (h : ¬ t.comparesNow a b)
    (hs : (t.canServe a && t.canServe b && t.overlap a b) = true) : t.viewStep x = some (t.enterCompare x a b split) := by
  unfold State.viewStep
  rw [hv]
  cases he : t.zoom.engine with
  | compare a' b' m =>
    have hne : ¬ (a = a' ∧ b = b') := fun ⟨h1, h2⟩ => h ⟨m, by rw [he, h1, h2]⟩
    dsimp only
    rw [if_neg hne, if_pos hs]
  | _ =>
    dsimp only
    rw [if_pos hs]

/-- No transition: the engine is there already, or the cameras do not both serve with overlapping ranges. -/
theorem State.viewStep_none {t : State} (hv : t.zoom.view = .compare a b split)
    (h : t.comparesNow a b ∨ (t.canServe a && t.canServe b && t.overlap a b) = false) : t.viewStep x = none := by
  unfold State.viewStep
  rw [hv]
  rcases h with ⟨m, hm⟩ | h
  · rw [hm]
    simp
  · cases t.zoom.engine <;> simp [h]

/-- In COMPARE the engine stays while both cameras stream; one lost is a CUT to the other, both a FALLBACK (Table 17). -/
theorem State.handoff_compares (hv : s.zoom.view = .compare a b split) (he : s.zoom.engine = .compare c d n)
    (h : (c = a ∧ d = b) ∨ (¬ s.comparesNow a b ∧ (s.canServe a && s.canServe b && s.overlap a b) = false ∧
      (s.eligible a = true → s.eligible b = true → s.overlap a b = true))) :
    s.handoff x = match s.streaming c, s.streaming d with
      | true, true => ⟨.compare c d split, s.zoom.pendingCut, .compare a b split, .identity, [], none, false⟩
      | false, true => s.cutTo x c d .identity
      | true, false => s.cutTo x d c .identity
      | false, false => s.fallback x (some c) := by
  have hnow : s.viewNow = .compare a b split := by
    refine State.viewNow_kept hv ?_
    rcases h with ⟨rfl, rfl⟩ | ⟨-, -, ho⟩
    · exact .inl ⟨n, he⟩
    · exact .inr ho
  let t : State := { s with zoom := { s.zoom with view := .compare a b split, engine := .compare c d split } }
  have hnone : t.viewStep x = none := by
    refine State.viewStep_none (t := t) rfl ?_
    rcases h with ⟨rfl, rfl⟩ | ⟨-, hs, -⟩
    · exact .inl ⟨split, rfl⟩
    · exact .inr hs
  have hrun : s.handoff x = (t.lossStep x).getD (t.stateStep x) := by
    unfold State.handoff
    rw [State.withViewNow_compare hnow he]
    simp only [he]
    rw [show ({ s with zoom := { s.zoom with view := .compare a b split, engine := .compare c d split } } : State) = t from rfl,
      hnone]
    cases t.lossStep x <;> rfl
  have hloss : t.lossStep x = match s.streaming c, s.streaming d with
      | true, true => none
      | false, true => some (t.cutTo x c d .identity)
      | true, false => some (t.cutTo x d c .identity)
      | false, false => some (t.fallback x (some c)) := rfl
  have hcut : ∀ from' to', t.cutTo x from' to' .identity = s.cutTo x from' to' .identity := fun from' to' => by
    rw [State.cutTo, State.cutTo, hv]
  have hfallback : t.fallback x (some c) = s.fallback x (some c) := by
    rw [State.fallback, State.fallback, hv]
    rfl
  rw [hrun, hloss, hcut, hcut, hfallback]
  cases s.streaming c <;> cases s.streaming d <;> rfl

/-- A verdict with another view mode. -/
def Verdict.viewed (v : Verdict) (view : View) : Verdict := { v with view := view }

/-- The two view modes that lock no camera are alike to the loss and state steps (R78). -/
theorem State.freshChoice_viewed (hv : s.zoom.view = .compare a b split) (z : Nat) :
    (s.viewed .normal).freshChoice z = s.freshChoice z := by
  unfold State.freshChoice
  rw [hv]
  rfl

theorem State.target_viewed (hv : s.zoom.view = .compare a b split) (p : Cam) (z : Nat) :
    (s.viewed .normal).target p z = s.target p z := by
  unfold State.target
  rw [State.freshChoice_viewed hv, hv]
  rfl

theorem State.blendDirection_viewed (hv : s.zoom.view = .compare a b split) (z : Nat) (o i : Cam) (dir : Direction) :
    (s.viewed .normal).blendDirection z o i dir = s.blendDirection z o i dir := by
  unfold State.blendDirection
  rw [hv]
  rfl

/-! The steps under another view mode: what they read of it aside, they are alike. -/

section Viewed

variable (s x) (v : View) (o i p : Cam) (count k : Nat) (started : Bool) (dir : Direction) (corr : CorrStep)

@[simp] theorem State.viewed_engine : (s.viewed v).zoom.engine = s.zoom.engine := rfl
@[simp] theorem State.viewed_streaming : (s.viewed v).streaming p = s.streaming p := rfl
@[simp] theorem State.viewed_canServe : (s.viewed v).canServe p = s.canServe p := rfl
@[simp] theorem State.viewed_camState : (s.viewed v).camState p = s.camState p := rfl
@[simp] theorem State.viewed_incomingLost : (s.viewed v).incomingLost i started = s.incomingLost i started := rfl
@[simp] theorem State.viewed_stepCamera : (s.viewed v).stepCamera o i = s.stepCamera o i := rfl
@[simp] theorem State.viewed_fallbackChoice (z : Nat) : (s.viewed v).fallbackChoice z = s.fallbackChoice z := rfl
@[simp] theorem State.viewed_stays : ((s.viewed v).stays corr).viewed s.zoom.view = s.stays corr := rfl
@[simp] theorem State.viewed_cutTo : ((s.viewed v).cutTo x o i corr).viewed s.zoom.view = s.cutTo x o i corr := rfl
@[simp] theorem State.viewed_returnTo : ((s.viewed v).returnTo x o i).viewed s.zoom.view = s.returnTo x o i := rfl
@[simp] theorem State.viewed_enterPrepare : ((s.viewed v).enterPrepare x o i).viewed s.zoom.view = s.enterPrepare x o i := rfl

@[simp] theorem State.viewed_fallback (lost : Option Cam) :
    ((s.viewed v).fallback x lost).viewed s.zoom.view = s.fallback x lost := by
  simp only [State.fallback, State.viewed_fallbackChoice]
  cases s.fallbackChoice x.zc <;> rfl

@[simp] theorem State.viewed_frozenStep : ((s.viewed v).frozenStep x).viewed s.zoom.view = s.frozenStep x := by
  simp only [State.frozenStep, State.viewed_fallbackChoice]
  cases s.fallbackChoice x.zc <;> rfl

@[simp] theorem State.viewed_waitForCut : ((s.viewed v).waitForCut x o i).viewed s.zoom.view = s.waitForCut x o i := by
  by_cases h : s.canServe i = true
  · simp [State.waitForCut, h]
  · unfold State.waitForCut
    rw [if_neg (c := (s.viewed v).canServe i = true) h, if_neg h]
    rfl

@[simp] theorem State.viewed_prepareOn :
    ((s.viewed v).prepareOn x o i count started).viewed s.zoom.view = s.prepareOn x o i count started := by
  unfold State.prepareOn
  by_cases h : s.streaming i = true
  · rw [if_pos (c := (s.viewed v).streaming i = true) h, if_pos h]
    dsimp only
    rw [show (s.viewed v).zoom.settings = s.zoom.settings from rfl]
    by_cases hp : s.zoom.settings.prepare ≤ (if x.fresh.get i = true then count + 1 else count)
    · rw [if_pos hp, if_pos hp]
      rfl
    · rw [if_neg hp, if_neg hp]
      rfl
  · rw [if_neg (c := (s.viewed v).streaming i = true) h, if_neg h]
    rfl

theorem State.viewed_lossStep : ((s.viewed v).lossStep x).map (·.viewed s.zoom.view) = s.lossStep x := by
  cases he : s.zoom.engine with
  | steady p => by_cases h : s.streaming p = true <;> simp [State.lossStep, he, h]
  | prepare o i count started =>
    by_cases ho : s.streaming o = true
    · by_cases hl : s.incomingLost i started = true <;> simp [State.lossStep, he, ho, hl]
    · by_cases hi : s.canServe i = true <;> simp [State.lossStep, he, ho, hi]
  | blend o i k n dir =>
    cases ho : s.streaming o <;> cases hi : s.streaming i <;> simp [State.lossStep, he, ho, hi]
  | compare a b split =>
    cases ha : s.streaming a <;> cases hb : s.streaming b <;> simp [State.lossStep, he, ha, hb]
  | frozen => simp [State.lossStep, he]
  | stopped => simp [State.lossStep, he]

end Viewed

theorem State.viewed_steadyStep (hv : s.zoom.view = .compare a b split) (p : Cam) :
    ((s.viewed .normal).steadyStep x p).viewed s.zoom.view = s.steadyStep x p := by
  by_cases ht : s.target p x.zc = p
  · simp only [State.steadyStep, State.target_viewed hv, if_pos ht]
    rfl
  · simp only [State.steadyStep, State.target_viewed hv, if_neg ht, State.viewed_stepCamera]
    cases s.stepCamera p (s.target p x.zc) with
    | none => exact State.viewed_waitForCut ..
    | some i =>
      by_cases hi : (s.camState i).preparable = true
      · simp [hi]
      · dsimp only
        rw [if_neg (c := ((s.viewed .normal).camState i).preparable = true) hi, if_neg hi]
        rfl

theorem State.viewed_prepareStep (hv : s.zoom.view = .compare a b split) (o i : Cam) (count : Nat) (started : Bool) :
    ((s.viewed .normal).prepareStep x o i count started).viewed s.zoom.view = s.prepareStep x o i count started := by
  by_cases ht : s.target o x.zc = o
  · simp [State.prepareStep, State.target_viewed hv, ht]
  · simp only [State.prepareStep, State.target_viewed hv, if_neg ht, State.viewed_stepCamera]
    cases s.stepCamera o (s.target o x.zc) with
    | none => simp
    | some r =>
      by_cases hr : r = i
      · simp [hr]
      · by_cases hp : (s.camState r).preparable = true <;> simp [hr, hp]

theorem State.viewed_blendStep (hv : s.zoom.view = .compare a b split) (o i : Cam) (k n : Nat) (dir : Direction) :
    ((s.viewed .normal).blendStep x o i k n dir).viewed s.zoom.view = s.blendStep x o i k n dir := by
  simp only [State.blendStep, State.blendDirection_viewed hv]
  cases s.blendDirection x.zc o i dir with
  | forward => by_cases hn : n ≤ k + 1 <;> simp only [hn, if_true, if_false] <;> rfl
  | back => by_cases hk : k ≤ 1 <;> simp only [hk, if_true, if_false] <;> rfl

theorem State.viewed_stateStep (hv : s.zoom.view = .compare a b split) :
    ((s.viewed .normal).stateStep x).viewed s.zoom.view = s.stateStep x := by
  cases he : s.zoom.engine with
  | steady p => simpa only [State.stateStep, State.viewed_engine, he] using State.viewed_steadyStep hv p
  | prepare o i count started =>
    simpa only [State.stateStep, State.viewed_engine, he] using State.viewed_prepareStep hv o i count started
  | blend o i k n dir => simpa only [State.stateStep, State.viewed_engine, he] using State.viewed_blendStep hv o i k n dir
  | frozen => simp [State.stateStep, he]
  | compare a b split => simp [State.stateStep, he]
  | stopped => simp [State.stateStep, he]

/-- Until both cameras of the view serve, the loss and state steps act as under NORMAL (R78). -/
theorem State.handoff_waits (hv : s.zoom.view = .compare a b split) (hs : s.zoom.engine ≠ .stopped)
    (he : ∀ c d n, s.zoom.engine ≠ .compare c d n) (hw : (s.canServe a && s.canServe b && s.overlap a b) = false)
    (ho : s.eligible a = true → s.eligible b = true → s.overlap a b = true) :
    s.handoff x = ((s.viewed .normal).handoff x).viewed s.zoom.view := by
  have hplain := State.handoff_plain (s := s.viewed .normal) (x := x) (fun a b split h => by simp [State.viewed] at h) hs he
  have hnow := State.withViewNow_kept hv (State.viewNow_kept hv (.inr ho)) he
  have hnone := State.viewStep_none (x := x) hv (.inr hw)
  have hrun : s.handoff x = (s.lossStep x).getD (s.stateStep x) := by
    unfold State.handoff
    rw [hnow]
    split
    next hstopped => exact absurd hstopped hs
    next =>
      dsimp only
      rw [hnone]
      cases s.lossStep x <;> rfl
  rw [hplain, hrun, ← State.viewed_lossStep s x .normal, ← State.viewed_stateStep hv]
  cases (s.viewed .normal).lossStep x <;> rfl

/-- COMPARE is entered (R78). -/
theorem State.handoff_enters (hv : s.zoom.view = .compare a b split) (hs : s.zoom.engine ≠ .stopped)
    (h : ¬ s.comparesNow a b) (hsv : (s.canServe a && s.canServe b && s.overlap a b) = true) :
    s.handoff x = s.enterCompare x a b split := by
  have hover : s.overlap a b = true := (Bool.and_eq_true_iff.1 hsv).2
  have hnow : s.viewNow = .compare a b split := State.viewNow_kept hv (.inr fun _ _ => hover)
  by_cases he : ∃ c d n, s.zoom.engine = .compare c d n
  · obtain ⟨c, d, n, he⟩ := he
    let t : State := { s with zoom := { s.zoom with view := .compare a b split, engine := .compare c d split } }
    have hno : ¬ t.comparesNow a b := fun ⟨m, hm⟩ => by
      obtain ⟨rfl, rfl, -⟩ : c = a ∧ d = b ∧ split = m := by simpa [t] using hm
      exact h ⟨n, he⟩
    have hview : t.viewStep x = some (t.enterCompare x a b split) := State.viewStep_enters rfl hno hsv
    unfold State.handoff
    rw [State.withViewNow_compare hnow he]
    simp only [he]
    rw [show ({ s with zoom := { s.zoom with view := .compare a b split, engine := .compare c d split } } : State) = t from rfl,
      hview]
    rw [State.enterCompare, State.enterCompare, hv]
    rfl
  · have hkept := State.withViewNow_kept hv hnow fun c d n hn => he ⟨c, d, n, hn⟩
    unfold State.handoff
    rw [hkept]
    split
    next hstopped => exact absurd hstopped hs
    next =>
      dsimp only
      rw [State.viewStep_enters hv h hsv]

end ViewStep

/-- Settles O48: the settings stored, the view mode taken or refused, and the view step case by case. -/
theorem setHandoffAndView : Obligations.SetHandoffAndView := by
  unfold Obligations.SetHandoffAndView
  refine ⟨?settings, ?view, ?step⟩
  case settings =>
    intro s tag b ha hm blend prepare latency
    rw [exec_setHandoff ha hm]
    refine ⟨fun h => ?_, fun hu hd => ?_⟩
    · have hbad : ¬ marginsOk b = true := fun hok => by
        have := marginsOk_iff.mp hok
        omega
      rw [State.takeHandoff, if_neg hbad]
      rfl
    · rw [State.takeHandoff, if_pos (marginsOk_iff.mpr ⟨hu, hd⟩), handoffTaken_bytes, handoffClamped_eq, handoffTaken_eq]
      rfl
  case view =>
    intro s tag first second split o ha hm ho views refused
    have taken : ∀ {mode v}, s.viewOf mode first second split.toNat = some v → views mode v := fun {mode v} h =>
      (exec_setView ha hm tag mode first second split).trans (by rw [h])
    have bad : ∀ {mode}, s.viewOf mode first second split.toNat = none → refused mode := fun {mode} h =>
      (exec_setView ha hm tag mode first second split).trans (by rw [h])
    have hsplit : s.splitOk split.toNat = true ↔ split.toNat ≤ o.ho := by simp [State.splitOk, ho]
    refine ⟨taken rfl, fun mode h => bad (State.viewOf_other h), fun h => ⟨bad ?_, bad ?_⟩, fun h => bad ?_,
      fun a h => ⟨fun he => taken ?_, fun he => bad ?_⟩, fun a b h1 h2 => ?_⟩
    · rw [State.viewOf_locked, State.eligibleOf_absent h]
      rfl
    · rw [State.viewOf_compare, State.eligibleOf_absent h]
    · rw [State.viewOf_compare, State.eligibleOf_absent h]
      cases s.eligibleOf first <;> rfl
    · rw [State.viewOf_locked, State.eligibleOf_idx h, if_pos he]
      rfl
    · rw [State.viewOf_locked, State.eligibleOf_idx h, if_neg (by simp [he])]
      rfl
    · intro overlap ok
      have hov : s.overlap a b = true ↔ overlap := State.overlap_iff
      have hview : s.viewOf 2 first second split.toNat = if ok then some (.compare a b split.toNat) else none := by
        rw [State.viewOf_compare, State.eligibleOf_idx h1, State.eligibleOf_idx h2]
        by_cases ha' : s.eligible a = true
        · by_cases hb' : s.eligible b = true
          · rw [if_pos ha', if_pos hb']
            refine if_congr ?_ rfl rfl
            simp only [hsplit, hov, ok, ha', hb', true_and]
          · rw [if_pos ha', if_neg hb']
            exact (if_neg fun h => hb' h.2.1).symm
        · rw [if_neg ha']
          exact (if_neg fun h => ha' h.1).symm
      exact ⟨fun h => taken (hview.trans (if_pos h)), fun h => bad (hview.trans (if_neg h))⟩
  case step =>
    intro s x up serves settles chosen falls normal
    have upTrue : ∀ {c}, up c → s.streaming c = true := State.streaming_iff.mpr
    have upFalse : ∀ {c}, ¬ up c → s.streaming c = false := State.streaming_false.mpr
    have hserves : ∀ {c}, s.canServe c = true ↔ serves c := State.canServe_iff
    have hfalls : ∀ {lost}, s.handoff x = s.fallback x (some lost) → falls lost := fun h =>
      ⟨fun f ⟨hf, hz⟩ => h.trans (State.fallback_of (State.fallbackChoice_of (hserves.mpr hf)
          (hz.imp (fun h => ⟨h.1, fun d hd hs => h.2 d hd (hserves.mp hs)⟩)
            fun h => ⟨fun d hs => h.1 d (hserves.mp hs), fun d hd hs => h.2 d hd (hserves.mp hs)⟩))),
        fun hno => h.trans (State.fallback_none (State.fallbackChoice_none fun c hs => hno c (hserves.mp hs)))⟩
    refine ⟨fun a b split hv hs => ?compare, fun c d n hv he => ⟨fun hu => ?_, fun hu => hfalls ?_⟩⟩
    case compare =>
      intro overlap there waits
      have hover : s.overlap a b = true ↔ overlap := State.overlap_iff
      have hwaits : waits → (s.canServe a && s.canServe b && s.overlap a b) = false ∧
          (s.eligible a = true → s.eligible b = true → s.overlap a b = true) := fun ⟨hn, ho⟩ => by
        refine ⟨Bool.eq_false_iff.mpr fun h => hn ?_, fun h1 h2 => hover.mpr (ho h1 h2)⟩
        obtain ⟨hab, -⟩ := Bool.and_eq_true_iff.mp h
        obtain ⟨h1, h2⟩ := Bool.and_eq_true_iff.mp hab
        exact ⟨hserves.mp h1, hserves.mp h2⟩
      refine ⟨fun ht h1 h2 ho => ?_, fun ht h1 h2 ho => ?_, fun ht hw he => ?_, fun c d n he h => ?_⟩
      · refine (State.handoff_enters hv hs ht ?_).trans rfl
        rw [hserves.mpr h1, hserves.mpr h2, hover.mpr ho]
        rfl
      · exact State.handoff_lostView (State.viewNow_lost hv ht h1 h2 (Bool.eq_false_iff.mpr (mt hover.mp ho)))
      · rw [State.handoff_waits hv hs he (hwaits hw).1 (hwaits hw).2, hv]
        rfl
      · have hrun := State.handoff_compares (x := x) hv he (h.imp id fun ⟨ht, hw⟩ => ⟨ht, hwaits hw⟩)
        refine ⟨fun hc hd => ?_, fun hc hd => ?_, fun hc hd => ?_, fun hc hd => hfalls ?_⟩
        · rw [upTrue hc, upTrue hd] at hrun
          exact hrun.trans (by rw [hv])
        · rw [upFalse hc, upTrue hd] at hrun
          exact hrun.trans rfl
        · rw [upTrue hc, upFalse hd] at hrun
          exact hrun.trans rfl
        · rw [upFalse hc, upFalse hd] at hrun
          exact hrun
    · exact (State.handoff_leaves hv he).trans (if_pos (upTrue hu))
    · refine (State.handoff_leaves hv he).trans (if_neg ?_)
      rw [upFalse hu]
      exact Bool.false_ne_true

end Sys2Proof.Machine
end

section
/-!
PROOF. A boundary that begins a frame, stage by stage (R59): selection, the start a hand-off asks for, the composition written
out, and the raster with its pulses.
-/

namespace Sys2Proof.Machine

/-! ### The selection of a camera's frame (R121 to R123) -/

section Selection

/-- The first of two slots is the one chosen (R121): the one nearer to the target time, of equal ages the later one. -/
def goesFirst (early : Bool) (t : Word) (x y : Slot × Nat) : Bool :=
  if age x.1.start t = age y.1.start t then !laterSeq y.1.seq x.1.seq
  else if early then decide (age x.1.start t < age y.1.start t) else decide (age y.1.start t < age x.1.start t)

theorem betterOf_eq (early : Bool) (t : Word) (x y : Slot × Nat) :
    betterOf early t x y = if goesFirst early t x y = true then x else y := by
  unfold betterOf goesFirst
  dsimp only
  split
  · cases laterSeq y.1.seq x.1.seq <;> rfl
  · split
    · simp only [decide_eq_true_eq]
    · simp only [decide_eq_true_eq]

/-- The one slot that goes before all others of a list is its best. -/
theorem bestOf_unique {early : Bool} {t : Word} {l : List (Slot × Nat)} {a : Slot × Nat} (ha : a ∈ l)
    (h : ∀ b ∈ l, b ≠ a → goesFirst early t a b = true ∧ goesFirst early t b a = false) : bestOf early t l = some a := by
  refine picked_unique (r := goesFirst early t) (pick := bestOf early t) rfl (fun x rest => ?_) ha h
  rw [bestOf]
  cases bestOf early t rest with
  | none => rfl
  | some y => exact congrArg some (betterOf_eq early t x y) |>.trans (apply_ite some _ _ _)

/-- The later of two sequence numbers that lie less than 2^31 apart (R119). -/
theorem laterSeq_of {a b : Word} (h0 : 0 < (a - b).toNat) (h : (a - b).toNat < 2147483648) :
    laterSeq b a = false ∧ laterSeq a b = true := by
  have hab : 2147483648 ≤ (b - a).toNat := by bv_omega
  constructor
  · rw [laterSeq, Bool.not_eq_false']
    exact decide_eq_true h
  · rw [laterSeq, Bool.not_eq_true']
    exact decide_eq_false (Nat.not_lt.mpr hab)

variable {x y : Slot × Nat} {t : Word}

/-- Of two slots of the same age, the later one goes first. -/
theorem goesFirst_later {early : Bool} (he : age x.1.start t = age y.1.start t) (h0 : 0 < (x.1.seq - y.1.seq).toNat)
    (h : (x.1.seq - y.1.seq).toNat < 2147483648) : goesFirst early t x y = true ∧ goesFirst early t y x = false := by
  obtain ⟨h1, h2⟩ := laterSeq_of h0 h
  rw [goesFirst, if_pos he, goesFirst, if_pos he.symm, h1, h2]
  exact ⟨rfl, rfl⟩

/-- Of two slots at or before the target time, the newer one goes first. -/
theorem goesFirst_newer (h : age x.1.start t < age y.1.start t) :
    goesFirst true t x y = true ∧ goesFirst true t y x = false := by
  rw [goesFirst, if_neg (Nat.ne_of_lt h), goesFirst, if_neg (Nat.ne_of_gt h)]
  exact ⟨decide_eq_true h, decide_eq_false (Nat.lt_asymm h)⟩

/-- Of two slots after the target time, the one nearer to it goes first. -/
theorem goesFirst_nearer (h : age y.1.start t < age x.1.start t) :
    goesFirst false t x y = true ∧ goesFirst false t y x = false := by
  rw [goesFirst, if_neg (Nat.ne_of_gt h), goesFirst, if_neg (Nat.ne_of_lt h)]
  exact ⟨decide_eq_true h, decide_eq_false (Nat.lt_asymm h)⟩

variable {ring : List Slot} {k : Nat} {z : Slot}

theorem Slot.candidate_iff : z.candidate = true ↔ z.state = .ready ∧ z.release = false := by
  simp [Slot.candidate]

theorem mem_candidates : x ∈ ring.zipIdx.filter (fun x => x.1.candidate) ↔
    ring[x.2]? = some x.1 ∧ x.1.state = .ready ∧ x.1.release = false := by
  rw [List.mem_filter, List.mem_zipIdx_iff_getElem?, Slot.candidate_iff]

/-- The slots of a ring among which a frame is selected (R121). -/
def selectable (ring : List Slot) (k : Nat) (z : Slot) : Prop := ring[k]? = some z ∧ z.state = .ready ∧ z.release = false

/-- A candidate at or before the target time that goes before all others of its kind is selected (R121). -/
theorem selectFrom_early (hk : selectable ring k z) (hz : (t - z.start).toNat < 2147483648)
    (h : ∀ j y, selectable ring j y → (t - y.start).toNat < 2147483648 → j ≠ k →
      (t - z.start).toNat < (t - y.start).toNat ∨ ((t - z.start).toNat = (t - y.start).toNat ∧
        0 < (z.seq - y.seq).toNat ∧ (z.seq - y.seq).toNat < 2147483648)) :
    selectFrom ring t = some ⟨k, z.seq, z.start, false⟩ := by
  have hbest : bestOf true t ((ring.zipIdx.filter fun x => x.1.candidate).filter fun x => notLater x.1.start t) =
      some (z, k) := by
    refine bestOf_unique (List.mem_filter.mpr ⟨mem_candidates.mpr hk, decide_eq_true hz⟩) fun b hb hne => ?_
    obtain ⟨hin, hearly⟩ := List.mem_filter.mp hb
    have hj : b.2 ≠ k := fun hj => hne (Prod.ext (Option.some.inj ((mem_candidates.mp hin).1.symm.trans (hj ▸ hk.1))) hj)
    rcases h b.2 b.1 (mem_candidates.mp hin) (of_decide_eq_true hearly) hj with hlt | ⟨heq, h0, hlt⟩
    · exact goesFirst_newer hlt
    · exact goesFirst_later heq h0 hlt
  simp only [selectFrom, hbest]
  rfl

/-- With every candidate after the target time, the nearest is selected (R121). -/
theorem selectFrom_late (hall : ∀ j y, selectable ring j y → 2147483648 ≤ (t - y.start).toNat) (hk : selectable ring k z)
    (h : ∀ j y, selectable ring j y → j ≠ k →
      (t - y.start).toNat < (t - z.start).toNat ∨ ((t - z.start).toNat = (t - y.start).toNat ∧
        0 < (z.seq - y.seq).toNat ∧ (z.seq - y.seq).toNat < 2147483648)) :
    selectFrom ring t = some ⟨k, z.seq, z.start, false⟩ := by
  have hnone : (ring.zipIdx.filter fun x => x.1.candidate).filter (fun x => notLater x.1.start t) = [] :=
    List.filter_eq_nil_iff.mpr fun b hb hearly =>
      absurd (of_decide_eq_true hearly) (Nat.not_lt.mpr (hall b.2 b.1 (mem_candidates.mp hb)))
  have hbest : bestOf false t (ring.zipIdx.filter fun x => x.1.candidate) = some (z, k) := by
    refine bestOf_unique (mem_candidates.mpr hk) fun b hb hne => ?_
    have hin := mem_candidates.mp hb
    have hj : b.2 ≠ k := fun hj => hne (Prod.ext (Option.some.inj (hin.1.symm.trans (hj ▸ hk.1))) hj)
    rcases h b.2 b.1 hin hj with hlt | ⟨heq, h0, hlt⟩
    · exact goesFirst_nearer hlt
    · exact goesFirst_later heq h0 hlt
  simp only [selectFrom, hnone, hbest, bestOf]
  rfl

/-- Without a candidate the slot that carries a pin is selected, if there is one (R122). -/
theorem selectFrom_none (hno : ∀ j y, ¬ selectable ring j y) :
    selectFrom ring t = (ring.zipIdx.find? fun x => x.1.pin != .none).map (selectionOf true) := by
  have hnone : ring.zipIdx.filter (fun x => x.1.candidate) = [] :=
    List.eq_nil_iff_forall_not_mem.mpr fun b hb => hno b.2 b.1 (mem_candidates.mp hb)
  simp only [selectFrom, hnone, bestOf, List.filter_nil]

theorem find_pinned (hz : ring[k]? = some z) (hp : z.pin ≠ .none)
    (hb : ∀ j y, j < k → ring[j]? = some y → y.pin = .none) :
    ring.zipIdx.find? (fun x => x.1.pin != .none) = some (z, k) := by
  obtain ⟨hlen, hget⟩ := List.getElem?_eq_some_iff.mp hz
  refine List.find?_eq_some_iff_getElem.mpr ⟨by simpa using hp, k, by simpa using hlen, by simp [hget], fun j hj => ?_⟩
  have hj' : j < ring.length := hj.trans hlen
  simp [hb j ring[j] hj (List.getElem?_eq_getElem hj')]

theorem find_unpinned (h : ∀ y ∈ ring, y.pin = .none) : ring.zipIdx.find? (fun x => x.1.pin != .none) = none :=
  List.find?_eq_none.mpr fun x hx => by
    simp [h x.1 (List.mem_of_getElem? (List.mem_zipIdx_iff_getElem?.mp hx))]

end Selection

/-! ### The start a hand-off asks for (R11) -/

section AskStart

variable {s : State} {o : Option Cam}

/-- The notice of an auto-start. -/
def State.startNotices (s : State) : Option Cam → List Notice
  | some c => if (s.port c).state = .off then
      [.cameraState c .off (if s.scriptOf c .start = [] then .waiting else .loading) .autoStart] else []
  | none => []

/-- A start asked for changes the ports, the monitors, the relay and, by its notice, the link. -/
theorem State.askStart_eq (h : ∀ c, o = some c → s.autoStarts c = true) : s.askStart o = { s with
    ports := (s.askStart o).ports, monitors := (s.askStart o).monitors, relay := (s.askStart o).relay
    link := (s.startNotices o).foldl Link.raise s.link } := by
  cases o with
  | none => rfl
  | some c =>
    obtain ⟨k, hk⟩ := State.cal_of_autoStarts (h c rfl)
    by_cases hoff : (s.port c).state = .off
    · by_cases he : s.scriptOf c .start = []
      · simp only [State.askStart, State.autoStart, State.startLive_waiting hk he, State.startNotices, if_pos he, hoff]
        rfl
      · simp only [State.askStart, State.autoStart, State.startLive_loading hk he, State.startNotices, if_neg he, hoff]
        rfl
    · simp only [State.askStart, State.autoStart, if_neg hoff, State.startNotices]
      rfl

/-- What the start is asked of does not depend on the Zoom Controller, the link, the raster or the arbiter. -/
theorem State.askStart_congr (h : ∀ c, o = some c → s.autoStarts c = true) (z : Zoom) (l : Link) (g : Otg) (a : Arbiter) :
    let t : State := { s with zoom := z, link := l, otg := g, arbiter := a }
    (t.askStart o).ports = (s.askStart o).ports ∧ (t.askStart o).monitors = (s.askStart o).monitors
      ∧ (t.askStart o).relay = (s.askStart o).relay := by
  intro t
  cases o with
  | none => exact ⟨rfl, rfl, rfl⟩
  | some c =>
    obtain ⟨k, hk⟩ := State.cal_of_autoStarts (h c rfl)
    by_cases hoff : (s.port c).state = .off
    · simp only [State.askStart, State.autoStart, if_pos hoff, if_pos (show (t.port c).state = .off from hoff)]
      by_cases he : s.scriptOf c .start = []
      · rw [State.startLive_waiting hk he, State.startLive_waiting (s := t) hk he]
        exact ⟨rfl, rfl, rfl⟩
      · rw [State.startLive_loading hk he, State.startLive_loading (s := t) hk he]
        exact ⟨rfl, rfl, rfl⟩
    · simp only [State.askStart, State.autoStart, if_neg hoff, if_neg (show ¬ (t.port c).state = .off from hoff)]
      exact ⟨rfl, rfl, rfl⟩

/-- A start changes of a port its state, its start mode and its fault reason. -/
theorem State.askStart_port (h : ∀ c, o = some c → s.autoStarts c = true) (d : Cam) : ∃ m r,
    (s.askStart o).port d = { s.port d with
      state := (if o = some d ∧ (s.port d).state = .off then
        (if s.scriptOf d .start = [] then .waiting else .loading) else (s.port d).state), startMode := m, faultReason := r } := by
  cases o with
  | none => exact ⟨(s.port d).startMode, (s.port d).faultReason, by simp [State.askStart]⟩
  | some c =>
    obtain ⟨k, hk⟩ := State.cal_of_autoStarts (h c rfl)
    by_cases hoff : (s.port c).state = .off
    · by_cases hd : d = c
      · subst hd
        refine ⟨.live, .none, ?_⟩
        by_cases he : s.scriptOf d .start = []
        · rw [State.askStart, State.autoStart, if_pos hoff, State.startLive_waiting hk he]
          simp [hoff, he]
        · rw [State.askStart, State.autoStart, if_pos hoff, State.startLive_loading hk he]
          simp [hoff, he]
      · refine ⟨(s.port d).startMode, (s.port d).faultReason, ?_⟩
        have hne : ¬ (some c = some d ∧ (s.port d).state = .off) := fun hcd => hd (Option.some.inj hcd.1).symm
        rw [if_neg hne, State.askStart, State.autoStart, if_pos hoff]
        by_cases he : s.scriptOf c .start = []
        · rw [State.startLive_waiting hk he]
          exact State.port_setPort_ne s _ hd
        · rw [State.startLive_loading hk he]
          exact State.port_setPort_ne s _ hd
    · refine ⟨(s.port d).startMode, (s.port d).faultReason, ?_⟩
      rw [State.askStart, State.autoStart, if_neg hoff, if_neg]
      rintro ⟨hcd, hd⟩
      exact hoff (Option.some.inj hcd ▸ hd)

end AskStart

/-! ### The composition, stage by stage (R59) -/

section Compose

variable (s : State)

/-- The hand-off settings in force at this boundary (R82). -/
def State.settingsNow : HandoffSettings := s.zoom.pendingSettings.getD s.zoom.settings

/-- The ramp step at this boundary: queue, rest value and notices (R47). -/
def State.rampNow : List Segment × Nat × List Notice :=
  rampStart ({ s with zoom := { s.zoom with priorM := .const none } }).zoomBounds s.zoom.lastApplied
    (nextFrame s.zoom.current) s.zoom.queue s.zoom.rest

theorem State.taken_eq : s.takeCals.applySettings = { s with zoom := { s.zoom with
    settings := s.settingsNow, pendingSettings := none, priorM := .const none } } := by
  unfold State.applySettings State.settingsNow
  cases h : s.zoom.pendingSettings with
  | none => simp [State.takeCals, h]
  | some g => simp [State.takeCals, h]

theorem State.targetNow_eq : s.targetNow = s.timebase - BitVec.ofNat 32 s.settingsNow.latency := by
  rw [State.targetNow, State.taken_eq]
  rfl

theorem State.ramped_eq : s.ramped = { s with
    zoom := { s.zoom with
      settings := s.settingsNow, pendingSettings := none, queue := s.rampNow.1, rest := s.rampNow.2.1, priorM := .const none }
    link := s.rampNow.2.2.foldl Link.raise s.link } := by
  rw [State.ramped, State.taken_eq, State.rampStep, State.raiseAll_eq]
  rfl

/-- The Zoom Controller as the hand-off stage finds it. -/
def State.zoomNow : Zoom := { s.zoom with
  settings := s.settingsNow, pendingSettings := none, queue := s.rampNow.1, rest := s.rampNow.2.1, priorM := .const none
  selection := Quad.tab (s.selectionNow s.targetNow)
  prevSelected := Quad.tab fun c => (s.selectionNow s.targetNow c).map Selection.seq }

theorem State.chosen_eq : s.chosen = { s with zoom := s.zoomNow, link := s.rampNow.2.2.foldl Link.raise s.link } := by
  rw [State.chosen, State.ramped_eq, State.selectFrames]
  simp only [Quad.get_tab]
  rfl

theorem State.candidate_eq : s.ramped.candidate = rampCandidate s.rampNow.1 s.rampNow.2.1 := by
  rw [State.ramped_eq]
  rfl

/-- The state with the Zoom Controller that the hand-off stage finds. -/
def State.staged : State := { s with zoom := s.zoomNow }

theorem State.verdictNow_eq : s.verdictNow = s.staged.handoff
    ⟨rampCandidate s.rampNow.1 s.rampNow.2.1, Quad.tab (s.freshNow s.targetNow), nextFrame s.zoom.current⟩ := by
  rw [State.verdictNow, State.candidate_eq, State.chosen_eq, State.ramped_eq]
  rfl

theorem State.verdictNow_asks : ∀ c, s.verdictNow.autoStart = some c → s.autoStarts c = true := by
  rw [State.verdictNow_eq]
  exact State.handoff_asks s.staged _

/-- The state that the hand-off stage leaves. -/
theorem State.settled_eq : s.settled = { s with
    zoom := { s.zoomNow with
      engine := s.verdictNow.engine, pendingCut := s.verdictNow.pendingCut, view := s.verdictNow.view }
    ports := (s.staged.askStart s.verdictNow.autoStart).ports
    monitors := (s.staged.askStart s.verdictNow.autoStart).monitors
    relay := (s.staged.askStart s.verdictNow.autoStart).relay
    link := (s.startNotices s.verdictNow.autoStart).foldl Link.raise
      (s.verdictNow.notices.foldl Link.raise (s.rampNow.2.2.foldl Link.raise s.link)) } := by
  have hasks := s.verdictNow_asks
  rw [State.settled, State.settle, State.raiseAll_eq, State.chosen_eq]
  generalize s.verdictNow = v at hasks ⊢
  let p : State := { s with
    zoom := { s.zoomNow with engine := v.engine, pendingCut := v.pendingCut, view := v.view }
    link := v.notices.foldl Link.raise (s.rampNow.2.2.foldl Link.raise s.link) }
  obtain ⟨hports, hmonitors, hrelay⟩ : (p.askStart v.autoStart).ports = (s.staged.askStart v.autoStart).ports ∧
      (p.askStart v.autoStart).monitors = (s.staged.askStart v.autoStart).monitors ∧
      (p.askStart v.autoStart).relay = (s.staged.askStart v.autoStart).relay :=
    State.askStart_congr (s := s.staged) hasks p.zoom p.link p.otg p.arbiter
  refine (State.askStart_eq (s := p) hasks).trans ?_
  rw [hports, hmonitors, hrelay]
  rfl

variable {s}

/-- The hand-off stage leaves format, calibration and ring of every port as they were. -/
theorem State.settled_port (c : Cam) : ∃ x m r,
    s.settled.port c = { s.port c with state := x, startMode := m, faultReason := r } := by
  obtain ⟨m, r, h⟩ := State.askStart_port (s := s.staged) s.verdictNow_asks c
  refine ⟨_, m, r, Eq.trans ?_ h⟩
  rw [State.settled_eq]
  rfl

theorem State.window_congr {s t : State} (hp : ∀ c, (t.port c).cal = (s.port c).cal) (hm : t.zoom.priorM = s.zoom.priorM)
    (hz : t.zoom.zmax = s.zoom.zmax) (e : Engine) : t.window e = s.window e := by
  have hmOf : t.mOf = s.mOf := funext fun c => by rw [State.mOf, State.mOf, State.calM, State.calM, hp, hm]
  have hzmax : t.zmaxOf = s.zmaxOf := funext fun c => by rw [State.zmaxOf, State.zmaxOf, hp, hz]
  cases e <;> simp only [State.window, hmOf, hzmax]

theorem State.corrected_congr {s t : State} (hp : ∀ c, (t.port c).ring = (s.port c).ring)
    (ho : t.zoom.outgoing = s.zoom.outgoing) (hi : t.zoom.incoming = s.zoom.incoming)
    (hs : t.zoom.selection = s.zoom.selection) (hc : t.zoom.current = s.zoom.current) (k : CorrStep) :
    t.corrected k = s.corrected k := by
  have hselected : t.selectedSlot = s.selectedSlot := funext fun c => by
    rw [State.selectedSlot, State.selectedSlot, hs, hp]
  have hentry : t.entrySlot = s.entrySlot := funext fun e => by rw [State.entrySlot, State.entrySlot, hp]
  cases k <;> simp only [State.corrected, State.measureAgainstRecord, State.smoothIncoming, hselected, hentry, ho, hi, hc]

theorem State.geometry_congr {s t : State} (c : Cam) (hf : (t.port c).format = (s.port c).format)
    (hk : (t.port c).cal = (s.port c).cal) (ho : t.otg.format = s.otg.format) (hd : t.zoom.distance = s.zoom.distance) (z : Nat) :
    t.geometry c z = s.geometry c z := by
  rw [State.geometry, State.geometry, hf, hk, ho, hd]

variable (s)

/-- The window of the engine state that the hand-off stage settles (R58). -/
def State.windowNow : Option (Nat × Nat) := s.staged.window s.verdictNow.engine

theorem State.settled_window : s.settled.window s.settled.zoom.engine = s.windowNow := by
  have hengine : s.settled.zoom.engine = s.verdictNow.engine := by rw [State.settled_eq]
  rw [hengine]
  refine State.window_congr (fun c => ?_) (by rw [State.settled_eq]; rfl) (by rw [State.settled_eq]; rfl) _
  obtain ⟨x, m, r, h⟩ := s.settled_port c
  rw [h]
  rfl

/-- The zoom of the frame before, or the rest value before the first. -/
def State.lastNow : Nat := match s.zoom.current with
  | some x => x.applied
  | none => s.rampNow.2.1

theorem State.windowedNow_eq : s.windowedNow = windowZoom s.windowNow s.lastNow (rampCandidate s.rampNow.1 s.rampNow.2.1)
    s.verdictNow.forcing := by
  have hlast : s.settled.zoom.lastApplied = s.lastNow := by
    rw [State.settled_eq]
    rfl
  rw [State.windowedNow, State.settled_window, State.candidate_eq, hlast]

/-- The ramp after the zoom-window stage (R49). -/
def State.advancedNow : List Segment × Nat :=
  if s.windowNow.isSome && !s.windowedNow.held && !s.windowedNow.forced then rampAdvance s.rampNow.1 s.rampNow.2.1
  else (s.rampNow.1, s.rampNow.2.1)

/-- The correction records after the correction update stage (R80). -/
def State.correctedNow : Corr × Corr := s.staged.corrected s.verdictNow.corr

theorem State.unpublished_eq : s.unpublished = { s.settled with
    zoom := { s.settled.zoom with
      queue := s.advancedNow.1, rest := s.advancedNow.2, heldRun := s.windowedNow.held
      outgoing := s.correctedNow.1, incoming := s.correctedNow.2 }
    link := (windowNotices s.windowedNow s.zoom.heldRun (nextFrame s.zoom.current)).foldl Link.raise s.settled.link } := by
  have hzoom : s.settled.zoom = { s.zoomNow with
      engine := s.verdictNow.engine, pendingCut := s.verdictNow.pendingCut, view := s.verdictNow.view } := by
    rw [State.settled_eq]
  have hcorr : ∀ (z : Zoom) (l : Link), z.outgoing = s.zoom.outgoing → z.incoming = s.zoom.incoming →
      z.selection = s.zoomNow.selection → z.current = s.zoom.current →
      ({ s.settled with zoom := z, link := l } : State).corrected s.verdictNow.corr = s.correctedNow := by
    intro z l ho hi hsel hcur
    refine State.corrected_congr (fun c => ?_) ho hi hsel hcur _
    obtain ⟨x, m, r, h⟩ := s.settled_port c
    show (s.settled.port c).ring = _
    rw [h]
    rfl
  rw [State.unpublished, State.settleZoom, State.raiseAll_eq, State.updateCorr, State.settled_window]
  dsimp only
  rw [hzoom, hcorr _ _ (by rfl) (by rfl) (by rfl) (by rfl)]
  rfl

/-- The Zoom Controller that publication leaves. -/
theorem State.compose_zoom : s.compose.zoom = { s.zoomNow with
    engine := s.verdictNow.engine, pendingCut := s.verdictNow.pendingCut, view := s.verdictNow.view
    queue := s.advancedNow.1, rest := s.advancedNow.2, heldRun := s.windowedNow.held
    outgoing := s.correctedNow.1, incoming := s.correctedNow.2
    current := some s.composedRecord, previous := s.zoom.current } := by
  rw [State.compose_eq, State.publish, State.applyPins, State.unpublished_eq, State.settled_eq]
  rfl

/-- The notices of the stages, in their order. -/
def State.composeNotices : List Notice :=
  s.rampNow.2.2 ++ s.verdictNow.notices ++ s.startNotices s.verdictNow.autoStart ++
    windowNotices s.windowedNow s.zoom.heldRun (nextFrame s.zoom.current)

/-- What a composition leaves beside the Zoom Controller and the rings. -/
theorem State.compose_rest : s.compose = { s with
    zoom := s.compose.zoom, ports := s.compose.ports
    monitors := (s.staged.askStart s.verdictNow.autoStart).monitors
    relay := (s.staged.askStart s.verdictNow.autoStart).relay
    link := s.composeNotices.foldl Link.raise s.link } := by
  have hlink : s.composeNotices.foldl Link.raise s.link =
      (windowNotices s.windowedNow s.zoom.heldRun (nextFrame s.zoom.current)).foldl Link.raise
        ((s.startNotices s.verdictNow.autoStart).foldl Link.raise
          (s.verdictNow.notices.foldl Link.raise (s.rampNow.2.2.foldl Link.raise s.link))) := by
    rw [State.composeNotices, List.foldl_append, List.foldl_append, List.foldl_append]
  rw [hlink, State.compose_eq, State.publish, State.applyPins, State.unpublished_eq, State.settled_eq]

/-- A port after publication: the pins follow the record (R125). -/
theorem State.compose_port_eq (c : Cam) : s.compose.port c = { (s.staged.askStart s.verdictNow.autoStart).port c with
    ring := pinRing (s.composedRecord.pinOf c) (s.port c).ring } := by
  have hport : s.unpublished.port c = (s.staged.askStart s.verdictNow.autoStart).port c := by
    rw [State.unpublished_eq, State.settled_eq]
    rfl
  rw [State.compose_port, (s.unpublished_rings c).2.1, hport]

/-- The entry of a camera in the record, from its selection, at the applied zoom (R128). -/
def State.entryNow (applied : Nat) (c : Cam) (k : Corr) : Option SourceEntry :=
  (s.selectionNow s.targetNow c).map fun x => ⟨c, x.slot, x.seq, x.start, s.geometry c applied, k, x.stale⟩

/-- The geometry of a source, as publication reckons it. -/
theorem State.unpublished_entry (applied : Nat) (c : Cam) (k : Corr) : s.unpublished.sourceEntry applied c k =
    s.entryNow applied c k := by
  have hsel : s.unpublished.zoom.selection.get c = s.selectionNow s.targetNow c := by
    rw [s.unpublished_zoom.1, State.chosen_eq]
    exact Quad.get_tab _ c
  have hgeometry : s.unpublished.geometry c applied = s.geometry c applied := by
    obtain ⟨x, m, r, h⟩ := s.settled_port c
    have hport : s.unpublished.port c = s.settled.port c := by rw [State.port, State.unpublished_ports, State.port]
    refine State.geometry_congr c ?_ ?_ ?_ ?_ applied
    · rw [hport, h]
    · rw [hport, h]
    · rw [State.unpublished_eq, State.settled_eq]
    · rw [State.unpublished_eq, State.settled_eq]
      rfl
  rw [State.sourceEntry, hsel, hgeometry, State.entryNow]

/-- The sources of the record (R80, R127), in FROZEN those of the record before (R74). -/
def State.sourcesNow (applied : Nat) : Engine → Option SourceEntry × Option SourceEntry
  | .steady p => (s.entryNow applied p s.correctedNow.1, none)
  | .prepare o _ _ _ => (s.entryNow applied o s.correctedNow.1, none)
  | .blend o i _ _ _ => (s.entryNow applied o s.correctedNow.1, s.entryNow applied i s.correctedNow.2)
  | .compare c d _ => (s.entryNow applied c .identity, s.entryNow applied d .identity)
  | .frozen => (s.zoom.current.bind Record.primary, s.zoom.current.bind Record.secondary)
  | .stopped => (none, none)

theorem State.unpublished_sources (applied : Nat) (e : Engine) :
    s.unpublished.sources applied e = s.sourcesNow applied e := by
  have hout : s.unpublished.zoom.outgoing = s.correctedNow.1 := by rw [State.unpublished_eq]
  have hinc : s.unpublished.zoom.incoming = s.correctedNow.2 := by rw [State.unpublished_eq]
  cases e <;> simp only [State.sources, State.sourcesNow, State.unpublished_entry, State.entryNow, hout, hinc,
    s.unpublished_zoom.2]

/-- The record that this boundary publishes (R127). -/
def State.recordNow : Record where
  frame := nextFrame s.zoom.current
  timestamp := s.timebase
  target := s.targetNow
  candidate := rampCandidate s.rampNow.1 s.rampNow.2.1
  applied := s.windowedNow.applied
  engine := s.verdictNow.engine
  weight := s.verdictNow.engine.weight
  view := s.verdictNow.view
  primary := (s.sourcesNow s.windowedNow.applied s.verdictNow.engine).1
  secondary := (s.sourcesNow s.windowedNow.applied s.verdictNow.engine).2
  held := s.windowedNow.held
  forced := s.windowedNow.forced
  frozen := s.verdictNow.engine.isFrozen
  approx := approxOf (s.sourcesNow s.windowedNow.applied s.verdictNow.engine).1
    (s.sourcesNow s.windowedNow.applied s.verdictNow.engine).2
  underruns := 0

theorem State.composedRecord_eq : s.composedRecord = s.recordNow := by
  have hengine : s.unpublished.zoom.engine = s.verdictNow.engine := by rw [State.unpublished_eq, State.settled_eq]
  have hview : s.unpublished.zoom.view = s.verdictNow.view := by rw [State.unpublished_eq, State.settled_eq]
  have htime : s.unpublished.timebase = s.timebase := by rw [State.unpublished_eq, State.settled_eq]
  rw [State.composedRecord, State.newRecord, hengine, hview, htime, s.unpublished_zoom.2, State.unpublished_sources,
    State.candidate_eq]
  rfl

end Compose

/-! ### The pins of a record, written out (R125, R126) -/

theorem Slot.unpin_eq (x : Slot) : x.unpin = if x.pin ≠ .none ∧ x.release = true then
    { x with state := .free, pin := .none, release := false, outstanding := 0, full := none, region := none }
    else { x with pin := .none } := by
  by_cases hp : x.pin = .none
  · simp only [Slot.unpin, hp, if_true, ne_eq, not_true_eq_false, false_and, if_false]
    rw [← hp]
  · by_cases hr : x.release = true <;> simp [Slot.unpin, hp, hr]

theorem pinRing_eq {named : Option (Nat × Pin)} (h : ∀ k role, named = some (k, role) → role ≠ .none) (ring : List Slot) :
    pinRing named ring = ring.mapIdx fun k x =>
      if pinAt named k ≠ .none then { x with pin := pinAt named k }
      else if x.pin ≠ .none ∧ x.release = true then
        { x with state := .free, pin := .none, release := false, outstanding := 0, full := none, region := none }
      else { x with pin := .none } := by
  refine congrArg (ring.mapIdx ·) (funext fun k => funext fun x => ?_)
  rw [← Slot.unpin_eq]
  match named, h with
  | none, _ => rfl
  | some (j, role), h =>
    by_cases hj : k = j
    · simp [pinAt, hj, h j role rfl]
    · simp [pinAt, hj, Ne.symm hj]

/-! ### The raster at a boundary that begins a frame (R135, R141, R176) -/

section Begin

variable {s : State} {f : OutFormat} {b : Blanking}

theorem Otg.begin_eq {o : Otg} (hf : o.format = some f) (hb : o.blanking = some b) : o.begin = { o with
    raster := .blanking 0 false, pulse := Quad.tab fun c => placePulse (o.fsync.get c) (frameMicros f b)
    lineActive := Quad.tab fun c => lineAcross (o.lineActive.get c) (placePulse (o.fsync.get c) (frameMicros f b)) } := by
  simp only [Otg.begin, hf, hb, Quad.get_tab]

/-- A boundary that begins a frame: composition, first requests, raster and pulses. -/
theorem State.beginFrame_eq (hf : s.otg.format = some f)
    (hb : (match s.otg.shadow with | some x => some x | none => s.otg.blanking) = some b) (phase : Nat) :
    let u := s.sent f.wo
    s.beginFrame phase = { u.compose with
      composer := s.composer.openFrame u.recordNow f.ho
      otg := { u.otg with
        raster := .blanking 0 false, phase := phase
        pulse := Quad.tab fun c => placePulse (u.otg.fsync.get c) (frameMicros f b)
        lineActive := Quad.tab fun c => lineAcross (s.otg.lineActive.get c) (placePulse (u.otg.fsync.get c) (frameMicros f b)) } } := by
  intro u
  have hotg : u.compose.otg = u.otg := by rw [State.compose_rest]
  have hcomposer : u.compose.composer = s.composer := by rw [State.compose_rest]; rfl
  have hcurrent : u.compose.zoom.current = some u.recordNow := by rw [State.compose_zoom, State.composedRecord_eq]
  have hopen : u.compose.openWindows = { u.compose with composer := s.composer.openFrame u.recordNow f.ho } := by
    have hformat : u.compose.otg.format = some f := by rw [hotg]; exact hf
    simp only [State.openWindows, hcurrent, hformat, hcomposer]
  rw [State.beginFrame, State.sent_eq hf, hopen]
  dsimp only
  rw [hotg, Otg.begin_eq (o := u.otg) hf hb]
  rfl

end Begin

/-- A line stays active over a boundary when the next pulse begins at once (R176; entry 26). -/
theorem lineAcross_placePulse (active : Bool) (x : Fsync) (pus : Nat) : lineAcross active (placePulse x pus) = true ↔
    active = true ∧ x.enable = true ∧ effectiveOffset x pus = 0 := by
  by_cases h : x.enable = true <;> simp [lineAcross, placePulse, h]

/-- A selection is fresh when its sequence number is another than the one before (R123). -/
theorem isFresh_iff {sel : Option Selection} {prev : Option Word} :
    isFresh sel prev = true ↔ ∃ x, sel = some x ∧ prev ≠ some x.seq := by
  cases sel <;> simp [isFresh]

theorem approxOf_iff (p q : Option SourceEntry) :
    approxOf p q = true ↔ ∃ e, (p = some e ∨ q = some e) ∧ e.corr.approx = true := by
  simp only [approxOf, Bool.or_eq_true, Option.any_eq_true]
  constructor
  · rintro (⟨e, he, ha⟩ | ⟨e, he, ha⟩)
    · exact ⟨e, .inl he, ha⟩
    · exact ⟨e, .inr he, ha⟩
  · rintro ⟨e, he | he, ha⟩
    · exact .inl ⟨e, he, ha⟩
    · exact .inr ⟨e, he, ha⟩

theorem windowNotices_eq (w : Windowed) (heldBefore : Bool) (frame : Word) : windowNotices w heldBefore frame =
    if w.forced = true then [.zoomLimit .forced w.applied frame]
    else if w.held = true ∧ heldBefore = false then [.zoomLimit .held w.applied frame]
    else [] := by
  simp only [windowNotices, Bool.and_eq_true, Bool.not_eq_true']

/-- Settles O42: the state a boundary leaves, read off the composition written out. -/
theorem boundaryComposesFrame : Obligations.BoundaryComposesFrame := by
  unfold Obligations.BoundaryComposesFrame
  intro s f b hf hb
  refine ⟨fun old last hold hm hstop hr hl => ?boundary, fun phase => ⟨(s.sent f.wo).recordNow, ?_⟩⟩
  case boundary =>
    intro period hp
    rw [exec_boundary hm hf hold hr hl hp, State.boundary, hstop]
    have hcarry : s.otg.carryPhase = s.otg.phase - period := by
      simp only [Otg.carryPhase, hf, hold]
      rfl
    rw [← hcarry]
  let u := s.sent f.wo
  intro t z settings before ramp h v asked window last w entry begun starts limits
  have hbegin : t = _ := State.beginFrame_eq hf hb phase
  have hzoom : t.zoom = _ := (congrArg State.zoom hbegin).trans u.compose_zoom
  rw [State.composedRecord_eq] at hzoom
  have hselection : ∀ c, t.zoom.selection.get c = u.selectionNow u.targetNow c := fun c => by
    rw [hzoom]
    exact Quad.get_tab _ c
  have hh : h = { s with zoom := u.zoomNow } := by
    show ({ s with zoom := { z with
      settings := settings, pendingSettings := none, queue := ramp.1, rest := ramp.2.1, priorM := .const none
      selection := t.zoom.selection, prevSelected := t.zoom.prevSelected } } : State) = _
    rw [hzoom]
    rfl
  have hv : v = u.verdictNow := by
    rw [State.verdictNow_eq]
    show h.handoff _ = _
    rw [hh]
    rfl
  have hwindow : window = u.windowNow := by
    show h.window u.verdictNow.engine = _
    rw [hh]
    rfl
  have hw : w = u.windowedNow := by
    rw [State.windowedNow_eq, ← hwindow, ← hv]
    rfl
  have hentry : ∀ c k, entry c k = u.entryNow u.windowedNow.applied c k := fun c k => by
    rw [State.entryNow, ← hselection]
    rfl
  have hcorrected : (t.zoom.outgoing, t.zoom.incoming) = h.corrected v.corr := by
    rw [hzoom, hh, hv]
    rfl
  have hasks : ∀ c, v.autoStart = some c → s.autoStarts c = true := fun c hc => u.verdictNow_asks c (hv ▸ hc)
  have hstarted : asked = h.askStart v.autoStart := by
    show (match v.autoStart with | some c => h.autoStart c | none => h) = _
    cases v.autoStart <;> rfl
  obtain ⟨haskedPorts, haskedMonitors, haskedRelay⟩ : asked.ports = (u.staged.askStart u.verdictNow.autoStart).ports ∧
      asked.monitors = (u.staged.askStart u.verdictNow.autoStart).monitors ∧
      asked.relay = (u.staged.askStart u.verdictNow.autoStart).relay := by
    rw [hstarted, hh, hv]
    exact State.askStart_congr (s := u.staged) u.verdictNow_asks u.zoomNow s.link s.otg s.arbiter
  have hport : ∀ c, t.port c = { asked.port c with ring := pinRing (u.recordNow.pinOf c) (s.port c).ring } := fun c => by
    have hcompose := u.compose_port_eq c
    rw [State.composedRecord_eq] at hcompose
    rw [State.port, State.port, haskedPorts, hbegin]
    exact hcompose
  have hfsync : ∀ c, t.otg.fsync.get c = u.otg.fsync.get c := fun c => by rw [hbegin]
  have hpins : ∀ c k role, u.recordNow.pinOf c = some (k, role) → role ≠ .none := fun c k role hp =>
    (Record.pinOf_source hp).1
  refine ⟨by rw [hzoom], ?mode, ?timebase, ?pending, by rw [hzoom]; rfl, by rw [hzoom]; rfl, by rw [hzoom]; rfl,
    by rw [hzoom]; rfl, by rw [hzoom]; rfl, by rw [hzoom]; rfl, rfl, rfl, u.targetNow_eq, rfl, rfl, ?selection,
    congrArg Verdict.engine hv.symm, by rw [hzoom, hv], by rw [hzoom, hv], congrArg Verdict.view hv.symm, by rw [hzoom, hv],
    ?monitors, ?relay, fun c => by rw [hport c], ?state, congrArg Windowed.applied hw.symm, congrArg Windowed.held hw.symm,
    congrArg Windowed.forced hw.symm, by rw [hzoom, hw], ?within, ?ramp, hcorrected, ?sources, ?weight, ?frozen, ?approx,
    ?rings, ?link, ?format, ?blanking, ?shadow, ?raster, ?phase, ?stop, ?line, ?fsync, ?pulse, ?active, ?arbiter, ?primary,
    ?secondary⟩
  case mode => rw [hbegin, State.compose_rest]; rfl
  case timebase => rw [hbegin, State.compose_rest]; rfl
  case pending => rw [hbegin, State.compose_rest]; rfl
  case selection =>
    intro c ring eligible sel candidate old later
    have heligible : s.eligible c = true ↔ eligible := Port.eligible_iff
    have hnow : sel = if s.eligible c then selectFrom ring u.targetNow else none := hselection c
    refine ⟨fun hne => hnow.trans (if_neg (mt heligible.mp hne)), fun he => ?_, ?_, ?_⟩
    · rw [if_pos (heligible.mpr he)] at hnow
      refine ⟨fun k x hk hx hfirst => hnow.trans (selectFrom_early hk hx hfirst),
        fun k x hall hk hfirst => hnow.trans (selectFrom_late hall hk hfirst), fun hno => ?_⟩
      rw [selectFrom_none hno] at hnow
      refine ⟨fun k x hx hp hb => hnow.trans ?_, fun hp => hnow.trans ?_⟩
      · rw [find_pinned hx hp hb]
        rfl
      · rw [find_unpinned hp]
        rfl
    · rw [hzoom]
      exact (Quad.get_tab _ c).trans (congrArg _ (hselection c).symm)
    · rw [← isFresh_iff, show sel = u.selectionNow u.targetNow c from hselection c]
      rfl
  case monitors => rw [hbegin, haskedMonitors, State.compose_rest]
  case relay => rw [hbegin, haskedRelay, State.compose_rest]
  case state =>
    intro c
    obtain ⟨m, r, hstart⟩ := State.askStart_port (s := h) hasks c
    rw [hport c, hstarted, hstart]
    rfl
  case within =>
    intro lo hi hwin hle
    show lo ≤ u.windowedNow.applied ∧ u.windowedNow.applied ≤ hi
    rw [State.windowedNow_eq, ← hwindow, hwin]
    obtain ⟨hlo, hhi, -⟩ := windowZoom_within (last := u.lastNow) (zc := rampCandidate u.rampNow.1 u.rampNow.2.1)
      (forcing := u.verdictNow.forcing) hle
    exact ⟨hlo, hhi⟩
  case ramp =>
    have hadvanced : (t.zoom.queue, t.zoom.rest) = u.advancedNow := by rw [hzoom]
    refine hadvanced.trans (if_congr ?_ rfl rfl)
    rw [hwindow, hw]
    simp [Option.isSome_iff_ne_none, and_assoc]
  case sources =>
    have hcorrections : (t.zoom.outgoing, t.zoom.incoming) = u.correctedNow := by rw [hzoom]
    obtain ⟨hout, hinc⟩ := Prod.mk.inj hcorrections
    show (u.sourcesNow u.windowedNow.applied u.verdictNow.engine) = match u.verdictNow.engine with
      | .steady p => (entry p t.zoom.outgoing, none)
      | .prepare o _ _ _ => (entry o t.zoom.outgoing, none)
      | .blend o i _ _ _ => (entry o t.zoom.outgoing, entry i t.zoom.incoming)
      | .compare c d _ => (entry c .identity, entry d .identity)
      | .frozen => (z.current.bind Record.primary, z.current.bind Record.secondary)
      | .stopped => (none, none)
    simp only [hentry, hout, hinc]
    cases u.verdictNow.engine <;> rfl
  case weight =>
    show u.verdictNow.engine.weight = match u.verdictNow.engine with | .blend _ _ k n _ => (256 * k + n / 2) / n | _ => 0
    cases u.verdictNow.engine <;> rfl
  case frozen =>
    show u.verdictNow.engine.isFrozen = true ↔ u.verdictNow.engine = .frozen
    cases u.verdictNow.engine <;> simp [Engine.isFrozen]
  case approx => exact approxOf_iff _ _
  case rings => exact fun c => (congrArg Port.ring (hport c)).trans (pinRing_eq (hpins c) _)
  case link =>
    have hlink : t.link = u.composeNotices.foldl Link.raise u.link := by
      rw [hbegin, State.compose_rest]
    have hnotices : u.composeNotices = ramp.2.2 ++ v.notices ++ starts ++ limits := by
      have hstarts : u.startNotices v.autoStart = starts := by
        show u.startNotices v.autoStart = match v.autoStart with
          | some c => if (s.port c).state = .off then [.cameraState c .off (begun c) .autoStart] else []
          | none => []
        cases v.autoStart <;> rfl
      rw [State.composeNotices, windowNotices_eq, ← hw, ← hv, hstarts]
      rfl
    rw [hlink, hnotices]
    rfl
  case format => rw [hbegin]; rfl
  case blanking => rw [hbegin]; exact hb
  case shadow => rw [hbegin]; rfl
  case raster => rw [hbegin]
  case phase => rw [hbegin]
  case stop => rw [hbegin]; rfl
  case line => rw [hbegin]; rfl
  case fsync =>
    intro c
    rw [hbegin]
    exact ⟨Quad.get_tab _ c, by cases c <;> rfl⟩
  case pulse =>
    intro c x pus
    have hplaced : t.otg.pulse.get c = placePulse x pus := by
      rw [hbegin, show x = u.otg.fsync.get c from hfsync c]
      exact Quad.get_tab _ c
    rw [hplaced]
    rfl
  case active =>
    intro c x pus
    have hacross : t.otg.lineActive.get c = lineAcross (s.otg.lineActive.get c) (placePulse x pus) := by
      rw [hbegin, show x = u.otg.fsync.get c from hfsync c]
      exact Quad.get_tab _ c
    rw [hacross, lineAcross_placePulse]
    rfl
  case arbiter => rw [hbegin, State.compose_rest]; rfl
  case primary => rw [hbegin]; rfl
  case secondary => rw [hbegin]; rfl

end Sys2Proof.Machine
end
